-- ==== Sys2Proof/Word.lean ====
section
/-! DEFINITION. The plain words of the FL416: bytes, byte strings and the device millisecond time. -/

namespace Sys2Proof

/-- One byte on the shelf highway. -/
abbrev Byte := BitVec 8

/-- A run of bytes, first byte first: a frame, its payload, the parameters of a desk command. -/
abbrev Bytes := List Byte

/-- The device millisecond time, a 48-bit count (00_scope.md, Time). -/
abbrev Time := BitVec 48

end Sys2Proof
end

