-- ==== Sys2Proof/Syntax.lean ====
section
/-! DEFINITION. The commands of the FL416: one constructor for each row of spec/opcode_table.json. -/

namespace Sys2Proof

/-- The two highway ports: U faces the exchange, S the shelves and heads (chapter 2). -/
inductive PortId where
  | u
  | s
deriving DecidableEq, Repr

/-- One step of the part, whole and indivisible (95_what_each_step_holds.md). A desk command's row is the Command Unit
taking the DESK frame at the head of its command queue (R178, R179): its operands are that frame's tag and parameter
bytes, so its constructor carries none (log entry 3). -/
inductive Instr where
  /-- COLD_RESET, R33: power-up or a low level on RSTN. -/
  | coldReset
  /-- RSTN_RELEASE, R34: RSTN goes high. -/
  | rstnRelease
  /-- BYPASS_END, R35: the 5 ms bypass is over. -/
  | bypassEnd
  /-- FRAME_ARRIVES_PORT_U, R20 and R25: a frame's last byte has been received; its bytes, from kind to check. -/
  | frameArrivesPortU (bytes : Bytes)
  /-- FRAME_ARRIVES_PORT_S, R20 and R26. -/
  | frameArrivesPortS (bytes : Bytes)
  /-- CREDIT_ANNOUNCEMENT, R23: the neighbour of a port announces how many further frames it may be sent. -/
  | creditAnnouncement (port : PortId) (credit : Nat)
  /-- FRAME_LEAVES_PORT, R30: the last byte of the frame the port is sending has been sent. -/
  | frameLeavesPort (port : PortId)
  /-- S_OWN_OFFER_ENTERS, R29: the oldest waiting offer enters the S-own queue. -/
  | sOwnOfferEnters
  /-- HOLD_RECORD_LAPSE, R44: the record at this place of the hold queue (0 the oldest) reaches its expiry. -/
  | holdRecordLapse (place : Nat)
  /-- FLUSH_OFFER, R46: the flush of this line offers its next record. -/
  | flushOffer (line : Nat)
  /-- AUDIT_TIMER_EXPIRY, R12: the audit timer of this card expires. -/
  | auditTimerExpiry (card : Nat)
  /-- TAP_CONFIRM_TIMER_EXPIRY, R58: the confirm timer of this bus expires in TAPPING. -/
  | tapConfirmTimerExpiry (bus : Nat)
  /-- RELEASE_CONFIRM_TIMER_EXPIRY, R62: the confirm timer of this bus expires in a channel's release. -/
  | releaseConfirmTimerExpiry (bus : Nat)
  /-- RESTART_RELEASE_TIMEOUT, R73: the confirm timer of this bus expires in CLAIMED(RESTART). -/
  | restartReleaseTimeout (bus : Nat)
  /-- STRAY_RELEASE_TIMER_EXPIRY, R65. -/
  | strayReleaseTimerExpiry (bus : Nat)
  /-- LOCKOUT_END, R67. -/
  | lockoutEnd (bus : Nat)
  /-- INTERVAL_TIMER_EXPIRY, R152. -/
  | intervalTimerExpiry
  /-- HEAD_TIMER_EXPIRY, R99: the head timer of this channel expires. -/
  | headTimerExpiry (channel : Nat)
  /-- FLAP_UNIT_BOUNDARY, R13. -/
  | flapUnitBoundary
  /-- MINUTE_COUNTER_ADVANCE, R185. -/
  | minuteCounterAdvance
  /-- HOUR_TICK, R125. -/
  | hourTick
  /-- UNKNOWN_COMMAND, R179: a DESK frame whose command code is not in the table is taken. -/
  | unknownCommand
  /-- LOAD_LINES, R3 and R4. -/
  | loadLines
  /-- LINE_READ, R18. -/
  | lineRead
  /-- INHIBIT, R15. -/
  | inhibit
  /-- CLEAR_HAZARD, R16. -/
  | clearHazard
  /-- LOAD_BUSMAP, R52. -/
  | loadBusmap
  /-- CLEAR_STUCK, R66. -/
  | clearStuck
  /-- LOAD_STEP, R75. -/
  | loadStep
  /-- LOAD_PLAN, R76. -/
  | loadPlan
  /-- TEST, R81. -/
  | test
  /-- ABORT, R92. -/
  | abort
  /-- RETURN_HEAD, R93. -/
  | returnHead
  /-- LOAD_PROFILE, R129. -/
  | loadProfile
  /-- CALIBRATE, R133. -/
  | calibrate
  /-- SET_CAL_COEF, R132. -/
  | setCalCoef
  /-- SWEEP_LOAD, R149. -/
  | sweepLoad
  /-- SWEEP_START, R151. -/
  | sweepStart
  /-- SWEEP_STOP, R153. -/
  | sweepStop
  /-- SWEEP_PAUSE, R151. -/
  | sweepPause
  /-- SWEEP_RESUME, R151. -/
  | sweepResume
  /-- SWEEP_MARK, R163. -/
  | sweepMark
  /-- SUSPECT, R157. -/
  | suspect
  /-- TICKET_READ, R176. -/
  | ticketRead
  /-- TICKET_ACK, R174. -/
  | ticketAck
  /-- TICKET_CLOSE, R175. -/
  | ticketClose
  /-- TICKET_NOTE, R177. -/
  | ticketNote
  /-- SET_PARAM, R184. -/
  | setParam
  /-- STATUS, R185. -/
  | status
  /-- RESTART, R186: a warm restart. -/
  | restart
  /-- RECEPTION_BROKEN_OFF, R20: a link fault breaks off a frame being received at the port. -/
  | receptionBrokenOff (port : PortId)
deriving DecidableEq, Repr

end Sys2Proof
end

