-- ==== Sys2Proof/Decode.lean ====
section
/-! DEFINITION. From codes to commands: the command table of R179, and the decoder the host asks for. -/

namespace Sys2Proof

/-- The command that a desk command code names (R179); a code outside the table is an unknown command. -/
def commandOfCode (code : Nat) : Instr :=
  match code with
  | 0x01 => .loadLines
  | 0x02 => .lineRead
  | 0x03 => .inhibit
  | 0x04 => .clearHazard
  | 0x10 => .loadBusmap
  | 0x11 => .clearStuck
  | 0x20 => .loadStep
  | 0x21 => .loadPlan
  | 0x22 => .test
  | 0x23 => .abort
  | 0x24 => .returnHead
  | 0x30 => .loadProfile
  | 0x31 => .calibrate
  | 0x32 => .setCalCoef
  | 0x40 => .sweepLoad
  | 0x41 => .sweepStart
  | 0x42 => .sweepStop
  | 0x43 => .sweepPause
  | 0x44 => .sweepResume
  | 0x45 => .sweepMark
  | 0x46 => .suspect
  | 0x50 => .ticketRead
  | 0x51 => .ticketAck
  | 0x52 => .ticketClose
  | 0x53 => .ticketNote
  | 0x60 => .setParam
  | 0x61 => .status
  | 0x62 => .restart
  | _ => .unknownCommand

/-- The command a word spells by the bits of spec/opcode_table.json. No row of that table gives bits (every row's "fields"
is empty), so no word spells a command. -/
def decodeTableWord (_nbits _w : Nat) : Option Instr := none

end Sys2Proof
end

