-- ==== Sys2Proof/Config.lean ====
section
/-! DEFINITION. The fixed sizes of the FL416 and the free values the manual leaves open. -/

namespace Sys2Proof.Config

/-- The part's own node number (00_scope.md, Highway nodes). -/
def node : Nat := 30

/-- Lines, cards, buses and channels the part reaches (00_scope.md). -/
def lines : Nat := 4096
def cards : Nat := 256
def buses : Nat := 8
def channels : Nat := 4

/-- Room of each transit queue and of the S-own queue (R27, R29). -/
def transitRoom : Nat := 16
def sOwnRoom : Nat := 16

/-- Room of the command queue (R178), of the notice queue and of its unsolicited part (R181). -/
def commandRoom : Nat := 8
def noticeRoom : Nat := 64
def unsolicitedRoom : Nat := 56

/-- Room of the hold queue (R41), the Ticket Table (R165) and the sweep's collections (R156, R157, R159). -/
def holdRoom : Nat := 32
def ticketRoom : Nat := 256
def revisitRoom : Nat := 64
def suspectRoom : Nat := 16
def suspendRoom : Nat := 4

/-- The start-up bypass lasts 5 ms (R34). -/
def bypassMs : Nat := 5

/-- FREE VALUE, log entry 5. Which of several acts that the manual lets come in any order comes next: the n-th such
choice. It has no body, so no proof can lean on the order. -/
opaque freeChoice : Nat → Nat

/-- FREE VALUE, log entry 18. The outcome byte an ABORT reports for a test that a warm restart left without an outcome
(R92 says only that the outcome already fixed is kept). -/
opaque freeOutcome : Nat → Byte

/-- FREE VALUE, log entry 36. The byte that a DIRECTIVE carries for a source level outside −128 to 127: section 2.7 gives the
field one byte and the range −150 to +150, which one signed byte cannot hold. -/
opaque freeLevelByte : Int → Byte

end Sys2Proof.Config
end

