-- ==== Sys2Proof/Machine/State.lean ====
section
/-! DEFINITION. The state of the FL416 as plain data: every register, queue, record, timer and mark the spec names,
each with its value after cold reset; the stops; the machine right after reset. -/

namespace Sys2Proof.Machine

/-! ## Stores and timers -/

/-- A numbered store: (number, record) pairs, numbers strictly rising, none equal to the store's cold record. A number not
listed holds the cold record (log entry 34). -/
abbrev Table (α : Type) := List (Nat × α)

/-- A timer that starts when a frame leaves Port S (R11, R51, R64): stopped, tied to the frame of that serial number, or
running toward an expiry time. -/
inductive Timer where
  | stopped
  | tied (serial : Nat)
  | running (expiry : Time)
deriving DecidableEq, Repr

/-! ## The Line Table (chapter 1) -/

/-- The condition of a line (R1). -/
inductive Condition where
  | unknown | idle | offHook | ringing | cardDown
deriving DecidableEq, Repr

/-- The access state of a line (R1). RELEASE_PENDING names no channel in a release begun by a warm restart (R55). -/
inductive Access where
  | free
  | tapPending (channel : Nat)
  | tapped (channel : Nat)
  | releasePending (channel : Option Nat)
  | flushing
  | stuck
deriving DecidableEq, Repr

/-- The last routine outcome of a line (R1). -/
inductive RoutineOutcome where
  | unset | pass | fail | marginal | indeterminate | missed
deriving DecidableEq, Repr

/-- The record of a line (R1). -/
structure LineRec where
  cls : Nat
  tipProfile : Nat
  ringProfile : Nat
  inhibit : Bool
  condition : Condition
  access : Access
  hazard : Bool
  ticketCount : Nat
  flapInterval : Nat
  flapCount : Nat
  lastPass : Nat
  lastOutcome : RoutineOutcome
deriving DecidableEq, Repr

/-- A line record after cold reset (R1). -/
def LineRec.cold : LineRec :=
  ⟨0, 0, 0, false, .unknown, .free, false, 0, 255, 0, 0, .unset⟩

/-- The audit flag of a card and its audit timer (R11). -/
structure Audit where
  flag : Bool
  timer : Timer
deriving DecidableEq, Repr

/-- A card's audit after cold reset (R1). -/
def Audit.cold : Audit := ⟨false, .stopped⟩

/-! ## Highway passage (chapter 2) -/

/-- Which timer a frame's sender has tied to the frame (R30), or the line whose held order it carries (R46). -/
inductive Tie where
  | untied
  | confirm (bus : Nat)
  | stray (bus : Nat)
  | audit (card : Nat)
  | head (channel : Nat) (epoch : BitVec 4)
  | flush (line : Nat)
deriving DecidableEq, Repr

/-- A frame offered to the S-own queue: its bytes, its serial number, and what is tied to it. -/
structure OwnFrame where
  bytes : Bytes
  serial : Nat
  tie : Tie
deriving DecidableEq, Repr

/-- Where a port takes the frame it is sending from: the head of its transit queue or of its own queue (R31). -/
inductive Source where
  | transit
  | own
deriving DecidableEq, Repr

/-- The output side of a port, and its discard count (R21, R23, R31). -/
structure Port where
  sending : Option Source
  credit : Nat
  run : Nat
  discards : Nat
deriving DecidableEq, Repr

/-- A port after cold reset (R35). -/
def Port.cold : Port := ⟨none, 0, 0, 0⟩

/-- Highway passage: the transit queues, the S-own queue with its waiting offers, and the two ports. -/
structure Link where
  down : List Bytes
  up : List Bytes
  sOwn : List OwnFrame
  offers : List OwnFrame
  serial : Nat
  portU : Port
  portS : Port
deriving DecidableEq, Repr

/-- Passage after cold reset (R35). -/
def Link.cold : Link := ⟨[], [], [], [], 0, .cold, .cold⟩

/-! ## The Command Unit (chapter 12) -/

/-- The kinds of notice (section 2.7). -/
inductive NoticeKind where
  | response | testReport | ticket | orderLapsed | orderRefused | step | sweep | lost | started
deriving DecidableEq, Repr

/-- An entry of the notice queue (section 2.7, R181). Every kind but RESPONSE is unsolicited. -/
structure Notice where
  tag : Byte
  kind : NoticeKind
  result : Byte
  body : Bytes
deriving DecidableEq, Repr

/-- The command queue and the notice queue with its counts (R178, R181). The unsolicited count is that of `notices`. -/
structure Desk where
  commands : List Bytes
  notices : List Notice
  reservations : Nat
  lost : Nat
deriving DecidableEq, Repr

/-- The Command Unit after cold reset (R178, R183). -/
def Desk.cold : Desk := ⟨[], [], 0, 0⟩

/-- The report policy (R184, parameter 12). -/
inductive Policy where
  | all
  | exceptions
deriving DecidableEq, Repr

/-- The 14 operating parameters (R184). -/
structure Params where
  tTap : Nat
  tHead : Nat
  tHold : Nat
  flapUnit : Nat
  flapThreshold : Nat
  flapLimit : Nat
  vprot : Nat
  elim : Nat
  lockout : Nat
  umax : Nat
  concurrency : Nat
  policy : Policy
  interval : Nat
  suspectPlan : Nat
deriving DecidableEq, Repr

/-- The defaults of R184. -/
def Params.cold : Params :=
  ⟨250, 40, 4000, 32, 20, 6, 13107, 1000000, 30, 200, 2, .exceptions, 60, 0⟩

/-! ## The Order Screen (chapter 3) -/

/-- A record of the hold queue (R41). -/
structure HoldRec where
  frame : Bytes
  line : Nat
  arrival : Time
  expiry : Time
deriving DecidableEq, Repr

/-- The flush of a line (R46): the record on offer to the S-own queue, if any, and the stuck mark. -/
structure Flush where
  line : Nat
  onOffer : Option HoldRec
  stuck : Bool
deriving DecidableEq, Repr

/-! ## Access Control (chapter 4) -/

/-- The state of a bus (R51). -/
inductive BusState where
  | free
  | claimed (channel : Nat)
  | claimedRestart
  | lockout (till : Time)
  | outOfService
deriving DecidableEq, Repr

/-- A stray release: the line and its own timer (R64). -/
structure Stray where
  line : Nat
  timer : Timer
deriving DecidableEq, Repr

/-- The record of a bus (R51). -/
structure Bus where
  state : BusState
  reach : BitVec 16
  commanded : Option Nat
  confirmed : Option Nat
  confirm : Timer
  stray : Option Stray
  stuckLine : Option Nat
  oosMark : Bool
deriving DecidableEq, Repr

/-- A bus after cold reset (R51). -/
def Bus.cold : Bus := ⟨.free, 0, none, none, .stopped, none, none, false⟩

/-! ## Steps, plans and channels (chapters 5 to 9) -/

/-- The conductors a head measures between (R74). -/
inductive Arrangement where
  | tr | tg | rg
deriving DecidableEq, Repr

/-- The kind of a step (R74). -/
inductive StepKind where
  | vdc | vac | res
deriving DecidableEq, Repr

/-- The current range of a head (R74). -/
inductive Range where
  | high | low
deriving DecidableEq, Repr

/-- The sense of a limit (R74). -/
inductive Sense where
  | above | below
deriving DecidableEq, Repr

/-- The 16 fault classes (R37). -/
inductive FaultClass where
  | lowInsulationTg | lowInsulationRg | lowInsulationTr | loopResistance | foreignDc | foreignAc
  | foreignBattery | intermittentLoop | foreignVoltage | relayNoMake | relayStray | relayStuck
  | headSilent | headCalDue | headCalFail | cardFault
deriving DecidableEq, Repr

/-- A loaded step record (R74). -/
structure StepRec where
  arrangement : Arrangement
  kind : StepKind
  level : Int
  range : Range
  window : Nat
  band : Nat
  dwell : Nat
  maxBlocks : Nat
  slot : Option Nat
  sense : Sense
  cls : FaultClass
  rep : Nat
  stopOnFail : Bool
  notify : Bool
  link : Option Nat
deriving DecidableEq, Repr

/-- The qualifiers of a result (R37). -/
structure Quals where
  unsettled : Bool
  lossy : Bool
  clipped : Bool
  openLoop : Bool
  reversed : Bool
deriving DecidableEq, Repr

/-- No qualifier. -/
def Quals.clear : Quals := ⟨false, false, false, false, false⟩

/-- The verdict of a result (R131). -/
inductive Verdict where
  | unjudged | pass | fail | marginal | indeterminate
deriving DecidableEq, Repr

/-- A recorded step result (R85, R86). -/
structure StepResult where
  step : Nat
  kind : StepKind
  arrangement : Arrangement
  range : Range
  value : Int
  verdict : Verdict
  quals : Quals
  uncertainty : Nat
  cls : FaultClass
  reps : Nat
deriving DecidableEq, Repr

/-- The outcome of a test (R37, R89). -/
inductive TestOutcome where
  | completed | aborted | yielded | protective | headFault | sampleLoss | relayFault | noBus
deriving DecidableEq, Repr

/-- The priority of a test (R37). -/
inductive Priority where
  | urgent | routine
deriving DecidableEq, Repr

/-- The originator of a test: the exchange (0) or a desk (1 to 8), or SWEEP (R80). -/
inductive Originator where
  | asked (desk : Nat)
  | sweep
deriving DecidableEq, Repr

/-- The test record of a channel (R80). `startStep` is the step the test begins with: the plan's first step, or the step of
the context a resumed test was made from. -/
structure TestRec where
  line : Nat
  plan : Nat
  priority : Priority
  originator : Originator
  breakIn : Bool
  overrideHazard : Bool
  startTime : Time
  startMinute : BitVec 32
  pass : Nat
  startedInPass : Bool
  resumed : Bool
  savedRep : Nat
  startStep : Nat
  results : List StepResult
  outcome : Option TestOutcome
deriving DecidableEq, Repr

/-- The step in progress (R79). Its restart count is Sample Intake's (R95). -/
structure Progress where
  step : Nat
  position : Nat
  rep : Nat
  repQuals : Quals
  folded : Quals
deriving DecidableEq, Repr

/-- The stage of a channel (R79). -/
inductive Stage where
  | idle | tapping | sourcing | settling | measuring | releasing | calibrating | outOfService
deriving DecidableEq, Repr

/-- The five phases of a calibration run (R134). -/
inductive CalPhase where
  | zHigh | zLow | refV | refIHigh | refILow
deriving DecidableEq, Repr

/-- The offset and gain computed for a scale (R135). -/
structure Candidate where
  offset : Int
  gain : Nat
deriving DecidableEq, Repr

/-- The working state of a calibration run (R133); the phase stands in the channel record. -/
structure CalRun where
  tag : Byte
  zV : Option Int
  zIH : Option Int
  zIL : Option Int
  rV : Option Int
  rIH : Option Int
  rIL : Option Int
  candV : Option Candidate
  candIH : Option Candidate
  candIL : Option Candidate
deriving DecidableEq, Repr

/-- The phase of intake (R95). -/
inductive IntakePhase where
  | awaiting | settling | measuring
deriving DecidableEq, Repr

/-- Sample Intake's state of a channel (R95). The head timer is `tie` (the directive it waits for) and `timer` (its expiry);
both may be held at once, since a frame may start a timer that the directive's departure starts afresh (R98). -/
structure Intake where
  expected : Option Nat
  tie : Option Nat
  timer : Option Time
  phase : IntakePhase
  blocks : Nat
  settle : Nat
  prev : Option Int
  restarts : Nat
  frames : Nat
  sv : Int
  si : Int
  sq : Nat
  vClip : Bool
  iClip : Bool
  temp : Option Int
deriving DecidableEq, Repr

/-- Intake after cold reset, and after each clearing (R95). -/
def Intake.cold : Intake :=
  ⟨none, none, none, .awaiting, 0, 0, none, 0, 0, 0, 0, 0, false, false, none⟩

/-- What the sweep's entry was there for (R157). -/
inductive Reason where
  | flap
  | desk
  | marginal (step : Nat)
deriving DecidableEq, Repr

/-- The source of a channel's routine test (R148). -/
inductive Origin where
  | unset
  | walk
  | revisit
  | suspect (reason : Reason)
deriving DecidableEq, Repr

/-- The record of a channel (R79), with Intake's state, the head's last seen temperature (R95), the run's working state
(R133) and the sweep's origin (R148). `restartEnded` marks a test that a warm restart found in RELEASING (R94). -/
structure Channel where
  stage : Stage
  calPhase : Option CalPhase
  headOut : Bool
  epoch : BitVec 4
  bus : Option Nat
  test : Option TestRec
  step : Option Progress
  releaseLine : Option Nat
  handover : Bool
  protMark : Bool
  exposure : Nat
  peak : Nat
  intake : Intake
  lastTemp : Option Int
  pendingAbort : Option Byte
  restartEnded : Bool
  run : Option CalRun
  origin : Origin
deriving DecidableEq, Repr

/-- A channel after cold reset (R79, R95, R139, R148). -/
def Channel.cold : Channel :=
  ⟨.idle, none, false, 0, none, none, none, none, false, false, 0, 0, .cold, none, none, false, none, .unset⟩

/-! ## The Calibration Unit (chapter 8) -/

/-- The scales of a head (R124). -/
inductive Scale where
  | v | iHigh | iLow
deriving DecidableEq, Repr

/-- A calibration record (R124). -/
structure CalRec where
  valid : Bool
  offset : Int
  gain : Nat
  tcal : Int
  age : Nat
  u0 : Nat
  kT : Nat
  kA : Nat
  due : Bool
deriving DecidableEq, Repr

/-- A calibration record after cold reset (R124). -/
def CalRec.cold : CalRec := ⟨false, 0, 16384, 25, 0, 10, 4, 8, false⟩

/-- The three records of a head. -/
structure HeadCal where
  v : CalRec
  iHigh : CalRec
  iLow : CalRec
deriving DecidableEq, Repr

/-- A head's records after cold reset. -/
def HeadCal.cold : HeadCal := ⟨.cold, .cold, .cold⟩

/-! ## The Sweep Unit (chapter 10) -/

/-- A range of the sweep list (R149). -/
structure SweepRange where
  first : Nat
  last : Nat
  plan : Nat
deriving DecidableEq, Repr

/-- The latched pass configuration (R150). -/
structure PassConfig where
  ranges : List SweepRange
  concurrency : Nat
  policy : Policy
  interval : Nat
  suspectPlan : Nat
deriving DecidableEq, Repr

/-- The state of the sweep (R148). -/
inductive SweepState where
  | stopped | running | waiting | paused | draining
deriving DecidableEq, Repr

/-- The state PAUSED was entered from (R148). -/
inductive StateLeft where
  | running | waiting
deriving DecidableEq, Repr

/-- The walk position (R148). -/
inductive Walk where
  | unset
  | onLine (range : Nat) (line : Nat)
  | done
deriving DecidableEq, Repr

/-- An entry of the revisit list (R156). -/
structure Revisit where
  line : Nat
  plan : Nat
deriving DecidableEq, Repr

/-- An entry of the suspect queue (R157). -/
structure Suspect where
  line : Nat
  plan : Nat
  reason : Reason
  requeued : Bool
deriving DecidableEq, Repr

/-- A suspended context (R70, R159). -/
structure Context where
  line : Nat
  plan : Nat
  step : Nat
  rep : Nat
  results : List StepResult
  pass : Nat
  startedInPass : Bool
  origin : Origin
deriving DecidableEq, Repr

/-- The eleven pass counts (R160). -/
structure Counts where
  tested : Nat
  pass : Nat
  fail : Nat
  marginal : Nat
  indeterminate : Nat
  missed : Nat
  deferred : Nat
  inhibited : Nat
  hazard : Nat
  busy : Nat
  dropped : Nat
deriving DecidableEq, Repr

/-- All counts zero. -/
def Counts.zero : Counts := ⟨0, 0, 0, 0, 0, 0, 0, 0, 0, 0, 0⟩

/-- The Sweep Unit's state (R148). `startWaits` is a pass start that waits for SWEEP_RESUME (R151). `attemptDue` says that
one of the causes of a start attempt has come in the act under way (R154, log entry 12); it is clear between steps. -/
structure Sweep where
  ranges : List SweepRange
  config : PassConfig
  state : SweepState
  left : Option StateLeft
  passNumber : Nat
  underWay : Bool
  walk : Walk
  revisits : List Revisit
  suspects : List Suspect
  suspended : List Context
  counts : Counts
  timer : Option Time
  startWaits : Bool
  attemptDue : Bool
  mark : Option (Nat × Nat)
deriving DecidableEq, Repr

/-- The sweep after cold reset (R148). -/
def Sweep.cold : Sweep :=
  ⟨[], ⟨[], 2, .exceptions, 60, 0⟩, .stopped, none, 0, false, .unset, [], [], [], .zero, none, false, false, none⟩

/-! ## The Ticket Table (chapter 11) -/

/-- The kind of subject of a ticket (R165). -/
inductive SubjectKind where
  | line | card | bus | head
deriving DecidableEq, Repr

/-- The state of a ticket (R165). -/
inductive TicketState where
  | opened | confirmed | cleared
deriving DecidableEq, Repr

/-- The measurement part of evidence (R165). -/
structure Measured where
  kind : StepKind
  arrangement : Arrangement
  value : Int
  quals : Quals
  verdict : Verdict
  originator : Originator
deriving DecidableEq, Repr

/-- Evidence: a related line and a measurement part, either of which may be absent (R165). -/
structure Evidence where
  related : Option Nat
  measured : Option Measured
deriving DecidableEq, Repr

/-- An entry of the Ticket Table (R165). An absent note is the empty one. -/
structure Ticket where
  number : Nat
  kind : SubjectKind
  subject : Nat
  cls : FaultClass
  state : TicketState
  firstSeen : BitVec 32
  lastSeen : BitVec 32
  occurrences : Nat
  reopens : Nat
  evidence : Option Evidence
  note : Bytes
deriving DecidableEq, Repr

/-- The Ticket Table (R165). -/
structure Tickets where
  entries : List Ticket
  nextNumber : Nat
  overflow : Nat
  armed : Bool
deriving DecidableEq, Repr

/-- The Ticket Table after cold reset (R165). -/
def Tickets.cold : Tickets := ⟨[], 1, 0, true⟩

/-! ## The machine -/

/-- The regime the part is in (R33 to R35). -/
inductive Phase where
  /-- RSTN is low: no traffic (R33). -/
  | held
  /-- The start-up bypass, until this device time (R34). -/
  | bypass (till : Time)
  /-- Normal passage (R35). -/
  | normal
deriving DecidableEq, Repr

/-- The state of the FL416. INVENTORY.md lists every field with its rule and its value after reset. -/
structure State where
  phase : Phase
  now : Time
  minute : BitVec 32
  nextFlap : Time
  nextMinute : Time
  hourDue : Bool
  lines : Table LineRec
  audits : Table Audit
  link : Link
  desk : Desk
  params : Params
  hold : List HoldRec
  flushes : List Flush
  buses : Table Bus
  steps : Table (Option StepRec)
  plans : Table (Option Nat)
  chans : Table Channel
  cal : Table HeadCal
  limits : Table Nat
  sweep : Sweep
  tickets : Tickets
  choice : Nat
  pending : List Instr
deriving DecidableEq, Repr

/-- The machine stops for no command: every failure the spec describes is an effect on the state, so there is no fault.
(Safe: nothing ends a run.) -/
inductive Fault where
deriving DecidableEq, Repr

/-- Why a command has no meaning. -/
inductive Refusal where
  /-- Raised by an arm of `exec` whose command has no meaning yet; none is left, so nothing raises it. Safe: it would stop
  where the part goes on. -/
  | notModelled (mnemonic : String)
deriving DecidableEq, Repr

/-- The machine right after reset: RSTN is low (or power has just come up), every queue is lost and every block holds its
cold values (R33, R186; log entries 6 and 7). -/
def State.reset : State where
  phase := .held
  now := 0
  minute := 0
  nextFlap := 0
  nextMinute := 0
  hourDue := false
  lines := []
  audits := []
  link := .cold
  desk := .cold
  params := .cold
  hold := []
  flushes := []
  buses := []
  steps := []
  plans := []
  chans := []
  cal := []
  limits := []
  sweep := .cold
  tickets := .cold
  choice := 0
  pending := []

end Sys2Proof.Machine
end

