-- ==== Sys2Proof/Machine/Frames.lean ====
section
/-! DEFINITION. The layouts of section 2.7: bytes and numbers, the check, the frames a port reads and the frames the part
originates. -/

namespace Sys2Proof.Machine

/-! ## Bytes and numbers (most significant byte first) -/

/-- A number as one byte. -/
def byte1 (n : Nat) : Bytes := [BitVec.ofNat 8 n]

/-- A number as two bytes, most significant first. -/
def byte2 (n : Nat) : Bytes := [BitVec.ofNat 8 (n / 256), BitVec.ofNat 8 n]

/-- A number as four bytes, most significant first. -/
def byte4 (n : Nat) : Bytes :=
  [BitVec.ofNat 8 (n / 16777216), BitVec.ofNat 8 (n / 65536), BitVec.ofNat 8 (n / 256), BitVec.ofNat 8 n]

/-- A signed number as four bytes in two's complement. -/
def signed4 (i : Int) : Bytes := byte4 (BitVec.ofInt 32 i).toNat

/-- A signed number as one byte in two's complement. -/
def signed1 (i : Int) : Bytes := [BitVec.ofInt 8 i]

/-- The byte at an offset, as a number; 0 beyond the end. -/
def byteAt (f : Bytes) (i : Nat) : Nat := (f.getD i 0).toNat

/-- The two bytes at an offset, most significant first. -/
def wordAt (f : Bytes) (i : Nat) : Nat := byteAt f i * 256 + byteAt f (i + 1)

/-- Two bytes as a number, most significant first. -/
def pair (a b : Byte) : Nat := a.toNat * 256 + b.toNat

/-- Four bytes as a number, most significant first. -/
def quad (a b c d : Byte) : Nat := ((a.toNat * 256 + b.toNat) * 256 + c.toNat) * 256 + d.toNat

/-- Two bytes as a signed number in two's complement. -/
def signedPair (a b : Byte) : Int := (BitVec.ofNat 16 (pair a b)).toInt

/-! ## The check -/

/-- One shift of the CRC register with generator x^16 + x^12 + x^5 + 1. -/
def crcShift (r : Nat) : Nat :=
  if r / 32768 % 2 = 1 then ((r * 2) % 65536) ^^^ 0x1021 else (r * 2) % 65536

/-- One byte enters the register, most significant bit first. -/
def crcByte (r : Nat) (b : Byte) : Nat :=
  crcShift (crcShift (crcShift (crcShift (crcShift (crcShift (crcShift (crcShift (r ^^^ (b.toNat * 256)))))))))

/-- The check of a run of bytes: register preset to all ones, no final inversion (section 2.7). -/
def crc (bs : Bytes) : Nat := bs.foldl crcByte 0xFFFF

/-! ## The envelope -/

def kindOrder : Nat := 0x10
def kindScan : Nat := 0x11
def kindSample : Nat := 0x20
def kindDirective : Nat := 0x21
def kindDesk : Nat := 0x30
def kindNotice : Nat := 0x31

/-- The kind field of a frame. -/
def frameKind (f : Bytes) : Nat := byteAt f 0

/-- The destination field of a frame. -/
def frameDest (f : Bytes) : Nat := byteAt f 1

/-- The length field of a frame. -/
def frameLength (f : Bytes) : Nat := byteAt f 3

/-- The payload of a frame. -/
def framePayload (f : Bytes) : Bytes := (f.drop 4).take (frameLength f)

/-- The form stage of R20. -/
def formOk (f : Bytes) : Bool := f.length == frameLength f + 6 && decide (frameLength f ≤ 250)

/-- The check stage of R20. -/
def checkOk (f : Bytes) : Bool := crc (f.take (4 + frameLength f)) == wordAt f (4 + frameLength f)

/-- A whole frame with its check: kind, destination, source, payload. -/
def makeFrame (kind dest source : Nat) (payload : Bytes) : Bytes :=
  let body := byte1 kind ++ byte1 dest ++ byte1 source ++ byte1 payload.length ++ payload
  body ++ byte2 (crc body)

/-! ## ORDER frames -/

/-- The nine order codes (section 2.7). -/
inductive OrderCode where
  | ringStart | ringStop | feedOn | feedOff | reverse | normal | tapConnect | tapRelease | cardAudit
deriving DecidableEq, Repr

def orderCodeOf (n : Nat) : Option OrderCode :=
  match n with
  | 0x01 => some .ringStart
  | 0x02 => some .ringStop
  | 0x03 => some .feedOn
  | 0x04 => some .feedOff
  | 0x05 => some .reverse
  | 0x06 => some .normal
  | 0x08 => some .tapConnect
  | 0x09 => some .tapRelease
  | 0x0C => some .cardAudit
  | _ => none

/-- What a well-formed ORDER frame orders (R24): its line and its code. -/
structure Order where
  line : Nat
  code : OrderCode
deriving DecidableEq, Repr

/-- Reads a frame as a well-formed ORDER (R24). -/
def readOrder (f : Bytes) : Option Order :=
  if frameKind f = kindOrder ∧ frameLength f = 4 ∧ f.length = 10 ∧ wordAt f 4 < Config.lines then
    (orderCodeOf (byteAt f 6)).map fun c => ⟨wordAt f 4, c⟩
  else none

/-- The frame is an ORDER for this line (R32, R46; log entry 19). -/
def isOrderFor (line : Nat) (f : Bytes) : Bool :=
  match readOrder f with
  | some o => o.line == line
  | none => false

/-- A relay order of the part to the shelf of a line (R28). -/
def relayOrder (code line bus : Nat) : Bytes :=
  makeFrame kindOrder (line / 256 + 1) Config.node (byte2 line ++ byte1 code ++ byte1 bus)

/-- TAP_CONNECT for a line on a bus (R28). -/
def tapConnectFrame (line bus : Nat) : Bytes := relayOrder 0x08 line bus

/-- TAP_RELEASE for a line on a bus (R28). -/
def tapReleaseFrame (line bus : Nat) : Bytes := relayOrder 0x09 line bus

/-- CARD_AUDIT for a card (R11, R28). -/
def cardAuditFrame (card : Nat) : Bytes := relayOrder 0x0C (card * 16) 0

/-! ## SCAN frames -/

/-- The nine events (section 2.7). -/
inductive ScanEvent where
  | loopClosed | loopOpen | ringTripped | tapMade | tapBroken | cardFault | cardOk | cardAbsent | cardState
deriving DecidableEq, Repr

def scanEventOf (n : Nat) : Option ScanEvent :=
  match n with
  | 0x01 => some .loopClosed
  | 0x02 => some .loopOpen
  | 0x03 => some .ringTripped
  | 0x08 => some .tapMade
  | 0x09 => some .tapBroken
  | 0x10 => some .cardFault
  | 0x11 => some .cardOk
  | 0x12 => some .cardAbsent
  | 0x13 => some .cardState
  | _ => none

/-- What a well-formed SCAN frame reports (R24): line, event, argument, low byte of the bitmap. -/
structure Scan where
  line : Nat
  event : ScanEvent
  argument : Nat
  bitmap : Nat
deriving DecidableEq, Repr

/-- Reads a frame as a well-formed SCAN (R24). -/
def readScan (f : Bytes) : Option Scan :=
  if frameKind f = kindScan ∧ frameLength f = 5 ∧ wordAt f 4 < Config.lines then
    (scanEventOf (byteAt f 6)).map fun e => ⟨wordAt f 4, e, byteAt f 7, byteAt f 8⟩
  else none

/-! ## SAMPLE frames -/

/-- The 16 sample pairs, in time order, each a signed v and a signed i. -/
def samplePairs : Bytes → List (Int × Int)
  | a :: b :: c :: d :: rest => (signedPair a b, signedPair c d) :: samplePairs rest
  | _ => []

/-- The fields of a well-formed SAMPLE frame. -/
structure Sample where
  head : Nat
  epoch : Nat
  sequence : Nat
  temp : Int
  pairs : List (Int × Int)
deriving DecidableEq, Repr

/-- Reads a frame as a well-formed SAMPLE (R24). -/
def readSample (f : Bytes) : Option Sample :=
  if frameKind f = kindSample ∧ frameLength f = 68 then
    some ⟨byteAt f 4, byteAt f 5, byteAt f 6, (f.getD 7 0).toInt, samplePairs ((f.drop 8).take 64)⟩
  else none

/-! ## DIRECTIVE, DESK and NOTICE frames -/

/-- The arrangement code of a directive (section 2.7). -/
def Arrangement.code : Arrangement → Nat
  | .tr => 0 | .tg => 1 | .rg => 2

/-- The range code of a directive (section 2.7). -/
def Range.code : Range → Nat
  | .high => 0 | .low => 1

/-- The source level field of a directive: one byte, signed volts. A level that one signed byte cannot hold is sent as a free
value (log entry 36). -/
def levelByte (level : Int) : Bytes :=
  if -128 ≤ level ∧ level ≤ 127 then signed1 level else [Config.freeLevelByte level]

/-- A DIRECTIVE frame to a head (R28). -/
def directiveFrame (head : Nat) (epoch : BitVec 4) (directive arrangement range : Nat) (level : Int) : Bytes :=
  makeFrame kindDirective (head + 17) Config.node
    (byte1 head ++ byte1 epoch.toNat ++ byte1 directive ++ byte1 arrangement ++ byte1 range ++ levelByte level)

/-- DIRECTIVE SOURCE of a step (R83). -/
def sourceDirective (head : Nat) (epoch : BitVec 4) (r : StepRec) : Bytes :=
  directiveFrame head epoch 0x01 r.arrangement.code r.range.code r.level

/-- DIRECTIVE IDLE (R60). -/
def idleDirective (head : Nat) (epoch : BitVec 4) : Bytes := directiveFrame head epoch 0x02 0 0 0

/-- The directive of a calibration phase (R134). -/
def CalPhase.directive : CalPhase → Nat
  | .zHigh => 0x10 | .zLow => 0x11 | .refV => 0x12 | .refIHigh => 0x13 | .refILow => 0x14

/-- The directive frame of a calibration phase. -/
def calDirective (head : Nat) (epoch : BitVec 4) (p : CalPhase) : Bytes :=
  directiveFrame head epoch p.directive 0 0 0

/-- The frame is a well-formed DESK frame (R24). -/
def isDesk (f : Bytes) : Bool := frameKind f == kindDesk && decide (2 ≤ frameLength f)

/-- The notice kind's code (section 2.7). -/
def NoticeKind.code : NoticeKind → Nat
  | .response => 0x01 | .testReport => 0x02 | .ticket => 0x03 | .orderLapsed => 0x04 | .orderRefused => 0x05
  | .step => 0x06 | .sweep => 0x07 | .lost => 0x08 | .started => 0x09

/-- The NOTICE frame of a notice (R28). -/
def noticeFrame (n : Notice) : Bytes :=
  makeFrame kindNotice 0 Config.node ([n.tag] ++ byte1 n.kind.code ++ [n.result] ++ n.body)

/-- The frame's kind is one of the six (section 2.7). -/
def isKnownKind (k : Nat) : Bool :=
  k == kindOrder || k == kindScan || k == kindSample || k == kindDirective || k == kindDesk || k == kindNotice

end Sys2Proof.Machine
end

