-- ==== Sys2Proof/Machine/Operands.lean ====
section
/-! DEFINITION. Fields of desk parameters and of notice bodies: the codes of R37 read and written, flags, optional parts. -/

namespace Sys2Proof.Machine

/-! ## Names carried in bodies (R37, R185) -/

def Condition.code : Condition → Nat
  | .unknown => 0 | .idle => 1 | .offHook => 2 | .ringing => 3 | .cardDown => 4

def Access.code : Access → Nat
  | .free => 0 | .tapPending _ => 1 | .tapped _ => 2 | .releasePending _ => 3 | .flushing => 4 | .stuck => 5

/-- The channel an access state names (R55). -/
def Access.channel : Access → Option Nat
  | .tapPending ch | .tapped ch => some ch
  | .releasePending ch => ch
  | .free | .flushing | .stuck => none

def StepKind.code : StepKind → Nat
  | .vdc => 0 | .vac => 1 | .res => 2

def Sense.code : Sense → Nat
  | .above => 0 | .below => 1

def Verdict.code : Verdict → Nat
  | .unjudged => 0 | .pass => 1 | .fail => 2 | .marginal => 3 | .indeterminate => 4

def RoutineOutcome.code : RoutineOutcome → Nat
  | .unset => 0 | .pass => 1 | .fail => 2 | .marginal => 3 | .indeterminate => 4 | .missed => 5

def TestOutcome.code : TestOutcome → Nat
  | .completed => 0 | .aborted => 1 | .yielded => 2 | .protective => 3 | .headFault => 4 | .sampleLoss => 5
  | .relayFault => 6 | .noBus => 7

def Priority.code : Priority → Nat
  | .urgent => 1 | .routine => 2

def Originator.code : Originator → Nat
  | .asked d => d | .sweep => 0xFF

def SubjectKind.code : SubjectKind → Nat
  | .line => 0 | .card => 1 | .bus => 2 | .head => 3

def TicketState.code : TicketState → Nat
  | .opened => 0 | .confirmed => 1 | .cleared => 2

def FaultClass.code : FaultClass → Nat
  | .lowInsulationTg => 1 | .lowInsulationRg => 2 | .lowInsulationTr => 3 | .loopResistance => 4 | .foreignDc => 5
  | .foreignAc => 6 | .foreignBattery => 7 | .intermittentLoop => 8 | .foreignVoltage => 9 | .relayNoMake => 10
  | .relayStray => 11 | .relayStuck => 12 | .headSilent => 13 | .headCalDue => 14 | .headCalFail => 15 | .cardFault => 16

def Policy.code : Policy → Nat
  | .all => 0 | .exceptions => 1

/-- Stage codes of STATUS (R185). -/
def Stage.code : Stage → Nat
  | .idle => 0 | .tapping => 1 | .sourcing => 2 | .settling => 3 | .measuring => 4 | .releasing => 5
  | .calibrating => 6 | .outOfService => 7

/-- Bus state codes of STATUS (R185). -/
def BusState.code : BusState → Nat
  | .free => 0 | .claimed _ => 1 | .claimedRestart => 1 | .lockout _ => 2 | .outOfService => 3

/-- The claiming channel of STATUS: 0xFF for none, 0xFE for the restart marker (R185). -/
def BusState.claimant : BusState → Nat
  | .claimed ch => ch | .claimedRestart => 0xFE | .free | .lockout _ | .outOfService => 0xFF

/-- Sweep state codes (R185). -/
def SweepState.code : SweepState → Nat
  | .stopped => 0 | .running => 1 | .waiting => 2 | .paused => 3 | .draining => 4

/-- The phase code of a CALIBRATE response (R136). -/
def CalPhase.code : CalPhase → Nat
  | .zHigh => 1 | .zLow => 2 | .refV => 3 | .refIHigh => 4 | .refILow => 5

/-- The causes of a failed calibration run (R136). -/
inductive CalCause where
  | unsettled | loss | silent | span | gain | restart
deriving DecidableEq, Repr

/-- The cause code of a CALIBRATE response (R136). -/
def CalCause.code : CalCause → Nat
  | .unsettled => 1 | .loss => 2 | .silent => 3 | .span => 4 | .gain => 5 | .restart => 6

/-- The events of a TICKET notice (R37). -/
inductive TicketEvent where
  | created | updated | reopened | cleared | evicted | tableFull
deriving DecidableEq, Repr

def TicketEvent.code : TicketEvent → Nat
  | .created => 1 | .updated => 2 | .reopened => 3 | .cleared => 4 | .evicted => 5 | .tableFull => 6

/-- The events of a SWEEP notice (R37). -/
inductive SweepEvent where
  | passStart | passEnd | passStopped | mark
deriving DecidableEq, Repr

def SweepEvent.code : SweepEvent → Nat
  | .passStart => 1 | .passEnd => 2 | .passStopped => 3 | .mark => 4

/-- The causes of an ORDER_LAPSED notice (R37). -/
inductive LapseCause where
  | timeout | queueFull
deriving DecidableEq, Repr

def LapseCause.code : LapseCause → Nat
  | .timeout => 1 | .queueFull => 2

/-! ## Flags and optional parts (R37) -/

/-- A flag: 0 clear, 1 set. -/
def flagByte (b : Bool) : Bytes := if b then [1] else [0]

/-- An optional part: 0 when absent, 1 and the part's fields when present. -/
def optional (part : Option Bytes) : Bytes :=
  match part with
  | none => [0]
  | some fields => 1 :: fields

/-- A note: its count, then its characters. -/
def noteBytes (note : Bytes) : Bytes := byte1 note.length ++ note

/-! ## Names carried in parameters (R37, R75) -/

/-- A flag parameter: 0 or 1. -/
def flagOf (n : Nat) : Option Bool :=
  match n with
  | 0 => some false | 1 => some true | _ => none

def arrangementOf (n : Nat) : Option Arrangement :=
  match n with
  | 0 => some .tr | 1 => some .tg | 2 => some .rg | _ => none

def stepKindOf (n : Nat) : Option StepKind :=
  match n with
  | 0 => some .vdc | 1 => some .vac | 2 => some .res | _ => none

def rangeOf (n : Nat) : Option Range :=
  match n with
  | 0 => some .high | 1 => some .low | _ => none

def senseOf (n : Nat) : Option Sense :=
  match n with
  | 0 => some .above | 1 => some .below | _ => none

/-- A limit slot: 0 to 7, or 0xFF for NONE (R75). -/
def slotOf (n : Nat) : Option (Option Nat) :=
  if n < 8 then some (some n) else if n = 255 then some none else none

/-- A link or a first step: 0 to 127, or 0xFF for END or EMPTY (R75, R76). -/
def linkOf (n : Nat) : Option (Option Nat) :=
  if n < 128 then some (some n) else if n = 255 then some none else none

/-- The six measurement classes a step may carry (R74, R75). -/
def stepClassOf (n : Nat) : Option FaultClass :=
  match n with
  | 1 => some .lowInsulationTg | 2 => some .lowInsulationRg | 3 => some .lowInsulationTr | 4 => some .loopResistance
  | 5 => some .foreignDc | 6 => some .foreignAc | _ => none

def scaleOf (n : Nat) : Option Scale :=
  match n with
  | 0 => some .v | 1 => some .iHigh | 2 => some .iLow | _ => none

/-- A limit slot or link as its byte: 0xFF for NONE or END. -/
def orFF (n : Option Nat) : Bytes := byte1 (n.getD 255)

end Sys2Proof.Machine
end

