-- ==== Sys2Proof/Machine/Ops.lean ====
section
/-! DEFINITION. The named operations over the state: numbered stores, accessors, time, the S-own queue, the notice queue,
the send slots of the ports. Every block reaches these through the definitions here. -/

namespace Sys2Proof.Machine

/-! ## Numbered stores -/

/-- The record under a number: the one listed, or the cold record. -/
def Table.get (cold : α) : Table α → Nat → α
  | [], _ => cold
  | (k, v) :: t, n => if k = n then v else Table.get cold t n

/-- A store without any record under a number. -/
def Table.erase : Table α → Nat → Table α
  | [], _ => []
  | (k, v) :: t, n => if k = n then Table.erase t n else (k, v) :: Table.erase t n

/-- A store with a record put before the first larger number. -/
def Table.insert : Table α → Nat → α → Table α
  | [], n, v => [(n, v)]
  | (k, w) :: t, n, v => if n < k then (n, v) :: (k, w) :: t else (k, w) :: Table.insert t n v

/-- The one write: the record under a number becomes `v`; a cold record is not listed. -/
def Table.set [DecidableEq α] (cold : α) (t : Table α) (n : Nat) (v : α) : Table α :=
  if v = cold then Table.erase t n else Table.insert (Table.erase t n) n v

/-- Every listed number is larger than `lo` and the one before it. -/
def Table.rising : Nat → Table α → Bool
  | _, [] => true
  | lo, (k, _) :: t => decide (lo < k) && Table.rising k t

/-- The canonical form of a store: numbers strictly rising, no cold record listed. -/
def Table.wf [DecidableEq α] (cold : α) : Table α → Bool
  | [] => true
  | (k, v) :: t => Table.rising k t && decide (v ≠ cold) && t.all fun p => decide (p.2 ≠ cold)

/-- A store after every listed record has changed; a record that becomes cold is no longer listed. -/
def Table.mapListed [DecidableEq α] (cold : α) (g : α → α) : Table α → Table α
  | [] => []
  | (k, v) :: t =>
    if g v = cold then Table.mapListed cold g t else (k, g v) :: Table.mapListed cold g t

/-! ## Accessors -/

def State.line (s : State) (l : Nat) : LineRec := Table.get .cold s.lines l
def State.audit (s : State) (c : Nat) : Audit := Table.get .cold s.audits c
def State.bus (s : State) (b : Nat) : Bus := Table.get .cold s.buses b
def State.chan (s : State) (h : Nat) : Channel := Table.get .cold s.chans h
def State.stepRec (s : State) (i : Nat) : Option StepRec := Table.get none s.steps i
def State.plan (s : State) (p : Nat) : Option Nat := Table.get none s.plans p
def State.headCal (s : State) (h : Nat) : HeadCal := Table.get .cold s.cal h
/-- The limit of a slot of a profile (R129). -/
def State.limit (s : State) (profile slot : Nat) : Nat := Table.get 0 s.limits (profile * 8 + slot)

def State.setLine (s : State) (l : Nat) (r : LineRec) : State :=
  { s with lines := Table.set .cold s.lines l r }
def State.setAudit (s : State) (c : Nat) (a : Audit) : State :=
  { s with audits := Table.set .cold s.audits c a }
def State.setBus (s : State) (b : Nat) (r : Bus) : State :=
  { s with buses := Table.set .cold s.buses b r }
def State.setChan (s : State) (h : Nat) (c : Channel) : State :=
  { s with chans := Table.set .cold s.chans h c }
def State.setStepRec (s : State) (i : Nat) (r : Option StepRec) : State :=
  { s with steps := Table.set none s.steps i r }
def State.setPlan (s : State) (p : Nat) (f : Option Nat) : State :=
  { s with plans := Table.set none s.plans p f }
def State.setHeadCal (s : State) (h : Nat) (c : HeadCal) : State :=
  { s with cal := Table.set .cold s.cal h c }
def State.setLimit (s : State) (profile slot value : Nat) : State :=
  { s with limits := Table.set 0 s.limits (profile * 8 + slot) value }

/-- Changes a line's access state (R1). -/
def State.setAccess (s : State) (l : Nat) (a : Access) : State :=
  s.setLine l { s.line l with access := a }

/-- Changes a line's condition (R1). -/
def State.setCondition (s : State) (l : Nat) (c : Condition) : State :=
  s.setLine l { s.line l with condition := c }

/-- A saturating count. -/
def satAdd (top n k : Nat) : Nat := min top (n + k)

/-- The channels of the part, in rising order. -/
def allChannels : List Nat := [0, 1, 2, 3]

/-- The buses of the part, in rising order. -/
def allBuses : List Nat := [0, 1, 2, 3, 4, 5, 6, 7]

/-! ## Time -/

/-- The device time after `ms` further milliseconds. -/
def after (now : Time) (ms : Nat) : Time := now + BitVec.ofNat 48 ms

/-- The device time has reached `e`: it is at `e`, or past it by less than half the 48-bit count (log entry 9). -/
def reached (now e : Time) : Bool := decide ((now - e).toNat < 2 ^ 47)

/-- The timer runs and its expiry has come. -/
def Timer.due (now : Time) : Timer → Bool
  | .running e => reached now e
  | _ => false

/-! ## Free choices (log entry 5) -/

/-- Puts a list in an order the manual leaves free: one element after another, each by the next free choice. A list of at
most one element takes no choice. -/
def freeOrder : Nat → List α → Nat → List α × Nat
  | 0, l, n => (l, n)
  | _ + 1, [], n => ([], n)
  | _ + 1, [a], n => ([a], n)
  | f + 1, a :: b :: rest, n =>
    let l := a :: b :: rest
    let i := Config.freeChoice n % l.length
    let r := freeOrder f (l.eraseIdx i) (n + 1)
    ((l.getD i a) :: r.1, r.2)

/-- A free order of a list, with the choices it took counted in the state. -/
def State.inFreeOrder (s : State) (l : List α) : List α × State :=
  let r := freeOrder l.length l s.choice
  (r.1, { s with choice := r.2 })

/-! ## Send slots (R23, R31, R32) -/

/-- The arbiter's decision at an open slot (R31): an own frame waits, a transit frame waits, the run count, and whether the
transit head is held back behind the own queue (R32). -/
def arbitrate (ownWaits transitWaits : Bool) (run : Nat) (heldBack : Bool) : Option Source :=
  if ownWaits && (!transitWaits || run == 4) then some .own
  else if transitWaits then (if heldBack then some .own else some .transit)
  else none

/-- The run count after a slot (R31, R32). -/
def runAfter (run : Nat) : Source → Nat
  | .own => 0
  | .transit => min 4 (run + 1)

/-- A port whose open slot has been given, if a frame waits (R23, R31). -/
def Port.giveSlot (p : Port) (ownWaits transitWaits heldBack : Bool) : Port :=
  if p.sending = none ∧ 0 < p.credit then
    match arbitrate ownWaits transitWaits p.run heldBack with
    | some src => { p with sending := some src, run := runAfter p.run src }
    | none => p
  else p

/-- R32: the head of the downstream transit queue is an ORDER and the S-own queue holds an ORDER for the same line. -/
def heldBack (down : List Bytes) (own : List OwnFrame) : Bool :=
  match down.head?.bind readOrder with
  | some o => own.any fun f => isOrderFor o.line f.bytes
  | none => false

/-- The arbiter of Port S fills an open slot; while RSTN is low nothing is sent (R33). -/
def State.fillS (s : State) : State :=
  if s.phase = .held then s
  else { s with link.portS :=
    s.link.portS.giveSlot (!s.link.sOwn.isEmpty) (!s.link.down.isEmpty) (heldBack s.link.down s.link.sOwn) }

/-- The arbiter of Port U fills an open slot; it has no per-line rule (R31). -/
def State.fillU (s : State) : State :=
  if s.phase = .held then s
  else { s with link.portU :=
    s.link.portU.giveSlot (!s.desk.notices.isEmpty) (!s.link.up.isEmpty) false }

/-- The bytes of the frame a port is sending. -/
def State.outgoing (s : State) : PortId → Option Bytes
  | .s => match s.link.portS.sending with
    | some .transit => s.link.down.head?
    | some .own => s.link.sOwn.head?.map OwnFrame.bytes
    | none => none
  | .u => match s.link.portU.sending with
    | some .transit => s.link.up.head?
    | some .own => s.desk.notices.head?.map noticeFrame
    | none => none

/-! ## Queues -/

/-- A frame enters the downstream transit queue (R27). -/
def State.enterDown (s : State) (f : Bytes) : State :=
  { s with link.down := s.link.down ++ [f] }.fillS

/-- A frame enters the upstream transit queue (R27). -/
def State.enterUp (s : State) (f : Bytes) : State :=
  { s with link.up := s.link.up ++ [f] }.fillU

/-- An offer to the S-own queue would enter at once: a free entry, and no earlier offer waiting (R29). -/
def State.sOwnOpen (s : State) : Bool :=
  s.link.offers.isEmpty && decide (s.link.sOwn.length < Config.sOwnRoom)

/-- A frame enters the S-own queue. -/
def State.enterSOwn (s : State) (f : OwnFrame) : State :=
  { s with link.sOwn := s.link.sOwn ++ [f] }.fillS

/-- A block offers a frame to the S-own queue (R29): it enters at once or joins the waiting offers. The frame's serial number
is the link's serial before the offer. -/
def State.offer (s : State) (bytes : Bytes) (tie : Tie) : State :=
  let f : OwnFrame := ⟨bytes, s.link.serial, tie⟩
  let s' : State := { s with link.serial := s.link.serial + 1 }
  if s.sOwnOpen then s'.enterSOwn f
  else { s' with link.offers := s'.link.offers ++ [f] }

/-! ## Notices (R181) -/

/-- Every notice but a RESPONSE is unsolicited. -/
def Notice.unsolicited (n : Notice) : Bool := n.kind != .response

/-- The unsolicited count (R181). -/
def State.unsolicitedCount (s : State) : Nat := s.desk.notices.countP Notice.unsolicited

/-- The notice queue is reckoned full (R181). -/
def State.noticesFull (s : State) : Bool :=
  decide (Config.noticeRoom ≤ s.desk.notices.length + s.desk.reservations)

/-- A notice is placed at the tail of the notice queue. -/
def State.placeNotice (s : State) (n : Notice) : State :=
  { s with desk.notices := s.desk.notices ++ [n] }.fillU

/-- A block offers an unsolicited notice (R181): it enters, or is lost and counted. -/
def State.notify (s : State) (kind : NoticeKind) (body : Bytes) : State :=
  if s.unsolicitedCount < Config.unsolicitedRoom ∧ s.noticesFull = false then
    s.placeNotice ⟨0, kind, 0, body⟩
  else { s with desk.lost := satAdd 65535 s.desk.lost 1 }

/-- The result codes (section 2.7). -/
inductive Result where
  | ok | clamped | badCommand | badParam | inUse | busy | noChannel | noBus | lineBusy | lineUnequipped
  | lineInhibited | lineHazard | planInvalid | notFound | calFailed | starting
deriving DecidableEq, Repr

/-- The code of a result (section 2.7). -/
def Result.code : Result → Byte
  | .ok => 0x00 | .clamped => 0x01 | .badCommand => 0x10 | .badParam => 0x11 | .inUse => 0x12 | .busy => 0x13
  | .noChannel => 0x20 | .noBus => 0x21 | .lineBusy => 0x22 | .lineUnequipped => 0x23 | .lineInhibited => 0x24
  | .lineHazard => 0x25 | .planInvalid => 0x26 | .notFound => 0x30 | .calFailed => 0x31 | .starting => 0x32

/-- A response is placed in the entry reserved for it (R181). -/
def State.respond (s : State) (tag : Byte) (r : Result) (body : Bytes) : State :=
  { s with desk.reservations := s.desk.reservations - 1 }.placeNotice ⟨tag, .response, r.code, body⟩

/-! ## Channels -/

/-- The stages in which a test runs and a cause of release can reach it (R60, R89). -/
def Stage.active : Stage → Bool
  | .tapping | .sourcing | .settling | .measuring => true
  | _ => false

/-- The stages in which Intake accepts samples (R96). -/
def Stage.accepting : Stage → Bool
  | .sourcing | .settling | .measuring | .calibrating => true
  | _ => false

/-- The stages in which SET_PARAM finds a channel at rest (R184). -/
def Stage.quiet : Stage → Bool
  | .idle | .outOfService => true
  | _ => false

/-- The channel holds a ROUTINE test (R78). -/
def Channel.holdsRoutine (c : Channel) : Bool :=
  match c.test with
  | some t => t.priority == .routine
  | none => false

/-- Every channel is IDLE or OUT_OF_SERVICE (R184). -/
def State.allQuiet (s : State) : Bool := allChannels.all fun h => (s.chan h).stage.quiet

/-- An ABORT awaits completion (R178, R180). -/
def State.abortPending (s : State) : Bool := allChannels.any fun h => (s.chan h).pendingAbort.isSome

/-- One of the causes of a start attempt has come (R154). -/
def State.wantAttempt (s : State) : State := { s with sweep.attemptDue := true }

end Sys2Proof.Machine
end

