-- ==== Sys2Proof/Machine/Orders.lean ====
section
/-! DEFINITION. The hold queue, the flush of a line and the release path (chapter 3). -/

namespace Sys2Proof.Machine

/-! ## Commitment (R7) -/

/-- The condition after a ring order is committed toward Port S (R7). -/
def Condition.afterOrder : OrderCode → Condition → Condition
  | .ringStart, .idle => .ringing
  | .ringStart, .unknown => .ringing
  | .ringStop, .ringing => .idle
  | _, c => c

/-- An ORDER is committed toward Port S: on a line of nonzero class a ring order changes the condition (R2, R7). -/
def State.commit (s : State) (f : Bytes) : State :=
  match readOrder f with
  | some o =>
    if (s.line o.line).cls = 0 then s
    else s.setCondition o.line ((s.line o.line).condition.afterOrder o.code)
  | none => s

/-! ## Flushes (R46) -/

/-- The flush of a line, if one runs. -/
def State.flush (s : State) (line : Nat) : Option Flush := s.flushes.find? fun f => f.line == line

/-- The hold queue holds a record for the line. -/
def State.holdsFor (s : State) (line : Nat) : Bool := s.hold.any fun r => r.line == line

/-- The downstream transit queue holds an ORDER for the line (R46). -/
def State.transitHolds (s : State) (line : Nat) : Bool := s.link.down.any (isOrderFor line)

/-- Changes the flush of a line. -/
def State.setFlush (s : State) (f : Flush) : State :=
  { s with flushes := s.flushes.map fun g => if g.line = f.line then f else g }

/-- The access state a finished release leaves (R46). -/
def Access.afterRelease (stuck : Bool) : Access := if stuck then .stuck else .free

/-- The flush of a line ends: a FLUSHING line becomes STUCK or FREE by the stuck mark; any other access state, that of a
restart flush, is left as it is (R46, R50). -/
def State.endFlush (s : State) (f : Flush) : State :=
  let s' : State := { s with flushes := s.flushes.filter fun g => g.line != f.line }
  if (s.line f.line).access = .flushing then s'.setAccess f.line (Access.afterRelease f.stuck) else s'

/-- The repeated part of a flush (R46): while no offer is outstanding and no ORDER for the line stands in the downstream
transit queue, the oldest record is offered; a record that enters the S-own queue at once is committed and the next is
taken; with no record left the flush ends. One unit of fuel for each record and one for the end. -/
def State.runFlush : Nat → Nat → State → State
  | 0, _, s => s
  | fuel + 1, line, s =>
    match s.flush line with
    | none => s
    | some f =>
      if f.onOffer.isSome then s
      else
        match s.hold.find? fun r => r.line == line with
        | none => s.endFlush f
        | some r =>
          if s.transitHolds line then s
          else
            let s1 : State := { s with hold := s.hold.eraseP fun r => r.line == line }
            let s2 := s1.offer r.frame (.flush line)
            if s1.sOwnOpen then State.runFlush fuel line (s2.commit r.frame)
            else s2.setFlush { f with onOffer := some r }

/-- The flush of a line goes on as far as it can. -/
def State.flushOn (s : State) (line : Nat) : State := State.runFlush (s.hold.length + 1) line s

/-- The flush of a line begins (R46, R50). -/
def State.beginFlush (s : State) (line : Nat) (stuck : Bool) : State :=
  let s' : State := { s with flushes := s.flushes ++ [⟨line, none, stuck⟩] }
  s'.flushOn line

/-- The release path (R46, R50): a line is handed over at release completion, `stuck` when the release timed out. -/
def State.releasePath (s : State) (line : Nat) (stuck : Bool) : State :=
  match s.flush line with
  | some f => (s.setFlush { f with stuck := stuck }).setAccess line .flushing
  | none =>
    if s.holdsFor line then (s.setAccess line .flushing).beginFlush line stuck
    else s.setAccess line (Access.afterRelease stuck)

/-! ## Holding and lapsing (R41, R43, R44) -/

/-- The body of ORDER_REFUSED and the tail of ORDER_LAPSED: line, order code, argument (R45). DESIGN CHOICE: the code and the argument
are one byte each, as in the ORDER payload (log entry 42). -/
def orderBody (f : Bytes) : Bytes := byte2 (wordAt f 4) ++ byte1 (byteAt f 6) ++ byte1 (byteAt f 7)

/-- An order is held, unless the queue is full (R41, R43). -/
def State.holdOrder (s : State) (f : Bytes) (line : Nat) : State :=
  if s.hold.length < Config.holdRoom then
    { s with hold := s.hold ++ [⟨f, line, s.now, after s.now s.params.tHold⟩] }
  else s.notify .orderLapsed (byte1 LapseCause.queueFull.code ++ orderBody f)

/-- The flush of a line ends if it has no record and no offer left (R44, R46). -/
def State.endIfDone (s : State) (line : Nat) : State :=
  match s.flush line with
  | some f => if f.onOffer.isNone && !s.holdsFor line then s.endFlush f else s
  | none => s

/-- A record lapses (R44). -/
def State.lapse (s : State) (place : Nat) (r : HoldRec) : State :=
  let s1 : State := { s with hold := s.hold.eraseIdx place }
  let s2 := s1.notify .orderLapsed
    (byte1 LapseCause.timeout.code ++ orderBody r.frame ++ byte4 (s.now - r.arrival).toNat)
  s2.endIfDone r.line

/-- The oldest waiting offer enters the S-own queue; a released order is committed, and its line's next record is taken
(R29, R46). -/
def State.offerEnters (s : State) (f : OwnFrame) (rest : List OwnFrame) : State :=
  let s1 := { s with link.offers := rest }.enterSOwn f
  match f.tie with
  | .flush line =>
    let s2 := s1.commit f.bytes
    match s2.flush line with
    | some fl => (s2.setFlush { fl with onOffer := none }).flushOn line
    | none => s2
  | .untied | .confirm _ | .stray _ | .audit _ | .head _ _ => s1

end Sys2Proof.Machine
end

