-- ==== Sys2Proof/Machine/Flags.lean ====
section
/-! DEFINITION. The qualifier marks of a result: how they join, and their byte (R37, R85, R86). -/

namespace Sys2Proof.Machine

/-- Every qualifier that either holds (R86). -/
def Quals.join (a b : Quals) : Quals :=
  ⟨a.unsettled || b.unsettled, a.lossy || b.lossy, a.clipped || b.clipped, a.openLoop || b.openLoop,
    a.reversed || b.reversed⟩

/-- The qualifier byte: UNSETTLED 0x01, LOSSY 0x02, CLIPPED 0x04, OPEN 0x08, REVERSED 0x10 (R37). -/
def Quals.code (q : Quals) : Nat :=
  (if q.unsettled then 1 else 0) + (if q.lossy then 2 else 0) + (if q.clipped then 4 else 0)
    + (if q.openLoop then 8 else 0) + (if q.reversed then 16 else 0)

end Sys2Proof.Machine
end

