-- ==== Sys2Proof/Machine/Tickets.lean ====
section
/-! DEFINITION. The Ticket Table (chapter 11): raising, room, clearing, notices. -/

namespace Sys2Proof.Machine

/-! ## Encoding (R173) -/

/-- The measurement part, 10 bytes. -/
def Measured.bytes (m : Measured) : Bytes :=
  byte1 m.kind.code ++ byte1 m.arrangement.code ++ signed4 m.value ++ byte1 m.quals.code ++ byte1 m.verdict.code
    ++ byte1 m.originator.code ++ byte1 0

/-- Evidence: the related line, then the measurement part, each with its presence byte. -/
def Evidence.bytes (e : Evidence) : Bytes :=
  optional (e.related.map byte2) ++ optional (e.measured.map Measured.bytes)

/-- An entry as R173 encodes it. -/
def Ticket.bytes (t : Ticket) : Bytes :=
  byte2 t.number ++ byte1 t.kind.code ++ byte2 t.subject ++ byte1 t.cls.code ++ byte1 t.state.code
    ++ byte4 t.firstSeen.toNat ++ byte4 t.lastSeen.toNat ++ byte1 t.occurrences ++ byte1 t.reopens
    ++ optional (t.evidence.map Evidence.bytes) ++ noteBytes t.note

/-- A TICKET notice about an entry (R173). -/
def State.ticketNotice (s : State) (e : TicketEvent) (t : Ticket) : State :=
  s.notify .ticket (byte1 e.code ++ t.bytes)

/-! ## Finding entries -/

/-- The entry has this subject and class (R166). -/
def Ticket.isAbout (kind : SubjectKind) (subject : Nat) (cls : FaultClass) (t : Ticket) : Bool :=
  t.kind == kind && t.subject == subject && t.cls == cls

/-- The entry of a subject and class, if the table holds one. -/
def State.findTicket (s : State) (kind : SubjectKind) (subject : Nat) (cls : FaultClass) : Option Ticket :=
  s.tickets.entries.find? (Ticket.isAbout kind subject cls)

/-- The entry with a number, if the table holds one. -/
def State.ticketNumbered (s : State) (n : Nat) : Option Ticket :=
  s.tickets.entries.find? fun t => t.number == n

/-- Replaces the entry with a number. -/
def State.putTicket (s : State) (n : Nat) (t : Ticket) : State :=
  { s with tickets.entries := s.tickets.entries.map fun u => if u.number = n then t else u }

/-! ## The open-ticket count (R17, R166) -/

/-- A line's open-ticket count rises by one when an entry naming it is created. -/
def State.countUp (s : State) (kind : SubjectKind) (subject : Nat) : State :=
  match kind with
  | .line => s.setLine subject { s.line subject with ticketCount := (s.line subject).ticketCount + 1 }
  | .card | .bus | .head => s

/-- It falls by one when such an entry is removed. -/
def State.countDown (s : State) (kind : SubjectKind) (subject : Nat) : State :=
  match kind with
  | .line => s.setLine subject { s.line subject with ticketCount := (s.line subject).ticketCount - 1 }
  | .card | .bus | .head => s

/-- Takes an entry out of the table: the line's count falls and the TABLE_FULL arm is set (R170, R171, R175). -/
def State.removeTicket (s : State) (t : Ticket) : State :=
  let s' : State := { s with
    tickets.entries := s.tickets.entries.filter fun u => u.number != t.number
    tickets.armed := true }
  s'.countDown t.kind t.subject

/-! ## Raising (R168 to R171) -/

/-- An entry after another raise of its fault (R168). -/
def Ticket.again (minute : BitVec 32) (evidence : Option Evidence) (t : Ticket) : Ticket :=
  { t with
    occurrences := satAdd 255 t.occurrences 1
    lastSeen := minute
    evidence := evidence
    state := if t.state = .cleared then .opened else t.state
    reopens := if t.state = .cleared then satAdd 15 t.reopens 1 else t.reopens }

/-- A raise that finds its entry (R168). -/
def State.updateTicket (s : State) (t : Ticket) (evidence : Option Evidence) : State :=
  let t' := t.again s.minute evidence
  (s.putTicket t.number t').ticketNotice (if t.state = .cleared then .reopened else .updated) t'

/-- The number after a ticket number: 1 follows 65535 (R169). -/
def nextTicketNumber (n : Nat) : Nat := if 65535 ≤ n then 1 else n + 1

/-- The first number not held by any entry, counting upward from `n` (R169); 257 steps suffice. -/
def freeNumber (entries : List Ticket) : Nat → Nat → Nat
  | 0, n => n
  | fuel + 1, n =>
    if entries.any fun t => t.number == n then freeNumber entries fuel (nextTicketNumber n) else n

/-- A raise that creates its entry (R169). -/
def State.createTicket (s : State) (kind : SubjectKind) (subject : Nat) (cls : FaultClass)
    (evidence : Option Evidence) : State :=
  let n := freeNumber s.tickets.entries 257 s.tickets.nextNumber
  let t : Ticket := ⟨n, kind, subject, cls, .opened, s.minute, s.minute, 1, 0, evidence, []⟩
  let s' : State := { s with
    tickets.entries := s.tickets.entries ++ [t]
    tickets.nextNumber := nextTicketNumber n }
  (s'.ticketNotice .created t).countUp kind subject

/-- The older of two entries: the oldest last seen, then the lowest number (R170). DESIGN CHOICE: the minutes are compared as unsigned
numbers, across the wrap of the minute counter too (log entry 41). -/
def Ticket.older (a b : Ticket) : Ticket :=
  if b.lastSeen.toNat < a.lastSeen.toNat ∨ (b.lastSeen = a.lastSeen ∧ b.number < a.number) then b else a

/-- The oldest of some entries (R170). -/
def oldestTicket : List Ticket → Option Ticket
  | [] => none
  | t :: rest => some (rest.foldl Ticket.older t)

/-- The safety classes (R170). -/
def FaultClass.safety : FaultClass → Bool
  | .foreignVoltage | .relayStuck => true
  | _ => false

/-- The entry a raise of this class would take the place of in a full table (R170). -/
def State.evictee (s : State) (cls : FaultClass) : Option Ticket :=
  match oldestTicket (s.tickets.entries.filter fun t => t.state == .cleared) with
  | some t => some t
  | none =>
    if cls.safety then
      oldestTicket (s.tickets.entries.filter fun t => t.state == .confirmed && !t.cls.safety)
    else none

/-- A raise lost for want of room (R171). -/
def State.loseRaise (s : State) (kind : SubjectKind) (subject : Nat) (cls : FaultClass) : State :=
  let n := satAdd 65535 s.tickets.overflow 1
  let s' : State := { s with tickets.overflow := n }
  if s.tickets.armed then
    { s' with tickets.armed := false }.notify .ticket
      (byte1 TicketEvent.tableFull.code ++ byte1 kind.code ++ byte2 subject ++ byte1 cls.code ++ byte2 n)
  else s'

/-- A raise (R167): one act of the Ticket Table. -/
def State.raise (s : State) (kind : SubjectKind) (subject : Nat) (cls : FaultClass)
    (evidence : Option Evidence) : State :=
  match s.findTicket kind subject cls with
  | some t => s.updateTicket t evidence
  | none =>
    if s.tickets.entries.length < Config.ticketRoom then s.createTicket kind subject cls evidence
    else
      match s.evictee cls with
      | some t => ((s.removeTicket t).ticketNotice .evicted t).createTicket kind subject cls evidence
      | none => s.loseRaise kind subject cls

/-! ## Clearing (R172) -/

/-- A clear request. -/
def State.clearTicket (s : State) (kind : SubjectKind) (subject : Nat) (cls : FaultClass) : State :=
  match s.findTicket kind subject cls with
  | some t =>
    if t.state = .cleared then s
    else
      let t' := { t with state := .cleared }
      (s.putTicket t.number t').ticketNotice .cleared t'
  | none => s

end Sys2Proof.Machine
end

