-- ==== Sys2Proof/Machine/Access.lean ====
section
/-! DEFINITION. Test access (chapter 4): buses, plans, admission, tapping, release, yield, pre-emption. -/

namespace Sys2Proof.Machine

/-! ## Buses (R51) -/

/-- A free bus: FREE, with no stray release (R51). -/
def Bus.isFree (b : Bus) : Bool := b.state == .free && b.stray.isNone

/-- The bus's reach set holds the line's shelf (R51). -/
def Bus.reaches (b : Bus) (line : Nat) : Bool := b.reach.getLsbD (line / 256)

/-- The lowest-numbered free bus that reaches a line (R54). -/
def State.freeBus (s : State) (line : Nat) : Option Nat :=
  allBuses.find? fun b => (s.bus b).isFree && (s.bus b).reaches line

/-- The lowest-numbered IDLE channel (R54). -/
def State.idleChannel (s : State) : Option Nat :=
  allChannels.find? fun h => (s.chan h).stage == .idle

/-! ## Plans (R77, R78) -/

/-- The chain of steps from a step: loaded steps only, none twice, END reached within the fuel (R77). -/
def chainFrom (steps : Table (Option StepRec)) : Nat → List Nat → Nat → Option (List Nat)
  | 0, _, _ => none
  | fuel + 1, seen, i =>
    if seen.contains i then none
    else
      match Table.get none steps i with
      | none => none
      | some r =>
        match r.link with
        | none => some [i]
        | some j => (chainFrom steps fuel (i :: seen) j).map fun t => i :: t

/-- The steps of a plan in visiting order, if the plan is valid: at most 16 (R77). -/
def State.planSteps (s : State) (plan : Nat) : Option (List Nat) :=
  (s.plan plan).bind (chainFrom s.steps 16 [])

/-- The plan length; 0 for a plan that is not valid (R76, R77). -/
def State.planLength (s : State) (plan : Nat) : Nat := ((s.planSteps plan).getD []).length

/-- The plans of the running and the suspended tests (R78). -/
def State.plansInUse (s : State) : List Nat :=
  (allChannels.filterMap fun h => (s.chan h).test.map TestRec.plan) ++ s.sweep.suspended.map Context.plan

/-- A plan entry is in use (R78). -/
def State.planInUse (s : State) (plan : Nat) : Bool := s.plansInUse.contains plan

/-- A step is in use: it stands in the chain of a plan in use (R78). -/
def State.stepInUse (s : State) (step : Nat) : Bool :=
  s.plansInUse.any fun p => ((s.planSteps p).getD []).contains step

/-! ## Admission (R53, R54) -/

/-- A request for a test (R53). -/
structure Request where
  line : Nat
  plan : Nat
  urgent : Bool
  breakIn : Bool
  overrideHazard : Bool
deriving DecidableEq, Repr

/-- A ROUTINE request carries no flags (R53). -/
def Request.routine (line plan : Nat) : Request := ⟨line, plan, false, false, false⟩

/-- A channel is a candidate for pre-emption (R69). -/
def Channel.candidate (c : Channel) : Bool := c.holdsRoutine && c.stage.active

/-- The candidate is eligible: some free bus reaches the urgent line, or its own bus does (R69). -/
def State.eligible (s : State) (line : Nat) (h : Nat) : Bool :=
  (s.chan h).candidate &&
    ((s.freeBus line).isSome ||
      (match (s.chan h).bus with
       | some b => (s.bus b).reaches line
       | none => false))

/-- The start time of the channel's test, as a number. -/
def Channel.started (c : Channel) : Nat := (c.test.map fun t => t.startTime.toNat).getD 0

/-- The victim: the eligible candidate whose test started latest, the lowest-numbered among equals (R69). -/
def State.victim (s : State) (line : Nat) : Option Nat :=
  (allChannels.filter (s.eligible line)).foldl
    (fun best h =>
      match best with
      | none => some h
      | some g => if (s.chan g).started < (s.chan h).started then some h else some g)
    none

/-- The rows of R53 above NO_CHANNEL. -/
def State.earlyRefusal (s : State) (q : Request) : Option Result :=
  let l := s.line q.line
  if l.cls = 0 then some .lineUnequipped
  else if !q.urgent && l.inhibit then some .lineInhibited
  else if l.hazard && !(q.urgent && q.overrideHazard) then some .lineHazard
  else if l.access ≠ .free then some .lineBusy
  else if l.condition = .ringing ∨ l.condition = .cardDown then some .lineBusy
  else if (l.condition = .offHook ∨ l.condition = .unknown) ∧ !(q.urgent && q.breakIn) then some .lineBusy
  else if (s.planSteps q.plan).isNone then some .planInvalid
  else none

/-- Admission's examination (R53): the refusal of the first row that holds, or none. -/
def State.refusal (s : State) (q : Request) : Option Result :=
  match s.earlyRefusal q with
  | some r => some r
  | none =>
    match s.idleChannel with
    | none => if !q.urgent || (s.victim q.line).isNone then some .noChannel else none
    | some _ => if (s.freeBus q.line).isNone then some .noBus else none

/-! ## Tapping (R56) -/

/-- A channel begins TAPPING on a line and a bus already claimed for it (R56). -/
def State.beginTapping (s : State) (h line b : Nat) : State :=
  let s1 := s.setBus b { s.bus b with commanded := some line }
  let s2 := s1.setAccess line (.tapPending h)
  let s3 := s2.setChan h { s2.chan h with stage := .tapping, bus := some b, exposure := 0, peak := 0 }
  let serial := s3.link.serial
  let s4 := s3.offer (tapConnectFrame line b) (.confirm b)
  s4.setBus b { s4.bus b with confirm := .tied serial }

/-- The bus is claimed for the channel, and the channel begins TAPPING (R54, R71). -/
def State.claimAndTap (s : State) (h line b : Nat) : State :=
  (s.setBus b { s.bus b with state := .claimed h }).beginTapping h line b

/-- A test is started on an IDLE channel and a free bus: its record is made, the bus is claimed, TAPPING begins (R54, R80). -/
def State.startTest (s : State) (h b : Nat) (t : TestRec) (origin : Origin) : State :=
  (s.setChan h { s.chan h with test := some t, origin := origin, restartEnded := false }).claimAndTap h t.line b

/-! ## Releasing (R60) -/

/-- A channel begins its release of a line on a bus (R60). Leaving the accepting stages clears its intake state (R95). -/
def State.release (s : State) (h line b : Nat) : State :=
  let c := s.chan h
  let e := c.epoch + 1
  let s1 := s.setChan h { c with stage := .releasing, step := none, intake := .cold, epoch := e }
  let s2 := s1.setAccess line (.releasePending (some h))
  let s3 := s2.offer (idleDirective h e) .untied
  let serial := s3.link.serial
  let s4 := s3.offer (tapReleaseFrame line b) (.confirm b)
  s4.setBus b { s4.bus b with confirm := .tied serial }

/-- A cause of release reaches a channel (R89): in TAPPING to MEASURING it fixes the outcome and starts the release; in any
other stage it has no effect. -/
def State.endByCause (s : State) (h : Nat) (o : TestOutcome) : State :=
  let c := s.chan h
  if c.stage.active then
    match c.test, c.bus with
    | some t, some b => (s.setChan h { c with test := some { t with outcome := some o } }).release h t.line b
    | _, _ => s
  else s

/-! ## Yield (R68) -/

/-- The yield trigger reaches a line: a ROUTINE test that holds it, in TAPPING to MEASURING, ends YIELDED (R68). -/
def State.yieldTrigger (s : State) (line : Nat) : State :=
  match (s.line line).access.channel with
  | some h => if (s.chan h).holdsRoutine then s.endByCause h .yielded else s
  | none => s

/-- The trigger would end a test on the line. -/
def State.wouldYield (s : State) (line : Nat) : Bool :=
  match (s.line line).access.channel with
  | some h => (s.chan h).candidate
  | none => false

/-! ## Order screening (R38 to R43) -/

/-- The Order Screen decides the fate of an ORDER that Port U hands to it (R38). -/
def State.screen (s : State) (f : Bytes) (o : Order) : State :=
  match o.code with
  | .tapConnect | .tapRelease | .cardAudit => s.notify .orderRefused (orderBody f)
  | .ringStart | .ringStop | .feedOn | .feedOff | .reverse | .normal =>
    match (s.line o.line).access with
    | .free | .stuck => (s.enterDown f).commit f
    | .flushing => s.holdOrder f o.line
    | .tapPending _ | .tapped _ | .releasePending _ =>
      let s1 := s.holdOrder f o.line
      if o.code = .ringStart ∧ s.hold.length < Config.holdRoom then s1.yieldTrigger o.line else s1

end Sys2Proof.Machine
end

