-- ==== Sys2Proof/Machine/SweepEnds.lean ====
section
/-! DEFINITION. How the Sweep Unit books the ends of routine tests (R148, R153, R157, R160, R161). -/

namespace Sys2Proof.Machine

/-! ## Pass counts (R160) -/

/-- A count rises by one, saturating at 65535. -/
def bump (n : Nat) : Nat := satAdd 65535 n 1

/-- A pass count changes only while a pass is under way (R160). -/
def State.count (s : State) (g : Counts → Counts) : State :=
  if s.sweep.underWay then { s with sweep.counts := g s.sweep.counts } else s

def Counts.addMissed (c : Counts) : Counts := { c with missed := bump c.missed }
def Counts.addDeferred (c : Counts) : Counts := { c with deferred := bump c.deferred }
def Counts.addInhibited (c : Counts) : Counts := { c with inhibited := bump c.inhibited }
def Counts.addHazard (c : Counts) : Counts := { c with hazard := bump c.hazard }
def Counts.addBusy (c : Counts) : Counts := { c with busy := bump c.busy }
def Counts.addDropped (c : Counts) : Counts := { c with dropped := bump c.dropped }

/-- TESTED rises, and the count the class names, unless the class is NONE (R160). -/
def Counts.addTested (cls : RoutineOutcome) (c : Counts) : Counts :=
  let c' := { c with tested := bump c.tested }
  match cls with
  | .pass => { c' with pass := bump c'.pass }
  | .fail => { c' with fail := bump c'.fail }
  | .marginal => { c' with marginal := bump c'.marginal }
  | .indeterminate => { c' with indeterminate := bump c'.indeterminate }
  | .unset | .missed => c'

/-- The eleven counts, 2 bytes each, in the order of R160. -/
def Counts.bytes (c : Counts) : Bytes :=
  byte2 c.tested ++ byte2 c.pass ++ byte2 c.fail ++ byte2 c.marginal ++ byte2 c.indeterminate ++ byte2 c.missed
    ++ byte2 c.deferred ++ byte2 c.inhibited ++ byte2 c.hazard ++ byte2 c.busy ++ byte2 c.dropped

/-! ## Belonging to the pass (R148) -/

/-- A test or context of this pass number and started-in-pass flag belongs to the pass under way (R148). -/
def State.belongs (s : State) (pass : Nat) (startedInPass : Bool) : Bool :=
  s.sweep.underWay && startedInPass && pass == s.sweep.passNumber

/-- Writes a line's last sweep pass and last routine outcome (R17). -/
def State.writeRoutine (s : State) (line pass : Nat) (o : RoutineOutcome) : State :=
  s.setLine line { s.line line with lastPass := pass, lastOutcome := o }

/-- A line is counted MISSED in the pass under way, and its record says so (R155, R156). -/
def State.missLine (s : State) (line : Nat) : State :=
  (s.count Counts.addMissed).writeRoutine line s.sweep.passNumber .missed

/-! ## The suspect queue (R157) -/

/-- What becomes of an offer to the suspect queue (R157). -/
inductive SuspectFate where
  | dropped
  | present
  | full
  | joined (position : Nat)
deriving DecidableEq, Repr

/-- The fate of an offer for a line (R157). -/
def State.suspectFate (s : State) (line : Nat) : SuspectFate :=
  if s.sweep.state = .stopped ∨ s.sweep.state = .draining then .dropped
  else if s.sweep.suspects.any fun e => e.line == line then .present
  else if Config.suspectRoom ≤ s.sweep.suspects.length then .full
  else .joined (s.sweep.suspects.length + 1)

/-- An entry is offered to the suspect queue (R157). The start attempt its joining calls for is made at the end of the act
(log entry 12). -/
def State.offerSuspect (s : State) (line plan : Nat) (reason : Reason) : State :=
  match s.suspectFate line with
  | .dropped | .present => s
  | .full => s.count Counts.addDropped
  | .joined _ =>
    let s' : State := { s with sweep.suspects := s.sweep.suspects ++ [⟨line, plan, reason, false⟩] }
    s'.wantAttempt

/-! ## The revisit list (R156) -/

/-- A line joins the revisit list and counts DEFERRED, or counts MISSED if the list is full or holds it (R155, R160). The
answer tells which. -/
def State.canRevisit (s : State) (line : Nat) : Bool :=
  decide (s.sweep.revisits.length < Config.revisitRoom) && !s.sweep.revisits.any fun e => e.line == line

def State.deferLine (s : State) (line plan : Nat) : State :=
  let s' : State := { s with sweep.revisits := s.sweep.revisits ++ [⟨line, plan⟩] }
  s'.count Counts.addDeferred

/-! ## The end of a routine test (R160, R161) -/

/-- What the Sweep Unit is told of a routine test that ended (R90) or of a context that ended YIELDED (R159). -/
structure RoutineEnd where
  line : Nat
  plan : Nat
  pass : Nat
  startedInPass : Bool
  outcome : Option TestOutcome
  results : List StepResult
  origin : Origin
deriving DecidableEq, Repr

def hasVerdict (v : Verdict) (rs : List StepResult) : Bool := rs.any fun r => r.verdict == v

/-- The class of a test that did not end YIELDED (R160). -/
def routineClass (rs : List StepResult) (o : Option TestOutcome) : RoutineOutcome :=
  if hasVerdict .fail rs then .fail
  else if hasVerdict .marginal rs then .marginal
  else if hasVerdict .indeterminate rs ∨ o ≠ some .completed then .indeterminate
  else if hasVerdict .pass rs then .pass
  else .unset

/-- The counting of a test that ended YIELDED and belongs to the pass under way (R160). -/
def State.countYield (s : State) (e : RoutineEnd) : State :=
  match e.origin with
  | .walk | .suspect _ =>
    if s.sweep.state ≠ .draining ∧ s.canRevisit e.line = true then s.deferLine e.line e.plan
    else s.count Counts.addMissed
  | .revisit => s.count Counts.addMissed
  | .unset => s

/-- Steps 1 and 2 of R160: the line record, then the counts. -/
def State.bookEnd (s : State) (e : RoutineEnd) : State :=
  if e.outcome = some .yielded then
    let s1 := s.writeRoutine e.line e.pass .missed
    if s.belongs e.pass e.startedInPass then s1.countYield e else s1
  else
    let cls := routineClass e.results e.outcome
    let s1 := s.writeRoutine e.line e.pass cls
    if s.belongs e.pass e.startedInPass then s1.count (Counts.addTested cls) else s1

/-- The evidence of a result (R167). -/
def StepResult.evidence (r : StepResult) (o : Originator) : Evidence :=
  ⟨none, some ⟨r.kind, r.arrangement, r.value, r.quals, r.verdict, o⟩⟩

/-- Step 3 of R160: the actions of R161, by the test's origin. -/
def State.originActions (s : State) (e : RoutineEnd) : State :=
  match e.origin with
  | .walk | .revisit =>
    match e.results.find? fun r => r.verdict == .marginal with
    | some r => s.offerSuspect e.line e.plan (.marginal r.step)
    | none => s
  | .suspect (.marginal step) =>
    match e.results.find? fun r => r.step == step with
    | some r =>
      if r.verdict = .marginal then s.raise .line e.line r.cls (some (r.evidence .sweep)) else s
    | none => s
  | .suspect .flap =>
    if e.outcome = some .completed ∧ e.results.all (fun r => r.verdict == .pass || r.verdict == .unjudged) then
      s.clearTicket .line e.line .intermittentLoop
    else s
  | .suspect .desk | .unset => s

/-- The Sweep Unit is told that a routine test ended (R160); pass end and start attempt follow at the end of the act. -/
def State.routineEnded (s : State) (e : RoutineEnd) : State :=
  ((s.bookEnd e).originActions e).wantAttempt

/-! ## Discarded contexts (R153) -/

/-- A context is discarded by a stop: MISSED, if it belongs to the pass under way (R153). -/
def State.discardContext (s : State) (c : Context) : State :=
  if s.belongs c.pass c.startedInPass then
    (s.count Counts.addMissed).writeRoutine c.line c.pass .missed
  else s

/-- A context is pushed by a pre-emption: onto the tail of the suspend list, or, in DRAINING, discarded at once (R70, R153). -/
def State.pushContext (s : State) (c : Context) : State :=
  if s.sweep.state = .draining then s.discardContext c
  else { s with sweep.suspended := s.sweep.suspended ++ [c] }

/-- Some channel holds a ROUTINE test. -/
def State.routineHeld (s : State) : Bool := allChannels.any fun h => (s.chan h).holdsRoutine

/-- A SWEEP notice: the event, then the event's own fields (log entry 14). -/
def State.sweepNotice (s : State) (e : SweepEvent) (fields : Bytes) : State :=
  s.notify .sweep (byte1 e.code ++ fields)

/-- The drain ends when no channel holds a ROUTINE test (R153). -/
def State.endDrain (s : State) : State :=
  if s.sweep.state = .draining ∧ s.routineHeld = false then
    let counts := if s.sweep.underWay then s.sweep.counts else .zero
    let s1 := s.sweepNotice .passStopped
      (byte1 s.sweep.passNumber ++ flagByte s.sweep.underWay ++ counts.bytes)
    { s1 with sweep.state := .stopped, sweep.underWay := false }
  else s

end Sys2Proof.Machine
end

