-- ==== Sys2Proof/Machine/LineTable.lean ====
section
/-! DEFINITION. The Line Table's part in events: audits, loop events, the flap detector, card events (R4 to R14). -/

namespace Sys2Proof.Machine

/-! ## Audits (R11) -/

/-- An audit of a card is requested (R11). -/
def State.requestAudit (s : State) (card : Nat) : State :=
  if (s.audit card).flag then s
  else
    let serial := s.link.serial
    (s.offer (cardAuditFrame card) (.audit card)).setAudit card ⟨true, .tied serial⟩

/-- Audits of several cards, in their order. -/
def State.requestAudits (s : State) (cards : List Nat) : State := cards.foldl State.requestAudit s

/-- The line keeps its card waiting for an audit: equipped and UNKNOWN (R4, R11). -/
def LineRec.wantsAudit (l : LineRec) : Bool := l.cls != 0 && l.condition == .unknown

/-- The cards with a circuit of nonzero class in condition UNKNOWN, ascending (R11). -/
def cardsWanting : Table LineRec → List Nat
  | [] => []
  | (n, l) :: t =>
    let rest := cardsWanting t
    if l.wantsAudit && rest.head? != some (n / 16) then n / 16 :: rest else rest

/-! ## The flap detector (R13, R14) -/

/-- A flap interval counter after a flap-unit boundary (R13). -/
def LineRec.tick (l : LineRec) : LineRec := { l with flapInterval := satAdd 255 l.flapInterval 1 }

/-- The flap count after a transition with this interval (R14, step 2). -/
def flapCountAfter (threshold interval count : Nat) : Nat :=
  if interval < threshold then satAdd 15 count 1 else 0

/-- A counted transition of a line (R14). -/
def State.countedTransition (s : State) (line : Nat) : State :=
  let l := s.line line
  let n := flapCountAfter s.params.flapThreshold l.flapInterval l.flapCount
  if s.params.flapLimit ≤ n then
    ((s.setLine line { l with flapInterval := 0, flapCount := 0 }).raise .line line .intermittentLoop none).offerSuspect
      line s.sweep.config.suspectPlan .flap
  else s.setLine line { l with flapInterval := 0, flapCount := n }

/-! ## Loop events (R6, R8) -/

/-- The table of R6: the new condition and the mark (c) of a counted transition; none for a dash. -/
def Condition.onLoop : ScanEvent → Condition → Option (Condition × Bool)
  | .loopClosed, .unknown => some (.offHook, true)
  | .loopClosed, .idle => some (.offHook, true)
  | .loopClosed, .ringing => some (.offHook, true)
  | .loopOpen, .unknown => some (.idle, true)
  | .loopOpen, .offHook => some (.idle, true)
  | .ringTripped, .unknown => some (.offHook, false)
  | .ringTripped, .idle => some (.offHook, false)
  | .ringTripped, .ringing => some (.offHook, false)
  | _, _ => none

/-- A loop event for a line (R2, R6). The flap detector comes before the notice to Access Control (log entry 23). -/
def State.loopEvent (s : State) (line : Nat) (e : ScanEvent) : State :=
  if (s.line line).cls = 0 then s
  else
    match (s.line line).condition.onLoop e with
    | none => s
    | some (c, counted) =>
      let s1 := s.setCondition line c
      let s2 := if counted then s1.countedTransition line else s1
      if c = .offHook then s2.yieldTrigger line else s2

/-! ## Card events (R9, R10, R12) -/

/-- The 16 circuits of a card. -/
def circuitsOf (card : Nat) : List Nat := (List.range 16).map fun i => card * 16 + i

/-- Every circuit of a card takes a condition, whatever its class. -/
def State.setCardCondition (s : State) (card : Nat) (c : Condition) : State :=
  (circuitsOf card).foldl (fun s l => s.setCondition l c) s

/-- CARD_FAULT or CARD_ABSENT (R9). -/
def State.cardDown (s : State) (card : Nat) : State :=
  (s.setCardCondition card .cardDown).raise .card card .cardFault none

/-- CARD_OK (R10). -/
def State.cardOk (s : State) (card : Nat) : State :=
  ((s.setCardCondition card .unknown).clearTicket .card card .cardFault).requestAudit card

/-- The condition a CARD_STATE entry gives (R12). -/
def LineRec.onCardState (l : LineRec) (closed : Bool) : LineRec :=
  if l.cls = 0 then l
  else
    match l.condition with
    | .unknown | .idle | .offHook => { l with condition := if closed then .offHook else .idle }
    | .ringing | .cardDown => l

/-- The bit of a circuit in the bitmap (section 2.7). -/
def closedIn (bitmap line : Nat) : Bool := bitmap / 2 ^ (line % 16) % 2 == 1

/-- The circuit's condition becomes OFF_HOOK by this CARD_STATE (R8). -/
def LineRec.goesOffHook (l : LineRec) (closed : Bool) : Bool :=
  l.condition != .offHook && (l.onCardState closed).condition == .offHook

/-- CARD_STATE (R12): the conditions, the notices to Access Control, the audit flag and timer. The yields of several circuits
come in a free order (log entry 5). -/
def State.cardState (s : State) (card bitmap : Nat) : State :=
  let offHook := (circuitsOf card).filter fun l => (s.line l).goesOffHook (closedIn bitmap l)
  let s1 := (circuitsOf card).foldl (fun s l => s.setLine l ((s.line l).onCardState (closedIn bitmap l))) s
  let ordered := s1.inFreeOrder (offHook.filter s1.wouldYield)
  let s2 := ordered.1.foldl State.yieldTrigger ordered.2
  if (s2.audit card).flag then s2.setAudit card .cold else s2

end Sys2Proof.Machine
end

