-- ==== Sys2Proof/Machine/TestEnds.lean ====
section
/-! DEFINITION. The end of a test and of a release: reports, handover, late answers (R61, R62, R71 to R73, R90 to R92). -/

namespace Sys2Proof.Machine

/-! ## Reports (R91) -/

/-- A result in 14 bytes (R91). -/
def StepResult.bytes (r : StepResult) : Bytes :=
  byte1 r.step ++ byte1 r.kind.code ++ byte1 r.arrangement.code ++ byte1 r.range.code ++ signed4 r.value
    ++ byte1 r.verdict.code ++ byte1 r.quals.code ++ byte2 r.uncertainty ++ byte1 r.cls.code ++ byte1 r.reps

/-- A voltage code in millivolts (R91, R117). -/
def millivolts (code : Int) : Int := (code * 250000 + 16384) / 32768

/-- The outcome byte; a test left without one by a warm restart has a free value (log entry 18). -/
def outcomeByte (o : Option TestOutcome) (n : Nat) : Byte :=
  match o with
  | some o => BitVec.ofNat 8 o.code
  | none => Config.freeOutcome n

/-- What a TEST_REPORT reports (R91). -/
structure Report where
  line : Nat
  plan : Nat
  priority : Priority
  originator : Originator
  channel : Nat
  breakIn : Bool
  overrideHazard : Bool
  startMinute : BitVec 32
  outcome : Option TestOutcome
  pass : Nat
  planLength : Nat
  resumed : Bool
  savedRep : Nat
  peak : Int
  results : List StepResult
deriving DecidableEq, Repr

/-- The body of a TEST_REPORT, 21 bytes and 14 for each result (R91). -/
def Report.bytes (r : Report) (n : Nat) : Bytes :=
  byte2 r.line ++ byte1 r.plan ++ byte1 r.priority.code ++ byte1 r.originator.code ++ byte1 r.channel
    ++ byte1 ((if r.breakIn then 1 else 0) + (if r.overrideHazard then 2 else 0))
    ++ byte4 r.startMinute.toNat ++ [outcomeByte r.outcome n] ++ byte1 r.pass ++ byte1 r.planLength
    ++ byte1 r.results.length ++ flagByte r.resumed ++ byte1 r.savedRep ++ signed4 r.peak
    ++ r.results.flatMap StepResult.bytes

/-- The report policy of a routine test (R91). -/
def Policy.wantsReport (p : Policy) (o : Option TestOutcome) (rs : List StepResult) : Bool :=
  match p with
  | .all => true
  | .exceptions => o != some .completed || rs.any fun r => r.verdict != .pass && r.verdict != .unjudged

/-- The TEST_REPORT of a channel's test at its end (R91). -/
def State.reportOf (s : State) (h : Nat) (c : Channel) (t : TestRec) : Report :=
  ⟨t.line, t.plan, t.priority, t.originator, h, t.breakIn, t.overrideHazard, t.startMinute, t.outcome,
    t.pass, s.planLength t.plan, t.resumed, t.savedRep, millivolts c.peak, t.results⟩

/-- A TEST_REPORT is offered, if R91 calls for it. -/
def State.sendReport (s : State) (r : Report) : State :=
  if r.priority = .urgent ∨ s.sweep.config.policy.wantsReport r.outcome r.results = true then
    s.notify .testReport (r.bytes s.choice)
  else s

/-! ## The end of a test (R90) -/

/-- The stage a channel falls back to: IDLE, or OUT_OF_SERVICE with its head out of service (R79, R90). -/
def Channel.restStage (c : Channel) : Stage := if c.headOut then .outOfService else .idle

/-- A channel that has given up its test (R90, steps 1 and 2, and the origin of R160, step 4). -/
def Channel.givenUp (c : Channel) : Channel :=
  { c with
    stage := c.restStage, bus := none, step := none, test := none, releaseLine := none, handover := false
    pendingAbort := none, restartEnded := false, origin := .unset, intake := .cold }

/-- A channel that became IDLE is one of the causes of a start attempt (R154). -/
def State.noteIdle (s : State) (h : Nat) : State :=
  if (s.chan h).stage = .idle then s.wantAttempt else s

/-- The body of an ABORT's response at completion (R92). -/
def State.abortBody (s : State) (h : Nat) (t : TestRec) : Bytes :=
  byte1 h ++ byte2 t.line ++ [outcomeByte t.outcome s.choice]

/-- An ABORT that awaits the channel's completion is answered (R92). A free outcome takes one free choice. -/
def State.answerAbort (s : State) (h : Nat) (tag : Option Byte) (t : TestRec) : State :=
  match tag with
  | some tag =>
    let s1 := s.respond tag .ok (s.abortBody h t)
    match t.outcome with
    | some _ => s1
    | none => { s1 with choice := s1.choice + 1 }
  | none => s

/-- A test reaches its end when its channel gives it up (R90). A test that a warm restart found in RELEASING takes only the
first three steps (R94). -/
def State.endTest (s : State) (h : Nat) : State :=
  let c := s.chan h
  let s1 := (s.setChan h c.givenUp).noteIdle h
  match c.test with
  | none => s1
  | some t =>
    let s2 := s1.answerAbort h c.pendingAbort t
    if c.restartEnded then s2
    else
      let s3 := s2.sendReport (s.reportOf h c t)
      match t.priority with
      | .urgent => s3
      | .routine => s3.routineEnded ⟨t.line, t.plan, t.pass, t.startedInPass, t.outcome, t.results, c.origin⟩

/-! ## The end of a release (R61, R62, R71, R72) -/

/-- What follows the end of a channel's release: a pending handover is taken (R71), the line of a cleared handover goes to the
release path (R72), and otherwise the test ends (R90). -/
def State.finishRelease (s : State) (h : Nat) : State :=
  let c := s.chan h
  match c.test with
  | none => s.endTest h
  | some t =>
    if c.handover then
      let s1 := s.setChan h { c with releaseLine := none, handover := false }
      match s1.freeBus t.line with
      | some b => s1.claimAndTap h t.line b
      | none =>
        let s2 := s1.setChan h { s1.chan h with test := some { t with outcome := some .noBus } }
        (s2.releasePath t.line false).endTest h
    else if c.releaseLine.isSome then
      ((s.setChan h { c with releaseLine := none }).releasePath t.line false).endTest h
    else s.endTest h

/-- The bus state at the end of a claim (R61, R65, R67, R73). -/
def State.stateAfterClaim (s : State) (b : Bus) (protMark : Bool) : BusState :=
  if b.oosMark then .outOfService
  else if protMark then .lockout (after s.now (s.params.lockout * 1000))
  else .free

/-- A bus whose claim has ended with a confirmed break: no timer, no relay image, the out-of-service mark used up. -/
def State.freeClaim (s : State) (b : Nat) (protMark : Bool) : State :=
  let r := s.bus b
  let state := s.stateAfterClaim r protMark
  let s1 := s.setBus b { r with
    confirm := .stopped, commanded := none, confirmed := none, state := state, oosMark := false }
  if state = .free then s1.wantAttempt else s1

/-- A release completes (R61). -/
def State.completeRelease (s : State) (h b line : Nat) : State :=
  let mark := (s.chan h).protMark
  let s1 := s.freeClaim b mark
  let s2 := s1.setChan h { s1.chan h with protMark := false }
  (s2.releasePath line false).finishRelease h

/-- Steps 1 to 3 of a release that times out (R62): the bus goes out of service, RELAY_STUCK is raised, the line is handed
over as a timed-out completion. -/
def State.stickRelay (s : State) (b line : Nat) : State :=
  let s1 := s.setBus b { s.bus b with
    state := .outOfService, stuckLine := some line, oosMark := false, confirm := .stopped }
  let s2 := s1.raise .bus b .relayStuck (some ⟨some line, none⟩)
  s2.releasePath line true

/-- The confirm timer of a release expires (R62). -/
def State.timeOutRelease (s : State) (h b line : Nat) : State :=
  let s1 := s.setChan h { s.chan h with protMark := false }
  (s1.stickRelay b line).finishRelease h

end Sys2Proof.Machine
end

