-- ==== Sys2Proof/Machine/Sweep.lean ====
section
/-! DEFINITION. Routine sweeps (chapter 10): pass start, start attempts with their four sources, pass end, and the settling of
an act. -/

namespace Sys2Proof.Machine

/-! ## Pass start (R150, R152) -/

/-- The configuration a pass start latches (R150). -/
def State.latched (s : State) : PassConfig :=
  ⟨s.sweep.ranges, s.params.concurrency, s.params.policy, s.params.interval, s.params.suspectPlan⟩

/-- The body of PASS_START after its event (R152). DESIGN CHOICE: the concurrency is one byte (log entry 42), and the report policy is
one byte as a name is (log entry 39). -/
def passStartFields (pass : Nat) (c : PassConfig) : Bytes :=
  byte1 pass ++ byte1 c.ranges.length ++ byte1 c.concurrency ++ byte1 c.policy.code ++ byte2 c.interval
    ++ byte1 c.suspectPlan

/-- The walk position at a pass start (R152). -/
def walkStart (ranges : List SweepRange) : Walk :=
  match ranges with
  | [] => .done
  | r :: _ => .onLine 0 r.first

/-- A pass starts (R152). -/
def State.startPass (s : State) : State :=
  let c := s.latched
  let pass := (s.sweep.passNumber + 1) % 256
  let s1 : State := { s with
    sweep.passNumber := pass, sweep.underWay := true, sweep.config := c
    sweep.timer := none, sweep.startWaits := false, sweep.left := none }
  let s2 := s1.requestAudits (cardsWanting s1.lines)
  let s3 : State := { s2 with sweep.counts := .zero, sweep.walk := walkStart c.ranges }
  let s4 := s3.sweepNotice .passStart (passStartFields pass c)
  let s5 : State := { s4 with sweep.state := .running }
  s5.wantAttempt

/-! ## Start conditions (R154) -/

/-- The number of channels that hold ROUTINE tests (R154). -/
def State.routineCount (s : State) : Nat := allChannels.countP fun h => (s.chan h).holdsRoutine

/-- The conditions every start needs beside the sweep's state (R154). -/
def State.mayStart (s : State) : Bool :=
  decide (0 < s.sweep.config.concurrency) && decide (s.routineCount < s.sweep.config.concurrency)

/-- The conditions of a resumption (R154). -/
def State.mayResume (s : State) : Bool := s.sweep.state == .running && s.mayStart

/-- Room for a new routine test beside the suspended ones (R154). -/
def State.hasRoom (s : State) : Bool := decide (s.routineCount + s.sweep.suspended.length < 4)

/-- The conditions of a new routine test in RUNNING (R154). -/
def State.mayWalk (s : State) : Bool := s.mayResume && s.hasRoom

/-- The conditions under which the suspect queue is served, in RUNNING or in WAITING (R154). -/
def State.maySuspect (s : State) : Bool :=
  (s.sweep.state == .running || s.sweep.state == .waiting) && s.mayStart && s.hasRoom

/-! ## Requests -/

/-- The record of a fresh routine test (R80, R148). -/
def State.routineRecord (s : State) (line plan : Nat) : TestRec :=
  { line := line, plan := plan, priority := .routine, originator := .sweep, breakIn := false
    overrideHazard := false, startTime := s.now, startMinute := s.minute, pass := s.sweep.passNumber
    startedInPass := s.sweep.state == .running, resumed := false, savedRep := 0
    startStep := (s.plan plan).getD 0, results := [], outcome := none }

/-- The record of a resumed test (R80). -/
def State.resumedRecord (s : State) (c : Context) : TestRec :=
  { line := c.line, plan := c.plan, priority := .routine, originator := .sweep, breakIn := false
    overrideHazard := false, startTime := s.now, startMinute := s.minute, pass := c.pass
    startedInPass := c.startedInPass, resumed := true, savedRep := c.rep
    startStep := c.step, results := c.results, outcome := none }

/-- What became of a ROUTINE request. -/
inductive Fate where
  | started (s : State)
  | refused (r : Result)

/-- A ROUTINE request goes to admission (R53, R54). -/
def State.requestRoutine (s : State) (t : TestRec) (origin : Origin) : Fate :=
  match s.refusal (.routine t.line t.plan) with
  | some r => .refused r
  | none =>
    match s.idleChannel, s.freeBus t.line with
    | some h, some b => .started (s.startTest h b t origin)
    | none, _ => .refused .noChannel
    | some _, none => .refused .noBus

/-- The line is IDLE and FREE (R156, R158, R159). -/
def LineRec.ready (l : LineRec) : Bool := l.condition == .idle && l.access == .free

/-- What a source answers to one try (R154). -/
inductive Served where
  /-- A test was started: the attempt begins again from source 1. -/
  | started (s : State)
  /-- A candidate was dealt with without a start: the attempt goes on with the same source. -/
  | handled (s : State)
  /-- The source has nothing for this attempt: the attempt passes to the next source. -/
  | passed (s : State)
  /-- The attempt ends. -/
  | ended (s : State)

/-! ## Source 1: the suspend list (R159) -/

/-- A context ends YIELDED without a channel (R159). -/
def State.yieldContext (s : State) (c : Context) : State :=
  let r : Report :=
    ⟨c.line, c.plan, .routine, .sweep, 0xFF, false, false, s.minute, some .yielded, c.pass, s.planLength c.plan, true,
      c.rep, 0, c.results⟩
  (s.sendReport r).routineEnded ⟨c.line, c.plan, c.pass, c.startedInPass, some .yielded, c.results, c.origin⟩

/-- The pass under way meets every condition of its end (R162). -/
def State.passDone (s : State) : Bool :=
  s.sweep.underWay && s.sweep.state == .running && s.sweep.walk == .done && s.sweep.revisits.isEmpty
    && !(allChannels.any fun h =>
          match (s.chan h).test with
          | some t => t.priority == .routine && s.belongs t.pass t.startedInPass
          | none => false)
    && !(s.sweep.suspended.any fun c => s.belongs c.pass c.startedInPass)

/-- Serves the oldest context (R159). A discard that brings the pass to its end breaks the attempt off: the end is judged
first (R160, step 5), and the attempt is made after it (log entry 12). Where the pass meets the conditions of its end already, in
the attempt of its own start, a discard brings nothing about, and the attempt goes on (R152, step 6; log entry 45). -/
def State.serveContext (s : State) : Served :=
  if !s.mayResume then .passed s
  else
    match s.sweep.suspended with
    | [] => .passed s
    | c :: rest =>
      let dropped : State := { s with sweep.suspended := rest }
      let yielded := dropped.yieldContext c
      let discarded :=
        if yielded.passDone && !s.passDone then .ended yielded
        else .handled { yielded with sweep.attemptDue := false }
      if (s.line c.line).ready then
        match s.requestRoutine (s.resumedRecord c) c.origin with
        | .started s1 => .started { s1 with sweep.suspended := rest }
        | .refused .noChannel => .ended s
        | .refused .noBus => .passed s
        | .refused _ => discarded
      else discarded

/-- The attempt goes on with the suspend list while contexts are discarded (R154). -/
def State.contextsOn : Nat → State → Served
  | 0, s => .ended s
  | fuel + 1, s =>
    match s.serveContext with
    | .handled s1 => State.contextsOn fuel s1
    | other => other

/-! ## Source 2: the suspect queue (R158) -/

/-- Serves the head of the suspect queue, unless this attempt has moved it to the tail (R158). DESIGN CHOICE: a requeued entry whose
line is still busy is MISSED and the attempt goes on with the next entry, so one attempt can remove several (log entry 40). -/
def State.serveSuspect (s : State) (moved : List Nat) : Served × List Nat :=
  if !s.maySuspect then (.passed s, moved)
  else
    match s.sweep.suspects with
    | [] => (.passed s, moved)
    | e :: rest =>
      let removed : State := { s with sweep.suspects := rest }
      let l := s.line e.line
      if moved.contains e.line then (.passed s, moved)
      else if l.cls = 0 then (.handled removed, moved)
      else if l.ready then
        match s.requestRoutine (s.routineRecord e.line e.plan) (.suspect e.reason) with
        | .started s1 => (.started { s1 with sweep.suspects := rest }, moved)
        | .refused .noChannel => (.ended s, moved)
        | .refused .noBus => (.passed s, moved)
        | .refused _ => (.handled (removed.missLine e.line), moved)
      else if e.requeued then (.handled (removed.missLine e.line), moved)
      else
        (.passed { s with sweep.suspects := rest ++ [{ e with requeued := true }] }, e.line :: moved)

/-- The attempt goes on with the suspect queue while entries are removed (R154). -/
def State.suspectsOn : Nat → State → List Nat → Served × List Nat
  | 0, s, moved => (.ended s, moved)
  | fuel + 1, s, moved =>
    match s.serveSuspect moved with
    | (.handled s1, moved') => State.suspectsOn fuel s1 moved'
    | other => other

/-! ## Source 3: the walk (R155, R163) -/

/-- How the walk handled a line (R163). -/
inductive Handling where
  | admitted | skipped | inhibited | hazard | busy | deferred | missed
deriving DecidableEq, Repr

/-- The code of a handling (R163). -/
def Handling.code : Handling → Nat
  | .admitted => 0 | .skipped => 1 | .inhibited => 2 | .hazard => 3 | .busy => 4 | .deferred => 5 | .missed => 6

/-- The walk position after a line (R155). -/
def walkNext (ranges : List SweepRange) (range line : Nat) : Walk :=
  match ranges[range]? with
  | none => .done
  | some r =>
    if line < r.last then .onLine range (line + 1)
    else
      match ranges[range + 1]? with
      | some q => .onLine (range + 1) q.first
      | none => .done

/-- The mark stands on this candidate (R163). -/
def State.markOn (s : State) (range line : Nat) : Bool :=
  match s.sweep.mark, s.sweep.config.ranges[range]? with
  | some (r, off), some q => r == range && q.first + off == line
  | _, _ => false

/-- The walk has handled a candidate: a mark on it is reported and used up, and the position advances (R155, R163). DESIGN CHOICE:
the range index of the notice is one byte (log entry 42), and the handling is one byte as a name is (log entry 39). -/
def State.walked (s : State) (range line : Nat) (how : Handling) : State :=
  let s1 :=
    if s.markOn range line then
      let s' := s.sweepNotice .mark
        (byte1 s.sweep.passNumber ++ byte1 range ++ byte2 line ++ byte1 how.code)
      { s' with sweep.mark := none }
    else s
  { s1 with sweep.walk := walkNext s1.sweep.config.ranges range line }

/-- Serves one candidate of the walk (R155). -/
def State.serveWalk (s : State) : Served :=
  match s.sweep.walk with
  | .unset | .done => .passed s
  | .onLine range line =>
    if !s.mayWalk then .passed s
    else
      let l := s.line line
      let plan := ((s.sweep.config.ranges[range]?).map SweepRange.plan).getD 0
      if l.cls = 0 then .handled (s.walked range line .skipped)
      else if l.inhibit then .handled ((s.count Counts.addInhibited).walked range line .inhibited)
      else if l.hazard then .handled ((s.count Counts.addHazard).walked range line .hazard)
      else if l.access ≠ .free then .handled ((s.count Counts.addBusy).walked range line .busy)
      else if l.condition ≠ .idle then
        if s.canRevisit line then .handled ((s.deferLine line plan).walked range line .deferred)
        else .handled ((s.missLine line).walked range line .missed)
      else
        match s.requestRoutine (s.routineRecord line plan) .walk with
        | .started s1 => .started (s1.walked range line .admitted)
        | .refused .noChannel => .ended s
        | .refused .noBus => .passed s
        | .refused _ => .handled ((s.missLine line).walked range line .missed)

/-- The walk goes on through the lines it takes no channel for (R155). -/
def State.walkOn : Nat → State → Served
  | 0, s => .ended s
  | fuel + 1, s =>
    match s.serveWalk with
    | .handled s1 => State.walkOn fuel s1
    | other => other

/-- The candidates of a list of ranges. -/
def candidates (ranges : List SweepRange) : Nat :=
  ranges.foldl (fun n r => n + (r.last - r.first + 1)) 0

/-! ## Source 4: the revisit list (R156) -/

/-- Serves the head of the revisit list, once the walk is DONE (R154, R156). -/
def State.serveRevisit (s : State) : Served :=
  if !(s.mayWalk && s.sweep.walk == .done) then .passed s
  else
    match s.sweep.revisits with
    | [] => .passed s
    | e :: rest =>
      let removed : State := { s with sweep.revisits := rest }
      let l := s.line e.line
      if l.cls = 0 then .handled removed
      else if l.ready then
        match s.requestRoutine (s.routineRecord e.line e.plan) .revisit with
        | .started s1 => .started { s1 with sweep.revisits := rest }
        | .refused .noChannel => .ended s
        | .refused .noBus => .passed s
        | .refused _ => .handled (removed.missLine e.line)
      else .handled (removed.missLine e.line)

/-- The attempt goes on with the revisit list while entries are removed (R154). -/
def State.revisitsOn : Nat → State → Served
  | 0, s => .ended s
  | fuel + 1, s =>
    match s.serveRevisit with
    | .handled s1 => State.revisitsOn fuel s1
    | other => other

/-! ## The start attempt (R154) -/

/-- The four sources in order, up to the first that starts a test or ends the attempt (R154). -/
def State.serve (s : State) (moved : List Nat) : Served × List Nat :=
  match s.contextsOn (s.sweep.suspended.length + 1) with
  | .passed s1 =>
    match s1.suspectsOn (s1.sweep.suspects.length + 1) moved with
    | (.passed s2, moved') =>
      match s2.walkOn (candidates s2.sweep.config.ranges + 1) with
      | .passed s3 => (s3.revisitsOn (s3.sweep.revisits.length + 1), moved')
      | other => (other, moved')
    | other => other
  | other => (other, moved)

/-- The start attempt (R154): after each start it begins again from source 1. -/
def State.attempt : Nat → List Nat → State → State
  | 0, _, s => s
  | fuel + 1, moved, s =>
    match s.serve moved with
    | (.started s1, moved') => State.attempt fuel moved' s1
    | (.handled s1, _) => s1
    | (.passed s1, _) => s1
    | (.ended s1, _) => s1

/-- Fuel for one attempt: a channel for each start, and one round that starts nothing. -/
def attemptFuel : Nat := 5

/-! ## Pass end (R162) -/

/-- The pass under way ends, steps 1 to 3 (R162). -/
def State.endPass (s : State) : State :=
  let s1 := s.sweepNotice .passEnd (byte1 s.sweep.passNumber ++ s.sweep.counts.bytes)
  { s1 with sweep.underWay := false, sweep.walk := .unset, sweep.state := .waiting }

/-- The interval timer starts (R162). -/
def State.startInterval (s : State) (ms : Nat) : State := { s with sweep.timer := some (after s.now ms) }

/-! ## Settling (R153, R154, R160, R162; log entries 11 and 12) -/

/-- The start attempt, where one is due (R154). A cause that came while no start condition held is dropped with its act: nothing
keeps it until the conditions hold (DESIGN CHOICE, log entry 44). -/
def State.attemptIfDue (s : State) : State :=
  if s.sweep.attemptDue then State.attempt attemptFuel [] { s with sweep.attemptDue := false } else s

/-- A suspect queue, a suspend list and a mark. -/
abbrev Backlog : Type := List Suspect × List Context × Option (Nat × Nat)

/-- What a pass that ends in the act of its own start may have worked through: the suspect queue, the suspend list and the mark. A
pass that leaves it as it found it is followed by passes that do the same without end (log entry 11). -/
def State.backlog (s : State) : Backlog :=
  (s.sweep.suspects, s.sweep.suspended, s.sweep.mark)

/-- A pass that has started makes the start attempt of its start (R152, step 6), in RUNNING and before any judgement of its end: it
ends at its own start only if that attempt leaves nothing of it pending (R162; log entry 45). -/
def State.beginPass (s : State) : State := s.startPass.attemptIfDue

/-- The judgements and the start attempt that end an act: the drain's end, the pass end, the attempt that is due, the pass end
again. `last` is the backlog at the last pass start of this act, if a pass has started in it. At an interval of 0 the next pass
starts at once, unless the backlog has not changed since then: the next pass then waits for the next millisecond (log entry 11). -/
def State.settleWith : Nat → Option Backlog → State → State
  | 0, _, s => s
  | fuel + 1, last, s =>
    let s1 := s.endDrain
    if s1.passDone then
      let s2 := s1.endPass
      if s2.sweep.config.interval = 0 then
        if last = some s2.backlog then State.settleWith fuel last (s2.startInterval 1)
        else State.settleWith fuel (some s2.backlog) s2.beginPass
      else State.settleWith fuel last (s2.startInterval (s2.sweep.config.interval * 60000))
    else if s1.sweep.attemptDue then State.settleWith fuel last s1.attemptIfDue
    else s1

/-- Fuel for the settling of one act. A pass is started again only after a suspect, a context or the mark has been worked on, and
there are at most 16, 4 and 1 of them; a suspect is worked on twice at most, and a context may leave a suspect behind. -/
def settleFuel : Nat := 256

/-- An act of the part ends (log entry 12). -/
def State.settle (s : State) : State := State.settleWith settleFuel none s

/-- A pass starts, and the act ends (R152, R162; log entries 11, 12 and 45). -/
def State.runPass (s : State) : State := State.settleWith settleFuel (some s.backlog) s.beginPass

end Sys2Proof.Machine
end

