-- ==== Sys2Proof/Machine/Protect.lean ====
section
/-! DEFINITION. The Protection Unit (chapter 9): exposure, decay, the protective abort. -/

namespace Sys2Proof.Machine

/-- The top of the exposure accumulator (R139). -/
def maxExposure : Nat := 4294967295

/-- The account of a frame under examination (R141). -/
structure Watch where
  exposure : Nat
  peak : Nat
  excess : Bool
  tripped : Bool
deriving DecidableEq, Repr

/-- One sample is examined (R141); after a trip nothing more is. -/
def Watch.sample (vprot elim : Nat) (w : Watch) (v : Int) : Watch :=
  if w.tripped then w
  else
    let peak := max w.peak v.natAbs
    if vprot < v.natAbs then
      let e := satAdd maxExposure w.exposure (v.natAbs - vprot)
      ⟨e, peak, true, decide (elim ≤ e)⟩
    else { w with peak := peak }

/-- A frame's samples are examined in time order (R141), and a block without excess halves the exposure (R142). -/
def watchFrame (vprot elim exposure peak : Nat) (vs : List Int) : Watch :=
  let w := vs.foldl (Watch.sample vprot elim) ⟨exposure, peak, false, false⟩
  if w.excess then w else { w with exposure := w.exposure / 2 }

/-- The evidence of a trip (R144). -/
def tripEvidence (r : StepRec) (peak : Nat) (o : Originator) : Evidence :=
  ⟨none, some ⟨r.kind, r.arrangement, millivolts peak, .clear, .unjudged, o⟩⟩

/-- The channel trips (R143). -/
def State.trip (s : State) (h : Nat) : State :=
  let c := s.chan h
  match c.test with
  | none => s
  | some t =>
    let evidence := (c.step.bind fun p => s.stepRec p.step).map fun r => tripEvidence r c.peak t.originator
    let s1 := (s.setChan h { c with protMark := true }).endByCause h .protective
    let s2 := s1.setLine t.line { s1.line t.line with hazard := true }
    s2.raise .line t.line .foreignVoltage evidence

end Sys2Proof.Machine
end

