-- ==== Sys2Proof/Machine/Measure.lean ====
section
/-! DEFINITION. The Measurement Unit (chapter 7): means, rms, correction, engineering values. Division is the floor of the
spec's Conventions: every divisor is positive, so Lean's division of integers rounds toward minus infinity. -/

namespace Sys2Proof.Machine

/-- A completed window, as Intake hands it over (R105). -/
structure Window where
  sv : Int
  si : Int
  sq : Nat
  vClip : Bool
  iClip : Bool
  temp : Int
  k : Nat
deriving DecidableEq, Repr

/-- The mean of a sum over n samples, halves toward plus infinity (R110, R123). -/
def windowMean (sum : Int) (n : Nat) : Int := (sum + (n / 2 : Nat)) / (n : Int)

def Window.vMean (w : Window) : Int := windowMean w.sv (2 ^ w.k)
def Window.iMean (w : Window) : Int := windowMean w.si (2 ^ w.k)

/-- The AC residue (R111). -/
def acResidue (sq : Nat) (vm : Int) : Nat := ((sq : Int) - vm * vm).toNat

/-- The largest number below `r + 2 ^ bits` whose square does not exceed `d`, built from the top bit down. -/
def rootBits : Nat → Nat → Nat → Nat
  | 0, r, _ => r
  | bits + 1, r, d => rootBits bits (if (r + 2 ^ bits) * (r + 2 ^ bits) ≤ d then r + 2 ^ bits else r) d

/-- The integer square root (R112). -/
def isqrt (d : Nat) : Nat := rootBits 17 0 d

/-- A correction before saturation (R113 to R115). -/
def corrected (raw offset : Int) (gain : Nat) : Int := ((raw - offset) * (gain : Int) + 8192) / 16384

/-- Saturation to the code range (R113 to R115). -/
def saturate (c : Int) : Int := max (-32768) (min 32767 c)

/-- The saturation changed the code. -/
def clips (c : Int) : Bool := saturate c != c

/-- The ratio of the full scales of a range (R120). -/
def Range.ratio : Range → Nat
  | .high => 5000
  | .low => 2500000

/-- The largest resistance reported (R119, R120). -/
def maxOhms : Nat := 99999999

/-- What an evaluation hands over (R122). -/
structure Measurement where
  value : Int
  compared : Nat
  clipped : Bool
  openLoop : Bool
  reversed : Bool
deriving DecidableEq, Repr

/-- A VDC evaluation (R117). -/
def measureVdc (w : Window) (v : CalRec) : Measurement :=
  let c := corrected w.vMean v.offset v.gain
  let value := millivolts (saturate c)
  ⟨value, value.natAbs, w.vClip || clips c, false, false⟩

/-- A VAC evaluation (R118); the offset is not read (R115). -/
def measureVac (w : Window) (v : CalRec) : Measurement :=
  let c := corrected (isqrt (acResidue w.sq w.vMean)) 0 v.gain
  let value := millivolts (saturate c)
  ⟨value, value.natAbs, w.vClip || clips c, false, false⟩

/-- A RES evaluation (R119 to R121). -/
def measureRes (w : Window) (v i : CalRec) (range : Range) : Measurement :=
  let cv := corrected w.vMean v.offset v.gain
  let ci := corrected w.iMean i.offset i.gain
  let vc := saturate cv
  let ic := saturate ci
  let clipped := w.vClip || w.iClip || clips cv || clips ci
  if ic.natAbs < 16 then ⟨maxOhms, maxOhms, clipped, true, false⟩
  else
    let ohms := min maxOhms (vc.natAbs * range.ratio / ic.natAbs)
    ⟨ohms, ohms, clipped, false, decide (vc < 0 ∧ 0 < ic) || decide (0 < vc ∧ ic < 0)⟩

/-- The current record of a range (R109). -/
def HeadCal.current (c : HeadCal) : Range → CalRec
  | .high => c.iHigh
  | .low => c.iLow

/-- The evaluation of a repetition's window (R108). -/
def measure (w : Window) (r : StepRec) (c : HeadCal) : Measurement :=
  match r.kind with
  | .vdc => measureVdc w c.v
  | .vac => measureVac w c.v
  | .res => measureRes w c.v (c.current r.range) r.range

end Sys2Proof.Machine
end

