-- ==== Sys2Proof/Machine/Calib.lean ====
section
/-! DEFINITION. The Calibration Unit (chapter 8): uncertainty, assessment, verdicts, calibration runs. -/

namespace Sys2Proof.Machine

/-! ## Uncertainty (R126, R128) -/

/-- The uncertainty of a record at a temperature; with none, the temperature term is 0 (R126, log entry 24). -/
def CalRec.uncertainty (c : CalRec) (temp : Option Int) : Nat :=
  let term := match temp with
    | some t => c.kT * (t - c.tcal).natAbs / 16
    | none => 0
  min 1000 (c.u0 + term + c.kA * c.age / 64)

/-- The record is CAL_DUE at a temperature (R126). -/
def CalRec.calDue (c : CalRec) (umax : Nat) (temp : Option Int) : Bool :=
  !c.valid || decide (umax < c.uncertainty temp)

/-- A record after an assessment (R127). -/
def CalRec.assessed (c : CalRec) (umax : Nat) (temp : Option Int) : CalRec :=
  { c with due := c.calDue umax temp }

/-- The assessment finds the record newly due (R127). -/
def CalRec.newlyDue (c : CalRec) (umax : Nat) (temp : Option Int) : Bool :=
  c.calDue umax temp && !c.due

/-! ## The records an evaluation uses (R109) -/

/-- The records a step of this kind and range uses are changed (R109). -/
def HeadCal.mapUsed (c : HeadCal) (g : CalRec → CalRec) (kind : StepKind) (range : Range) : HeadCal :=
  match kind, range with
  | .vdc, _ => { c with v := g c.v }
  | .vac, _ => { c with v := g c.v }
  | .res, .high => { c with v := g c.v, iHigh := g c.iHigh }
  | .res, .low => { c with v := g c.v, iLow := g c.iLow }

/-- Some record a step of this kind and range uses has a property. -/
def HeadCal.anyUsed (c : HeadCal) (p : CalRec → Bool) (kind : StepKind) (range : Range) : Bool :=
  match kind with
  | .vdc | .vac => p c.v
  | .res => p c.v || p (c.current range)

/-- The uncertainty of a repetition (R128). -/
def HeadCal.stepUncertainty (c : HeadCal) (temp : Option Int) (kind : StepKind) (range : Range) : Nat :=
  match kind with
  | .vdc | .vac => c.v.uncertainty temp
  | .res => min 1000 (c.v.uncertainty temp + (c.current range).uncertainty temp)

/-- The assessment at an evaluation (R127): standings set, and HEAD_CAL_DUE raised once if a record turned due. -/
def State.assessUsed (s : State) (h : Nat) (temp : Int) (kind : StepKind) (range : Range) : State :=
  let c := s.headCal h
  let umax := s.params.umax
  let s1 := s.setHeadCal h (c.mapUsed (fun r => r.assessed umax (some temp)) kind range)
  if c.anyUsed (fun r => r.newlyDue umax (some temp)) kind range then s1.raise .head h .headCalDue none else s1

/-! ## Hour tick (R125, R127) -/

/-- A record grows older by one hour. -/
def CalRec.older (c : CalRec) : CalRec := { c with age := satAdd 65535 c.age 1 }

def HeadCal.map (c : HeadCal) (g : CalRec → CalRec) : HeadCal := ⟨g c.v, g c.iHigh, g c.iLow⟩

def HeadCal.any (c : HeadCal) (p : CalRec → Bool) : Bool := p c.v || p c.iHigh || p c.iLow

/-- A head is assessed at the hour tick (R127). -/
def State.assessHead (s : State) (h : Nat) : State :=
  let temp := (s.chan h).lastTemp
  let c := s.headCal h
  let umax := s.params.umax
  let s1 := s.setHeadCal h (c.map fun r => r.assessed umax temp)
  if c.any fun r => r.calDue umax temp then s1.raise .head h .headCalDue none else s1

/-- The hour tick (R125). -/
def State.tickHour (s : State) : State :=
  let aged := allChannels.foldl (fun s h => s.setHeadCal h ((s.headCal h).map CalRec.older)) s
  allChannels.foldl State.assessHead aged

/-! ## Verdicts (R130, R131) -/

/-- The profile of a line that judges an arrangement (R130). -/
def LineRec.profileFor (l : LineRec) : Arrangement → Nat
  | .tg | .tr => l.tipProfile
  | .rg => l.ringProfile

def bandLow (limit u : Nat) : Nat := limit * (1000 - u) / 1000
def bandHigh (limit u : Nat) : Nat := limit * (1000 + u) / 1000

/-- The base verdict (R130). -/
def baseVerdict (sense : Sense) (limit u value : Nat) : Verdict :=
  match sense with
  | .above =>
    if bandHigh limit u < value then .pass else if value < bandLow limit u then .fail else .marginal
  | .below =>
    if value < bandLow limit u then .pass else if bandHigh limit u < value then .fail else .marginal

/-- The verdict of a repetition and its fault class (R131), with the limit of the step's slot, if it has one. The value of row
4 is the compared value (log entry 25). -/
def judge (r : StepRec) (limit : Option Nat) (due unsettled : Bool) (u : Nat) (m : Measurement) : Verdict × FaultClass :=
  match limit with
  | none => (.unjudged, r.cls)
  | some l =>
    if due then (.indeterminate, r.cls)
    else if m.reversed && r.kind == .res then (.fail, .foreignBattery)
    else if m.clipped then
      (if r.sense = .below ∧ bandHigh l u < m.compared then .fail else .indeterminate, r.cls)
    else
      match baseVerdict r.sense l u m.compared with
      | .pass => (if unsettled then .marginal else .pass, r.cls)
      | v => (v, r.cls)

/-! ## Calibration runs (R133 to R137) -/

/-- A calibration phase begins (R134). -/
def State.beginPhase (s : State) (h : Nat) (p : CalPhase) : State :=
  let c := s.chan h
  let e := c.epoch + 1
  let serial := s.link.serial
  let s1 := s.setChan h { c with calPhase := some p, epoch := e, intake := { Intake.cold with tie := some serial } }
  s1.offer (calDirective h e p) (.head h e)

/-- A run with nothing measured yet (R133). -/
def CalRun.fresh (tag : Byte) : CalRun := ⟨tag, none, none, none, none, none, none, none, none, none⟩

/-- A run begins (R133). -/
def State.beginRun (s : State) (h : Nat) (tag : Byte) : State :=
  (s.setChan h { s.chan h with stage := .calibrating, run := some (.fresh tag) }).beginPhase h .zHigh

/-- The end of a run sends the head a DIRECTIVE IDLE and clears Intake (R136, R137, step 1). -/
def State.idleHead (s : State) (h : Nat) : State :=
  let c := s.chan h
  let e := c.epoch + 1
  (s.setChan h { c with epoch := e, intake := .cold }).offer (idleDirective h e) .untied

/-- The channel leaves CALIBRATING (R136, step 4; R137, step 4). -/
def State.leaveRun (s : State) (h : Nat) (headOut : Bool) : State :=
  let c := s.chan h
  (s.setChan h { c with
    headOut := headOut, calPhase := none, run := none
    stage := if headOut then .outOfService else .idle }).noteIdle h

/-- A run fails (R136). -/
def State.failRun (s : State) (h : Nat) (cause : CalCause) : State :=
  let c := s.chan h
  let s1 := s.idleHead h
  let s2 := if cause = .restart then s1 else s1.raise .head h .headCalFail none
  let s3 := s2.leaveRun h c.headOut
  match c.run, c.calPhase with
  | some run, some p => s3.respond run.tag .calFailed (byte1 h ++ byte1 p.code ++ byte1 cause.code)
  | _, _ => s3

/-- The offset and gain of a scale, or the cause of its failure (R135). -/
def computeScale (z r : Int) : Except CalCause Candidate :=
  let span := r - z
  if span ≤ 0 then .error .span
  else
    let gain := (402653184 + span / 2) / span
    if gain < 8192 ∨ 24575 < gain then .error .gain
    else .ok ⟨max (-2048) (min 2047 z), gain.toNat⟩

/-- A record replaced by a successful run (R137). -/
def CalRec.renewed (c : CalRec) (k : Candidate) (temp : Int) : CalRec :=
  { c with valid := true, offset := k.offset, gain := k.gain, tcal := temp, age := 0, due := false }

/-- The body of a successful CALIBRATE response (R137). -/
def calBody (h : Nat) (v ih il : Candidate) (temp : Int) : Bytes :=
  byte1 h ++ signed4 v.offset ++ signed4 v.gain ++ signed4 ih.offset ++ signed4 ih.gain ++ signed4 il.offset
    ++ signed4 il.gain ++ signed1 temp

/-- A run succeeds (R137). DESIGN CHOICE: step 3 names three tickets in one step, and they are cleared in the order in which it names
them, so that their CLEARED notices come in that order (log entry 43). -/
def State.finishRun (s : State) (h : Nat) (run : CalRun) (v ih il : Candidate) (temp : Int) : State :=
  let s1 := s.idleHead h
  let c := s1.headCal h
  let s2 := s1.setHeadCal h ⟨c.v.renewed v temp, c.iHigh.renewed ih temp, c.iLow.renewed il temp⟩
  let s3 := ((s2.clearTicket .head h .headCalDue).clearTicket .head h .headCalFail).clearTicket .head h .headSilent
  (s3.leaveRun h false).respond run.tag .ok (calBody h v ih il temp)

/-- Stores the working state of a run. -/
def State.setRun (s : State) (h : Nat) (run : CalRun) : State := s.setChan h { s.chan h with run := some run }

/-- A calibration phase's window is complete (R123, R134, R135). -/
def State.phaseDone (s : State) (h : Nat) (w : Window) : State :=
  let c := s.chan h
  match c.run, c.calPhase with
  | some run, some .zHigh => (s.setRun h { run with zV := some w.vMean, zIH := some w.iMean }).beginPhase h .zLow
  | some run, some .zLow => (s.setRun h { run with zIL := some w.iMean }).beginPhase h .refV
  | some run, some .refV =>
    match computeScale (run.zV.getD 0) w.vMean with
    | .error cause => s.failRun h cause
    | .ok k => (s.setRun h { run with rV := some w.vMean, candV := some k }).beginPhase h .refIHigh
  | some run, some .refIHigh =>
    match computeScale (run.zIH.getD 0) w.iMean with
    | .error cause => s.failRun h cause
    | .ok k => (s.setRun h { run with rIH := some w.iMean, candIH := some k }).beginPhase h .refILow
  | some run, some .refILow =>
    match computeScale (run.zIL.getD 0) w.iMean with
    | .error cause => s.failRun h cause
    | .ok k =>
      match run.candV, run.candIH with
      | some v, some ih => s.finishRun h run v ih k w.temp
      | _, _ => s
  | _, _ => s

end Sys2Proof.Machine
end

