-- ==== Sys2Proof/Machine/Sequencer.lean ====
section
/-! DEFINITION. The Test Sequencer's running of a plan (R82 to R88). -/

namespace Sys2Proof.Machine

/-- A repetition begins (R83). -/
def State.beginRepetition (s : State) (h : Nat) (r : StepRec) (p : Progress) : State :=
  let c := s.chan h
  let e := c.epoch + 1
  let serial := s.link.serial
  let s1 := s.setChan h { c with
    stage := .sourcing, epoch := e, step := some { p with repQuals := .clear }
    intake := { Intake.cold with tie := some serial } }
  s1.offer (sourceDirective h e r) (.head h e)

/-- A step begins with its first repetition (R83). -/
def State.beginStep (s : State) (h step position : Nat) : State :=
  match s.stepRec step with
  | some r => s.beginRepetition h r ⟨step, position, 0, .clear, .clear⟩
  | none => s

/-- A STEP notice (R88). DESIGN CHOICE: the step's position in the plan is one byte, for R37's table of widths has no row for it (log
entry 42); the priority is one byte as a name is (log entry 39). -/
def State.stepNotice (s : State) (h : Nat) (t : TestRec) (position : Nat) (res : StepResult) : State :=
  s.notify .step (byte2 t.line ++ byte1 h ++ byte1 t.plan ++ byte1 t.priority.code ++ byte1 t.originator.code
    ++ byte1 position ++ res.bytes)

/-- The Ticket Table is informed of a result (R87, step 3). -/
def State.resultTickets (s : State) (t : TestRec) (r : StepRec) (res : StepResult) : State :=
  match res.verdict with
  | .fail => s.raise .line t.line res.cls (some (res.evidence t.originator))
  | .pass =>
    let s1 := s.clearTicket .line t.line r.cls
    if r.kind = .res then s1.clearTicket .line t.line .foreignBattery else s1
  | .unjudged | .marginal | .indeterminate => s

/-- A step result is formed (R87). -/
def State.formResult (s : State) (h : Nat) (t : TestRec) (r : StepRec) (p : Progress) (res : StepResult) : State :=
  let s1 := s.setChan h { s.chan h with test := some { t with results := t.results ++ [res] } }
  let s2 := if r.notify then s1.stepNotice h t p.position res else s1
  let s3 := s2.resultTickets t r res
  if res.verdict = .fail ∧ r.stopOnFail = true then s3.endByCause h .completed
  else
    match r.link with
    | none => s3.endByCause h .completed
    | some next => s3.beginStep h next (p.position + 1)

/-- The verdict of a step from that of its last repetition (R86). -/
def foldVerdict (folded : Quals) (v : Verdict) : Verdict :=
  if folded.unsettled && v == .pass then .marginal else v

/-- A repetition is evaluated (R85, R86). -/
def State.evaluate (s : State) (h : Nat) (t : TestRec) (r : StepRec) (p : Progress) (w : Window) : State :=
  let c := s.headCal h
  let m := measure w r c
  let umax := s.params.umax
  let due := c.anyUsed (fun k => k.calDue umax (some w.temp)) r.kind r.range
  let u := c.stepUncertainty (some w.temp) r.kind r.range
  let l := s.line t.line
  let limit := r.slot.map fun slot => s.limit (l.profileFor r.arrangement) slot
  let v := judge r limit due p.repQuals.unsettled u m
  let s1 := s.assessUsed h w.temp r.kind r.range
  let quals := p.repQuals.join ⟨false, false, m.clipped, m.openLoop, m.reversed⟩
  let folded := p.folded.join quals
  if p.rep < r.rep then s1.beginRepetition h r { p with rep := p.rep + 1, folded := folded }
  else
    s1.formResult h t r p
      ⟨p.step, r.kind, r.arrangement, r.range, m.value, foldVerdict folded v.1, folded, u, v.2, r.rep + 1⟩

/-- Intake reports the window of a test complete (R84, R85). -/
def State.windowDone (s : State) (h : Nat) (w : Window) : State :=
  let c := s.chan h
  match c.test, c.step with
  | some t, some p =>
    match s.stepRec p.step with
    | some r => s.evaluate h t r p w
    | none => s
  | _, _ => s

end Sys2Proof.Machine
end

