-- ==== Sys2Proof/Machine/Intake.lean ====
section
/-! DEFINITION. Sample Intake (chapter 6): acceptance, classes, protection, settling, loss, the window, silence. -/

namespace Sys2Proof.Machine

/-! ## What the work in hand asks for (R102, R103, R104, R106) -/

/-- The settling and window values of the work in hand. -/
structure Work where
  band : Nat
  dwell : Nat
  maxBlocks : Nat
  k : Nat
  byCurrent : Bool
deriving DecidableEq, Repr

/-- The values of a step (R102, R103). -/
def StepRec.work (r : StepRec) : Work := ⟨r.band, r.dwell, r.maxBlocks, r.window, r.kind == .res⟩

/-- The values of a calibration phase (R102, R106). -/
def CalPhase.work (p : CalPhase) : Work :=
  ⟨4, 4, 64, 10, match p with
    | .zHigh | .refV => false
    | .zLow | .refIHigh | .refILow => true⟩

/-- The work of a channel. -/
def State.work (s : State) (h : Nat) : Option Work :=
  let c := s.chan h
  if c.stage = .calibrating then c.calPhase.map CalPhase.work
  else (c.step.bind fun p => s.stepRec p.step).map StepRec.work

/-! ## Classes (R97) -/

/-- The class of an accepted frame. -/
inductive FrameClass where
  | first | inSequence | gap
deriving DecidableEq, Repr

def classify (expected : Option Nat) (sequence : Nat) : FrameClass :=
  match expected with
  | none => .first
  | some n => if n = sequence then .inSequence else .gap

/-- The temperature taken from a frame (R96). -/
def takenTemp (t : Int) : Int := max (-40) (min 125 t)

/-! ## Settling (R102, R103) -/

/-- The mean of a settle block (R102). -/
def blockMean (work : Work) (pairs : List (Int × Int)) : Int :=
  let sum := (pairs.map fun p => if work.byCurrent then p.2 else p.1).foldl (· + ·) 0
  (sum + 8) / 16

/-- What a settle block brings (R103). -/
inductive Settling where
  | going | settled | unsettled
deriving DecidableEq, Repr

/-- The settle count after a block with this mean (R103, step 2). -/
def settleCount (band : Nat) (prev : Option Int) (count : Nat) (mean : Int) : Nat :=
  match prev with
  | none => count
  | some q => if (mean - q).natAbs ≤ band then count + 1 else 0

/-- A settle block is judged (R103). -/
def Intake.judgeBlock (i : Intake) (work : Work) (mean : Int) : Intake × Settling :=
  let blocks := i.blocks + 1
  let count := settleCount work.band i.prev i.settle mean
  let i' := { i with blocks := blocks, settle := count, prev := some mean }
  if count = work.dwell then (i', .settled)
  else if blocks = work.maxBlocks then (i', .unsettled)
  else (i', .going)

/-- The window empties (R101, R103). -/
def Intake.emptyWindow (i : Intake) : Intake :=
  { i with frames := 0, sv := 0, si := 0, sq := 0, vClip := false, iClip := false, temp := none }

/-- The qualifiers of the repetition in progress are added to. -/
def Channel.addQuals (c : Channel) (q : Quals) : Channel :=
  { c with step := c.step.map fun p => { p with repQuals := p.repQuals.join q } }

/-- The frame is taken as a settle block (R84, R103). In CALIBRATING an unsettled phase fails the run (R136). -/
def State.settleBlock (s : State) (h : Nat) (work : Work) (pairs : List (Int × Int)) : State :=
  let c := s.chan h
  let r := c.intake.judgeBlock work (blockMean work pairs)
  let opened := { r.1.emptyWindow with phase := .measuring }
  let calibrating := c.stage = .calibrating
  match r.2 with
  | .going =>
    let c' := { c with intake := { r.1 with phase := .settling } }
    s.setChan h (if calibrating then c' else { c' with stage := .settling })
  | .settled =>
    let c' := { c with intake := opened }
    s.setChan h (if calibrating then c' else { c' with stage := .measuring })
  | .unsettled =>
    let c' := { c with intake := opened }
    if calibrating then (s.setChan h c').failRun h .unsettled
    else s.setChan h ({ c' with stage := .measuring }.addQuals ⟨true, false, false, false, false⟩)

/-! ## Loss (R101) -/

/-- Settling starts again (R101, steps 3 and 4). -/
def Intake.afterLoss (i : Intake) : Intake :=
  let i' := { i with restarts := i.restarts + 1, blocks := 0, settle := 0, prev := none }
  match i.phase with
  | .measuring => i'.emptyWindow
  | .awaiting | .settling => i'

/-- A loss (R101). -/
def State.loss (s : State) (h : Nat) (work : Work) (pairs : List (Int × Int)) : State :=
  let c := s.chan h
  if c.intake.restarts + 1 = 3 then
    let s1 := s.setChan h { c with intake := { c.intake with restarts := 3 } }
    if c.stage = .calibrating then s1.failRun h .loss else s1.endByCause h .sampleLoss
  else
    let c1 := { c with intake := c.intake.afterLoss }
    let c2 := if c.stage = .calibrating then c1 else c1.addQuals ⟨false, true, false, false, false⟩
    (s.setChan h c2).settleBlock h work pairs

/-! ## The window (R104, R105) -/

/-- A sample at an end of the code range (R104). -/
def atRail (v : Int) : Bool := v == -32768 || v == 32767

/-- One pair enters the window (R104). -/
def Intake.addPair (k : Nat) (i : Intake) (p : Int × Int) : Intake :=
  { i with
    sv := i.sv + p.1
    si := i.si + p.2
    sq := i.sq + p.1.natAbs * p.1.natAbs / 2 ^ k
    vClip := i.vClip || atRail p.1
    iClip := i.iClip || atRail p.2 }

/-- A frame enters the window (R104). -/
def Intake.addFrame (i : Intake) (k : Nat) (temp : Int) (pairs : List (Int × Int)) : Intake :=
  let i' := pairs.foldl (Intake.addPair k) i
  { i' with temp := some temp, frames := i'.frames + 1 }

/-- The frame is accumulated; a complete window is handed over (R104, R105). -/
def State.accumulate (s : State) (h : Nat) (work : Work) (temp : Int) (pairs : List (Int × Int)) : State :=
  let c := s.chan h
  let i := c.intake.addFrame work.k temp pairs
  if i.frames = 2 ^ work.k / 16 then
    let s1 := s.setChan h { c with intake := { i with phase := .awaiting } }
    let w : Window := ⟨i.sv, i.si, i.sq, i.vClip, i.iClip, temp, work.k⟩
    if c.stage = .calibrating then s1.phaseDone h w else s1.windowDone h w
  else s.setChan h { c with intake := i }

/-! ## Handling a frame (R96, R100) -/

/-- The frame is acted on by the phase of intake (R100, step 3). -/
def State.actOnFrame (s : State) (h : Nat) (cls : FrameClass) (temp : Int) (pairs : List (Int × Int)) : State :=
  match s.work h with
  | none => s
  | some work =>
    match (s.chan h).intake.phase, cls with
    | .awaiting, .first => s.settleBlock h work pairs
    | .settling, .inSequence => s.settleBlock h work pairs
    | .settling, .gap => s.loss h work pairs
    | .measuring, .inSequence => s.accumulate h work temp pairs
    | .measuring, .gap => s.loss h work pairs
    | _, _ => s

/-- The channel after step 1 of R100: sequence, head timer, temperature. -/
def Channel.heard (c : Channel) (now : Time) (tHead sequence : Nat) (temp : Int) : Channel :=
  { c with
    lastTemp := some temp
    intake := { c.intake with expected := some ((sequence + 1) % 256), timer := some (after now tHead) } }

/-- An accepted frame is handled (R100). -/
def State.handleSample (s : State) (h : Nat) (x : Sample) : State :=
  let c := s.chan h
  let temp := takenTemp x.temp
  let cls := classify c.intake.expected x.sequence
  let c1 := c.heard s.now s.params.tHead x.sequence temp
  if c.stage = .calibrating then (s.setChan h c1).actOnFrame h cls temp x.pairs
  else
    let w := watchFrame s.params.vprot s.params.elim c1.exposure c1.peak (x.pairs.map Prod.fst)
    let s1 := s.setChan h { c1 with exposure := w.exposure, peak := w.peak }
    if w.tripped then s1.trip h else s1.actOnFrame h cls temp x.pairs

/-- Sample Intake is handed a SAMPLE (R96). -/
def State.takeSample (s : State) (x : Sample) : State :=
  if x.head < Config.channels ∧ (s.chan x.head).stage.accepting = true ∧ x.epoch = (s.chan x.head).epoch.toNat then
    s.handleSample x.head x
  else s

/-- The head is silent (R99). -/
def State.headSilent (s : State) (h : Nat) : State :=
  let s1 := s.setChan h { s.chan h with headOut := true }
  let s2 := s1.raise .head h .headSilent none
  if (s2.chan h).stage = .calibrating then s2.failRun h .silent else s2.endByCause h .headFault

end Sys2Proof.Machine
end

