-- ==== Sys2Proof/Machine/Taps.lean ====
section
/-! DEFINITION. Relay events and relay timers (R57 to R59, R61 to R65, R67, R73). -/

namespace Sys2Proof.Machine

/-- TAP_MADE confirms the tap (R57): the first step of the test begins (R83). -/
def State.confirmTap (s : State) (h b line : Nat) : State :=
  let s1 := s.setBus b { s.bus b with confirm := .stopped, confirmed := some line }
  let s2 := s1.setAccess line (.tapped h)
  let c := s2.chan h
  let s3 := s2.setChan h { c with stage := .sourcing }
  match c.test with
  | some t => s3.beginStep h t.startStep (t.results.length + 1)
  | none => s3

/-- A stray make (R64). -/
def State.strayMake (s : State) (b line : Nat) : State :=
  let s1 := s.raise .line line .relayStray none
  let serial := s1.link.serial
  let s2 := s1.offer (tapReleaseFrame line b) (.stray b)
  s2.setBus b { s2.bus b with stray := some ⟨line, .tied serial⟩ }

/-- A TAP_MADE for a line and a bus (R57, R61, R63, R64, R73). -/
def State.tapMade (s : State) (line b : Nat) : State :=
  if Config.buses ≤ b then s
  else
    let r := s.bus b
    if r.confirmed = some line then s
    else if r.commanded = some line then
      match r.state with
      | .claimed h =>
        if (s.chan h).stage = .tapping then s.confirmTap h b line
        else s.setBus b { r with confirmed := some line }
      | .claimedRestart | .outOfService | .free | .lockout _ => s.setBus b { r with confirmed := some line }
    else s.strayMake b line

/-- The relay dropped during the test (R59). -/
def State.relayDrop (s : State) (h b line : Nat) : State :=
  let s1 := s.setBus b { s.bus b with confirmed := none }
  (s1.raise .line line .relayNoMake none).endByCause h .relayFault

/-- A restart release completes (R73). -/
def State.completeRestartRelease (s : State) (b line : Nat) : State :=
  (s.freeClaim b false).releasePath line false

/-- A TAP_BROKEN that matches no claim: the stray release of its bus ends, or nothing changes (R63, R65). -/
def State.strayBroken (s : State) (line b : Nat) : State :=
  let r := s.bus b
  match r.stray with
  | some y => if y.line = line then s.setBus b { r with stray := none } else s
  | none => s

/-- A TAP_BROKEN for a line and a bus (R59, R61, R63, R65, R73). -/
def State.tapBroken (s : State) (line b : Nat) : State :=
  if Config.buses ≤ b then s
  else
    let r := s.bus b
    match r.state with
    | .claimed h =>
      match (s.chan h).stage with
      | .sourcing | .settling | .measuring =>
        if r.confirmed = some line then s.relayDrop h b line else s.strayBroken line b
      | .releasing =>
        if r.commanded = some line then s.completeRelease h b line else s.strayBroken line b
      | .tapping | .idle | .calibrating | .outOfService => s.strayBroken line b
    | .claimedRestart =>
      if r.commanded = some line then s.completeRestartRelease b line else s.strayBroken line b
    | .outOfService =>
      if r.commanded = some line ∨ r.confirmed = some line then
        s.setBus b { r with commanded := none, confirmed := none }
      else s.strayBroken line b
    | .free | .lockout _ => s.strayBroken line b

/-- The relay has not made (R58). -/
def State.noMake (s : State) (h line : Nat) : State :=
  (s.raise .line line .relayNoMake none).endByCause h .relayFault

/-- The stray relay has not let go (R65). -/
def State.strayTimeout (s : State) (b line : Nat) : State :=
  let r := s.bus b
  let r1 := { r with stray := none, stuckLine := some line }
  let r2 := match r.state with
    | .free | .lockout _ => { r1 with state := .outOfService }
    | .claimed _ | .claimedRestart => { r1 with oosMark := true }
    | .outOfService => r1
  (s.setBus b r2).raise .bus b .relayStuck (some ⟨some line, none⟩)

/-- A lockout runs out (R67). -/
def State.lockoutOver (s : State) (b : Nat) : State :=
  (s.setBus b { s.bus b with state := .free }).wantAttempt

end Sys2Proof.Machine
end

