-- ==== Sys2Proof/Machine/Highway.lean ====
section
/-! DEFINITION. Highway events (chapter 2): arrivals and their dispatch, departures, credit, broken receptions, offers. -/

namespace Sys2Proof.Machine

/-- The outcome of a command. -/
abbrev Answer := Host.Outcome State Fault Refusal

/-! ## Receive credit and discards (R20 to R22) -/

/-- The receive credit of Port U (R22, R34): in bypass the transit queue alone counts, while RSTN is low it is zero. -/
def State.creditU (s : State) : Nat :=
  match s.phase with
  | .held => 0
  | .bypass _ => Config.transitRoom - s.link.down.length
  | .normal => min (Config.transitRoom - s.link.down.length) (Config.commandRoom - s.desk.commands.length)

/-- The receive credit of Port S (R22, R34). -/
def State.creditS (s : State) : Nat :=
  match s.phase with
  | .held => 0
  | .bypass _ | .normal => Config.transitRoom - s.link.up.length

/-- A port counts a discard (R21). -/
def State.countDiscard (s : State) : PortId → State
  | .u => { s with link.portU.discards := satAdd 65535 s.link.portU.discards 1 }
  | .s => { s with link.portS.discards := satAdd 65535 s.link.portS.discards 1 }

/-- The frame passes both stages of R20. -/
def passesForm (f : Bytes) : Bool := formOk f && checkOk f

/-- The frame is addressed to the part. -/
def toPart (f : Bytes) : Bool := frameDest f == Config.node

/-! ## Port U (R25) -/

/-- A DESK frame enters the command queue (R25, R178). -/
def State.enterCommand (s : State) (f : Bytes) : State := { s with desk.commands := s.desk.commands ++ [f] }

/-- Dispatch at Port U of a frame that passes R20 (R25). -/
def State.dispatchU (s : State) (f : Bytes) : State :=
  if !isKnownKind (frameKind f) then s.enterDown f
  else if toPart f then
    if isDesk f then s.enterCommand f else s.countDiscard .u
  else
    match readOrder f with
    | some o => s.screen f o
    | none => s.enterDown f

/-- A frame arrives at Port U in bypass (R34): no check, no count; a frame beyond the credit is lost (log entry 20). -/
def State.bypassU (s : State) (f : Bytes) : State :=
  if 2 ≤ f.length ∧ toPart f = true then s
  else if s.link.down.length < Config.transitRoom then s.enterDown f
  else s

/-- FRAME_ARRIVES_PORT_U (R20, R22, R25, R34). -/
def execFrameArrivesPortU (bytes : Bytes) (s : State) : Answer :=
  match s.phase with
  | .held => .next s
  | .bypass _ => .next (s.bypassU bytes)
  | .normal =>
    if 0 < s.creditU ∧ passesForm bytes = true then .next (s.dispatchU bytes)
    else .next (s.countDiscard .u)

/-! ## Port S (R26) -/

/-- A SCAN is read by the Line Table and Access Control (R5, R26). -/
def State.readScanEvent (s : State) (x : Scan) : State :=
  match x.event with
  | .loopClosed | .loopOpen | .ringTripped => s.loopEvent x.line x.event
  | .tapMade => s.tapMade x.line x.argument
  | .tapBroken => s.tapBroken x.line x.argument
  | .cardFault | .cardAbsent => s.cardDown (x.line / 16)
  | .cardOk => s.cardOk (x.line / 16)
  | .cardState => s.cardState (x.line / 16) (x.argument * 256 + x.bitmap)

/-- Relay confirmations end at the part (R26). -/
def ScanEvent.relay : ScanEvent → Bool
  | .tapMade | .tapBroken => true
  | _ => false

/-- A well-formed SCAN is dispatched (R26). -/
def State.dispatchScan (s : State) (f : Bytes) (x : Scan) : State :=
  let s1 := s.readScanEvent x
  if x.event.relay || toPart f then s1 else s1.enterUp f

/-- Dispatch at Port S of a frame that passes R20 (R26). -/
def State.dispatchS (s : State) (f : Bytes) : State :=
  match readScan f with
  | some x => s.dispatchScan f x
  | none =>
    if isKnownKind (frameKind f) && toPart f then
      match readSample f with
      | some x => s.takeSample x
      | none => s.countDiscard .s
    else s.enterUp f

/-- A frame arrives at Port S in bypass (R34; log entry 20). -/
def State.bypassS (s : State) (f : Bytes) : State :=
  if 2 ≤ f.length ∧ toPart f = true then s
  else if s.link.up.length < Config.transitRoom then s.enterUp f
  else s

/-- FRAME_ARRIVES_PORT_S (R20, R22, R26, R34). -/
def execFrameArrivesPortS (bytes : Bytes) (s : State) : Answer :=
  match s.phase with
  | .held => .next s
  | .bypass _ => .next (s.bypassS bytes)
  | .normal =>
    if 0 < s.creditS ∧ passesForm bytes = true then .next (s.dispatchS bytes).settle
    else .next (s.countDiscard .s)

/-- RECEPTION_BROKEN_OFF (R20, R21): counted as failing the form stage, in normal passage only (R33, R34). -/
def execReceptionBrokenOff (port : PortId) (s : State) : Answer :=
  match s.phase with
  | .held => .next s
  | .bypass _ => .next s
  | .normal => .next (s.countDiscard port)

/-! ## Credit (R23) -/

/-- CREDIT_ANNOUNCEMENT (R23): the port's send credit is the announced number, and an open slot is filled. -/
def execCreditAnnouncement (port : PortId) (credit : Nat) (s : State) : Answer :=
  match s.phase with
  | .held => .next s
  | .bypass _ | .normal =>
    match port with
    | .u => .next { s with link.portU.credit := credit }.fillU
    | .s => .next { s with link.portS.credit := credit }.fillS

/-! ## Departure (R30, R182) -/

/-- The timer tied to a frame that has left starts (R11, R30, R51, R64, R98), if it is still tied to it. -/
def State.startTied (s : State) (f : OwnFrame) : State :=
  match f.tie with
  | .untied => s
  | .flush _ => s
  | .confirm b =>
    let r := s.bus b
    if r.confirm = .tied f.serial then s.setBus b { r with confirm := .running (after s.now s.params.tTap) } else s
  | .stray b =>
    let r := s.bus b
    match r.stray with
    | some y =>
      if y.timer = .tied f.serial then
        s.setBus b { r with stray := some { y with timer := .running (after s.now s.params.tTap) } }
      else s
    | none => s
  | .audit card =>
    let a := s.audit card
    if a.timer = .tied f.serial then s.setAudit card { a with timer := .running (after s.now s.params.tTap) } else s
  | .head h e =>
    let c := s.chan h
    if c.intake.tie = some f.serial then
      if c.stage.accepting ∧ c.epoch = e then
        s.setChan h { c with intake := { c.intake with tie := none, timer := some (after s.now s.params.tHead) } }
      else s.setChan h { c with intake := { c.intake with tie := none } }
    else s

/-- A port after a departure: its transmitter is free, and one unit of send credit is used (R23, R30). -/
def Port.departed (p : Port) : Port := { p with sending := none, credit := p.credit - 1 }

/-- A transit frame leaves Port S. -/
def State.leaveDown (s : State) : State :=
  { s with link.down := s.link.down.tail, link.portS := s.link.portS.departed }.fillS

/-- An own frame leaves Port S: its entry is freed, its timer starts, the next slot is filled (R30). -/
def State.leaveSOwn (s : State) : State :=
  match s.link.sOwn with
  | [] => s
  | f :: rest =>
    let s1 : State := { s with link.sOwn := rest, link.portS := s.link.portS.departed }
    (s1.startTied f).fillS

/-- A transit frame leaves Port U. -/
def State.leaveUp (s : State) : State :=
  { s with link.up := s.link.up.tail, link.portU := s.link.portU.departed }.fillU

/-- The LOST notice with a count (R182). -/
def lostNotice (n : Nat) : Notice := ⟨0, .lost, 0, byte2 n⟩

/-- A notice leaves Port U: its entry is freed, and an unsolicited departure reports the losses (R181, R182). -/
def State.leaveNotice (s : State) : State :=
  match s.desk.notices with
  | [] => s
  | n :: rest =>
    if n.unsolicited = true ∧ 0 < s.desk.lost then
      { s with
        desk.notices := rest ++ [lostNotice s.desk.lost], desk.lost := 0
        link.portU := s.link.portU.departed }.fillU
    else { s with desk.notices := rest, link.portU := s.link.portU.departed }.fillU

/-- FRAME_LEAVES_PORT (R30): the last byte of the frame the port is sending has been sent. -/
def execFrameLeavesPort (port : PortId) (s : State) : Answer :=
  match port with
  | .s =>
    match s.link.portS.sending with
    | none => .next s
    | some .transit => .next s.leaveDown
    | some .own => .next s.leaveSOwn
  | .u =>
    match s.link.portU.sending with
    | none => .next s
    | some .transit => .next s.leaveUp
    | some .own => .next s.leaveNotice

/-- S_OWN_OFFER_ENTERS (R29): the oldest waiting offer enters when an entry is free. -/
def execSOwnOfferEnters (s : State) : Answer :=
  match s.link.offers with
  | [] => .next s
  | f :: rest =>
    if s.link.sOwn.length < Config.sOwnRoom then .next (s.offerEnters f rest) else .next s

end Sys2Proof.Machine
end

