-- ==== Sys2Proof/Machine/Desk.lean ====
section
/-! DEFINITION. The taking of desk commands (R178, R179), and the commands of the Line Table, of Access Control and of the Test
Sequencer. A handler gets the command's tag, its parameter bytes, and the state in which the command has left the queue with an
entry reserved for its response. -/

namespace Sys2Proof.Machine

/-! ## Taking a command (R178, R181) -/

/-- The Command Unit takes commands now (R178). -/
def State.canTake (s : State) : Bool := s.phase == .normal && !s.abortPending && !s.noticesFull

/-- The tag of a DESK frame. -/
def deskTag (f : Bytes) : Byte := f.getD 4 0

/-- The command of a DESK frame. -/
def deskCommand (f : Bytes) : Instr := commandOfCode (byteAt f 5)

/-- The parameter bytes of a DESK frame. -/
def deskParams (f : Bytes) : Bytes := (framePayload f).drop 2

/-- The head of the command queue is removed, and an entry is reserved for its response (R178, R181). -/
def State.taking (s : State) (rest : List Bytes) : State :=
  { s with desk.commands := rest, desk.reservations := s.desk.reservations + 1 }

/-- The command at the head of the queue is taken and handled, if it is this command and can be taken (R178; log entry 3). -/
def State.onCommand (s : State) (c : Instr) (handle : Byte → Bytes → State → State) : State :=
  match s.desk.commands with
  | [] => s
  | f :: rest =>
    if s.canTake = true ∧ deskCommand f = c then handle (deskTag f) (deskParams f) (s.taking rest) else s

/-- BAD_PARAM, with an empty body (R179). -/
def State.badParam (s : State) (tag : Byte) : State := s.respond tag .badParam []

/-! ## UNKNOWN_COMMAND (R179) -/

def State.doUnknown (tag : Byte) (_ : Bytes) (s : State) : State := s.respond tag .badCommand []

/-- UNKNOWN_COMMAND (R179). -/
def execUnknownCommand (s : State) : Answer := .next (s.onCommand .unknownCommand State.doUnknown)

/-! ## LOAD_LINES (R3, R4) -/

/-- An entry of LOAD_LINES (R3). -/
structure LineEntry where
  line : Nat
  cls : Nat
  tip : Nat
  ring : Nat
  inhibit : Bool
deriving DecidableEq, Repr

/-- Reads the entries for `count` lines from `line` up; none if one is out of range or missing. -/
def readEntries : Nat → Nat → Bytes → Option (List LineEntry)
  | 0, _, _ => some []
  | count + 1, line, a :: b :: c :: d :: rest =>
    match flagOf d.toNat, readEntries count (line + 1) rest with
    | some i, some es =>
      if a.toNat ≤ 15 ∧ b.toNat ≤ 7 ∧ c.toNat ≤ 7 then some (⟨line, a.toNat, b.toNat, c.toNat, i⟩ :: es) else none
    | _, _ => none
  | _ + 1, _, _ => none

/-- A record with an entry's static fields, and the effects of class 0 (R4). -/
def LineRec.load (l : LineRec) (e : LineEntry) : LineRec :=
  let l' := { l with cls := e.cls, tipProfile := e.tip, ringProfile := e.ring, inhibit := e.inhibit }
  if e.cls = 0 then
    { l' with
      condition := if l.condition = .cardDown then .cardDown else .unknown
      flapCount := 0, flapInterval := 255 }
  else l'

/-- One entry is applied (R4). -/
def State.loadLine (s : State) (e : LineEntry) : State :=
  let s1 := s.setLine e.line ((s.line e.line).load e)
  if (s1.line e.line).wantsAudit then s1.requestAudit (e.line / 16) else s1

/-- The lowest line that an entry would make unequipped while its access is not FREE (R3). -/
def State.blockedEntry (s : State) (es : List LineEntry) : Option LineEntry :=
  es.find? fun e => e.cls == 0 && (s.line e.line).access != .free

def State.doLoadLines (tag : Byte) (ps : Bytes) (s : State) : State :=
  match ps with
  | a :: b :: n :: rest =>
    let first := pair a b
    let count := n.toNat
    if count = 0 ∨ 16 < count ∨ Config.lines < first + count then s.badParam tag
    else
      match readEntries count first rest with
      | none => s.badParam tag
      | some es =>
        match s.blockedEntry es with
        | some e => s.respond tag .inUse (byte2 e.line)
        | none => (es.foldl State.loadLine s).respond tag .ok []
  | _ => s.badParam tag

/-- LOAD_LINES (R3, R4). -/
def execLoadLines (s : State) : Answer := .next (s.onCommand .loadLines State.doLoadLines)

/-! ## LINE_READ (R18) -/

/-- The access state with its channel (R18; log entry 15). -/
def Access.bytes (a : Access) : Bytes := byte1 a.code ++ optional (a.channel.map byte1)

/-- The body of LINE_READ (R18). DESIGN CHOICE: the condition, the access state and the last routine outcome are one byte each, for
R37 gives names a code and no width (log entry 39); so are the class and the two profiles, for which R37's table has no row (log
entry 42). -/
def State.lineBody (s : State) (line : Nat) : Bytes :=
  let l := s.line line
  byte2 line ++ byte1 l.cls ++ byte1 l.tipProfile ++ byte1 l.ringProfile ++ flagByte l.inhibit
    ++ byte1 l.condition.code ++ l.access.bytes ++ flagByte l.hazard ++ byte1 l.ticketCount
    ++ byte1 l.flapInterval ++ byte1 l.flapCount ++ byte1 l.lastPass ++ byte1 l.lastOutcome.code
    ++ flagByte (s.audit (line / 16)).flag

def State.doLineRead (tag : Byte) (ps : Bytes) (s : State) : State :=
  match ps with
  | a :: b :: _ =>
    if pair a b < Config.lines then s.respond tag .ok (s.lineBody (pair a b)) else s.badParam tag
  | _ => s.badParam tag

/-- LINE_READ (R18). -/
def execLineRead (s : State) : Answer := .next (s.onCommand .lineRead State.doLineRead)

/-! ## INHIBIT (R15) -/

def State.doInhibit (tag : Byte) (ps : Bytes) (s : State) : State :=
  match ps with
  | a :: b :: v :: _ =>
    match flagOf v.toNat with
    | some i =>
      if pair a b < Config.lines then
        (s.setLine (pair a b) { s.line (pair a b) with inhibit := i }).respond tag .ok []
      else s.badParam tag
    | none => s.badParam tag
  | _ => s.badParam tag

/-- INHIBIT (R15). -/
def execInhibit (s : State) : Answer := .next (s.onCommand .inhibit State.doInhibit)

/-! ## CLEAR_HAZARD (R16) -/

def State.doClearHazard (tag : Byte) (ps : Bytes) (s : State) : State :=
  match ps with
  | a :: b :: _ =>
    let line := pair a b
    if line < Config.lines then
      match s.findTicket .line line .foreignVoltage with
      | some _ => s.respond tag .inUse []
      | none => (s.setLine line { s.line line with hazard := false }).respond tag .ok []
    else s.badParam tag
  | _ => s.badParam tag

/-- CLEAR_HAZARD (R16). -/
def execClearHazard (s : State) : Answer := .next (s.onCommand .clearHazard State.doClearHazard)

/-! ## LOAD_BUSMAP (R52) -/

def State.doLoadBusmap (tag : Byte) (ps : Bytes) (s : State) : State :=
  match ps with
  | n :: a :: b :: _ =>
    if Config.buses ≤ n.toNat then s.badParam tag
    else if (s.bus n.toNat).state = .free then
      (s.setBus n.toNat { s.bus n.toNat with reach := BitVec.ofNat 16 (pair a b) }).respond tag .ok []
    else s.respond tag .inUse []
  | _ => s.badParam tag

/-- LOAD_BUSMAP (R52). -/
def execLoadBusmap (s : State) : Answer := .next (s.onCommand .loadBusmap State.doLoadBusmap)

/-! ## CLEAR_STUCK (R66) -/

/-- The stuck line's access is restored (R66): STUCK becomes FREE, and a FLUSHING line loses its stuck mark (R48). -/
def State.restoreLine (s : State) (line : Nat) : State :=
  match (s.line line).access with
  | .stuck => s.setAccess line .free
  | .flushing =>
    match s.flush line with
    | some f => s.setFlush { f with stuck := false }
    | none => s
  | .free | .tapPending _ | .tapped _ | .releasePending _ => s

/-- Another bus names the line as its stuck line (R66). -/
def State.stuckElsewhere (s : State) (bus line : Nat) : Bool :=
  allBuses.any fun b => b != bus && (s.bus b).stuckLine == some line

/-- The effects of an accepted CLEAR_STUCK on the stuck line and the ticket (R66). -/
def State.unstick (s : State) (bus : Nat) : State :=
  let s1 := match (s.bus bus).stuckLine with
    | some line => if s.stuckElsewhere bus line then s else s.restoreLine line
    | none => s
  let s2 := s1.setBus bus { s1.bus bus with stuckLine := none, oosMark := false }
  s2.clearTicket .bus bus .relayStuck

/-- An OUT_OF_SERVICE bus returns to FREE (R66). -/
def State.returnBus (s : State) (bus : Nat) : State :=
  let s1 := s.setBus bus { s.bus bus with state := .free, commanded := none, confirmed := none }
  (s1.unstick bus).wantAttempt

def State.doClearStuck (tag : Byte) (ps : Bytes) (s : State) : State :=
  match ps with
  | n :: _ =>
    let bus := n.toNat
    if Config.buses ≤ bus then s.badParam tag
    else if (s.bus bus).state = .outOfService then (s.returnBus bus).settle.respond tag .ok []
    else if (s.bus bus).oosMark then (s.unstick bus).respond tag .ok []
    else s.respond tag .notFound []
  | _ => s.badParam tag

/-- CLEAR_STUCK (R66). -/
def execClearStuck (s : State) : Answer := .next (s.onCommand .clearStuck State.doClearStuck)

/-! ## LOAD_STEP (R75) -/

/-- The parameters of LOAD_STEP as read, before any clamp (R75). -/
structure StepParams where
  index : Nat
  fields : StepRec
deriving DecidableEq, Repr

/-- Reads the parameters of LOAD_STEP; none for BAD_PARAM (R75). -/
def readStep (ps : Bytes) : Option StepParams :=
  match ps with
  | i :: ar :: kd :: rg :: l1 :: l0 :: k :: b1 :: b0 :: dw :: mx :: sl :: se :: fc :: rp :: sf :: nt :: lk :: _ =>
    match arrangementOf ar.toNat, stepKindOf kd.toNat, rangeOf rg.toNat, slotOf sl.toNat, senseOf se.toNat,
      stepClassOf fc.toNat, flagOf sf.toNat, flagOf nt.toNat, linkOf lk.toNat with
    | some ar, some kd, some rg, some sl, some se, some fc, some sf, some nt, some lk =>
      if i.toNat ≤ 127 ∧ rp.toNat ≤ 7 then
        some ⟨i.toNat, ⟨ar, kd, signedPair l1 l0, rg, k.toNat, pair b1 b0, dw.toNat, mx.toNat, sl, se, fc, rp.toNat, sf,
          nt, lk⟩⟩
      else none
    | _, _, _, _, _, _, _, _, _ => none
  | _ => none

/-- A number brought within a range. -/
def clampNat (lo hi n : Nat) : Nat := max lo (min hi n)

/-- The record after the clamps (R75). -/
def StepRec.clamped (r : StepRec) : StepRec :=
  { r with
    window := clampNat 4 10 r.window
    band := clampNat 1 1023 r.band
    dwell := clampNat 1 15 r.dwell
    maxBlocks := clampNat 1 255 r.maxBlocks
    level := if r.kind = .res then max (-150) (min 150 r.level) else 0 }

/-- A level in two bytes, signed. -/
def signed2 (i : Int) : Bytes := byte2 (BitVec.ofInt 16 i).toNat

/-- The stored fields in the parameter order (R75). -/
def StepRec.bytes (r : StepRec) : Bytes :=
  byte1 r.arrangement.code ++ byte1 r.kind.code ++ byte1 r.range.code ++ signed2 r.level ++ byte1 r.window
    ++ byte2 r.band ++ byte1 r.dwell ++ byte1 r.maxBlocks ++ orFF r.slot ++ byte1 r.sense.code ++ byte1 r.cls.code
    ++ byte1 r.rep ++ flagByte r.stopOnFail ++ flagByte r.notify ++ orFF r.link

def State.doLoadStep (tag : Byte) (ps : Bytes) (s : State) : State :=
  match readStep ps with
  | none => s.badParam tag
  | some q =>
    if s.stepInUse q.index then s.respond tag .inUse []
    else
      let r := q.fields.clamped
      (s.setStepRec q.index (some r)).respond tag (if r = q.fields then .ok else .clamped) (byte1 q.index ++ r.bytes)

/-- LOAD_STEP (R75). -/
def execLoadStep (s : State) : Answer := .next (s.onCommand .loadStep State.doLoadStep)

/-! ## LOAD_PLAN (R76) -/

def State.doLoadPlan (tag : Byte) (ps : Bytes) (s : State) : State :=
  match ps with
  | p :: f :: _ =>
    match linkOf f.toNat with
    | none => s.badParam tag
    | some first =>
      let plan := p.toNat
      if 15 < plan then s.badParam tag
      else if s.planInUse plan then s.respond tag .inUse []
      else
        let s1 := s.setPlan plan first
        s1.respond tag .ok (byte1 plan ++ flagByte (s1.planSteps plan).isSome ++ byte1 (s1.planLength plan))
  | _ => s.badParam tag

/-- LOAD_PLAN (R76). -/
def execLoadPlan (s : State) : Answer := .next (s.onCommand .loadPlan State.doLoadPlan)

/-! ## TEST (R53, R54, R69, R70, R81) -/

/-- The parameters of TEST (R81). -/
structure TestParams where
  line : Nat
  plan : Nat
  breakIn : Bool
  overrideHazard : Bool
  originator : Nat
deriving DecidableEq, Repr

/-- Reads the parameters of TEST; none for BAD_PARAM (R81). -/
def readTest (ps : Bytes) : Option TestParams :=
  match ps with
  | a :: b :: p :: pr :: bi :: ov :: o :: _ =>
    match flagOf bi.toNat, flagOf ov.toNat with
    | some bi, some ov =>
      if pair a b < Config.lines ∧ p.toNat ≤ 15 ∧ pr.toNat = Priority.urgent.code ∧ o.toNat ≤ 8 then
        some ⟨pair a b, p.toNat, bi, ov, o.toNat⟩
      else none
    | _, _ => none
  | _ => none

/-- The request of a TEST (R81). -/
def TestParams.request (q : TestParams) : Request := ⟨q.line, q.plan, true, q.breakIn, q.overrideHazard⟩

/-- The record of an URGENT test (R80). -/
def State.urgentRecord (s : State) (q : TestParams) : TestRec :=
  { line := q.line, plan := q.plan, priority := .urgent, originator := .asked q.originator, breakIn := q.breakIn
    overrideHazard := q.overrideHazard, startTime := s.now, startMinute := s.minute, pass := 0
    startedInPass := false, resumed := false, savedRep := 0, startStep := (s.plan q.plan).getD 0
    results := [], outcome := none }

/-- The context of a channel's routine test (R70). In TAPPING the step is the one the test begins with (log entry 26). -/
def Channel.context (c : Channel) (t : TestRec) : Context :=
  ⟨t.line, t.plan, (c.step.map Progress.step).getD t.startStep, (c.step.map Progress.rep).getD 0, t.results, t.pass,
    t.startedInPass, c.origin⟩

/-- Pre-emption of a victim channel (R70, steps 1 to 4). -/
def State.preempt (s : State) (h : Nat) (t : TestRec) : State :=
  let c := s.chan h
  match c.test, c.bus with
  | some v, some b =>
    let s1 := s.pushContext (c.context v)
    let s2 := s1.setChan h { c with
      test := some t, step := none, releaseLine := some v.line, handover := true
      exposure := 0, peak := 0, origin := .unset, restartEnded := false }
    (s2.setAccess t.line (.tapPending h)).release h v.line b
  | _, _ => s

/-- An admitted URGENT request: its channel and the state with the test begun (R54, R70). -/
def State.admitUrgent (s : State) (q : TestParams) : Option (Nat × State) :=
  let t := s.urgentRecord q
  match s.idleChannel with
  | some h => (s.freeBus q.line).map fun b => (h, s.startTest h b t .unset)
  | none => (s.victim q.line).map fun h => (h, (s.preempt h t).settle)

def State.doTest (tag : Byte) (ps : Bytes) (s : State) : State :=
  match readTest ps with
  | none => s.badParam tag
  | some q =>
    match s.refusal q.request with
    | some r => s.respond tag r []
    | none =>
      match s.admitUrgent q with
      | some (h, s1) => s1.respond tag .ok (byte1 h)
      | none => s.respond tag .noChannel []

/-- TEST (R81). -/
def execTest (s : State) : Answer := .next (s.onCommand .test State.doTest)

/-! ## ABORT (R72, R92) -/

/-- What an ABORT names (R92). -/
inductive AbortTarget where
  | channel (h : Nat)
  | line (l : Nat)
deriving DecidableEq, Repr

/-- Reads the parameters of ABORT; none for BAD_PARAM (R92). -/
def readAbort (ps : Bytes) : Option AbortTarget :=
  match ps with
  | x :: y :: rest =>
    if x = 0 then (if y.toNat < Config.channels then some (.channel y.toNat) else none)
    else if x = 1 then
      match rest with
      | z :: _ => if pair y z < Config.lines then some (.line (pair y z)) else none
      | [] => none
    else none
  | _ => none

/-- The channel an ABORT finds (R92). -/
def State.abortChannel (s : State) : AbortTarget → Option Nat
  | .channel h => some h
  | .line l => (s.line l).access.channel

/-- The ABORT's tag is kept until the channel's test ends (R92, R180). -/
def State.awaitAbort (s : State) (h : Nat) (tag : Byte) : State :=
  s.setChan h { s.chan h with pendingAbort := some tag }

/-- A pending handover is aborted (R72): the outcome becomes ABORTED, and the release goes on. -/
def State.abortHandover (s : State) (h : Nat) : State :=
  let c := s.chan h
  if c.handover then
    s.setChan h { c with
      test := c.test.map fun t => { t with outcome := some .aborted }
      handover := false }
  else s

/-- The ABORT acts on a channel (R92). -/
def State.abortOn (s : State) (h : Nat) (tag : Byte) : State :=
  match (s.chan h).stage with
  | .idle | .outOfService => s.respond tag .notFound []
  | .calibrating => s.respond tag .busy []
  | .tapping | .sourcing | .settling | .measuring => (s.awaitAbort h tag).endByCause h .aborted
  | .releasing => (s.awaitAbort h tag).abortHandover h

def State.doAbort (tag : Byte) (ps : Bytes) (s : State) : State :=
  match readAbort ps with
  | none => s.badParam tag
  | some q =>
    match s.abortChannel q with
    | none => s.respond tag .notFound []
    | some h => s.abortOn h tag

/-- ABORT (R92). -/
def execAbort (s : State) : Answer := .next (s.onCommand .abort State.doAbort)

/-! ## RETURN_HEAD (R93) -/

/-- The head returns to service (R93). -/
def State.headBack (s : State) (h : Nat) : State :=
  let c := s.chan h
  let stage := if c.stage = .outOfService then .idle else c.stage
  ((s.setChan h { c with headOut := false, stage := stage }).noteIdle h).clearTicket .head h .headSilent

def State.doReturnHead (tag : Byte) (ps : Bytes) (s : State) : State :=
  match ps with
  | n :: _ =>
    if Config.channels ≤ n.toNat then s.badParam tag
    else if (s.chan n.toNat).headOut then (s.headBack n.toNat).settle.respond tag .ok []
    else s.respond tag .notFound []
  | _ => s.badParam tag

/-- RETURN_HEAD (R93). -/
def execReturnHead (s : State) : Answer := .next (s.onCommand .returnHead State.doReturnHead)

end Sys2Proof.Machine
end

