-- ==== Sys2Proof/Machine/DeskHeads.lean ====
section
/-! DEFINITION. The desk commands of the Calibration Unit (R129, R132, R133). -/

namespace Sys2Proof.Machine

/-! ## LOAD_PROFILE (R129) -/

/-- Reads `count` limit values; none if they are short (R129). -/
def readLimits : Nat → Bytes → Option (List Nat)
  | 0, _ => some []
  | count + 1, a :: b :: c :: d :: rest => (readLimits count rest).map fun t => quad a b c d :: t
  | _ + 1, _ => none

/-- Writes limits into the slots from a slot upward (R129). -/
def State.setLimits (s : State) (profile : Nat) : Nat → List Nat → State
  | _, [] => s
  | slot, v :: t => (s.setLimit profile slot v).setLimits profile (slot + 1) t

/-- The body of LOAD_PROFILE: the profile and all 8 of its limits (R129). DESIGN CHOICE: the profile is one byte, as in the command
(log entry 42). -/
def State.profileBody (s : State) (profile : Nat) : Bytes :=
  byte1 profile ++ (List.range 8).flatMap fun slot => byte4 (s.limit profile slot)

def State.doLoadProfile (tag : Byte) (ps : Bytes) (s : State) : State :=
  match ps with
  | p :: f :: n :: rest =>
    let profile := p.toNat
    let first := f.toNat
    let count := n.toNat
    if 7 < profile ∨ 7 < first ∨ count = 0 ∨ 8 < first + count then s.badParam tag
    else
      match readLimits count rest with
      | none => s.badParam tag
      | some vs =>
        let s1 := s.setLimits profile first vs
        s1.respond tag .ok (s1.profileBody profile)
  | _ => s.badParam tag

/-- LOAD_PROFILE (R129). -/
def execLoadProfile (s : State) : Answer := .next (s.onCommand .loadProfile State.doLoadProfile)

/-! ## CALIBRATE (R133) -/

def State.doCalibrate (tag : Byte) (ps : Bytes) (s : State) : State :=
  match ps with
  | n :: _ =>
    if Config.channels ≤ n.toNat then s.badParam tag
    else if (s.chan n.toNat).stage.quiet then s.beginRun n.toNat tag
    else s.respond tag .busy []
  | _ => s.badParam tag

/-- CALIBRATE (R133): a run that begins is answered at its end (R180). -/
def execCalibrate (s : State) : Answer := .next (s.onCommand .calibrate State.doCalibrate)

/-! ## SET_CAL_COEF (R132) -/

/-- The record of a scale (R124). -/
def HeadCal.scale (c : HeadCal) : Scale → CalRec
  | .v => c.v
  | .iHigh => c.iHigh
  | .iLow => c.iLow

/-- Replaces the record of a scale. -/
def HeadCal.setScale (c : HeadCal) (x : Scale) (r : CalRec) : HeadCal :=
  match x with
  | .v => { c with v := r }
  | .iHigh => { c with iHigh := r }
  | .iLow => { c with iLow := r }

/-- The code of a scale (R132). -/
def Scale.code : Scale → Nat
  | .v => 0 | .iHigh => 1 | .iLow => 2

/-- The body of SET_CAL_COEF (R132). DESIGN CHOICE: the scale, kT and kA are one byte and U0 two bytes, as in the command (log entry
42). -/
def coefBody (head : Nat) (x : Scale) (r : CalRec) (temp : Option Int) : Bytes :=
  byte1 head ++ byte1 x.code ++ flagByte r.valid ++ signed4 r.offset ++ signed4 r.gain ++ signed1 r.tcal
    ++ byte2 r.age ++ byte2 r.u0 ++ byte1 r.kT ++ byte1 r.kA ++ byte2 (r.uncertainty temp) ++ flagByte r.due

def State.doSetCalCoef (tag : Byte) (ps : Bytes) (s : State) : State :=
  match ps with
  | n :: x :: u1 :: u0 :: kt :: ka :: _ =>
    match scaleOf x.toNat with
    | none => s.badParam tag
    | some x =>
      let h := n.toNat
      if Config.channels ≤ h ∨ 100 < pair u1 u0 then s.badParam tag
      else
        let r := { (s.headCal h).scale x with u0 := pair u1 u0, kT := kt.toNat, kA := ka.toNat }
        (s.setHeadCal h ((s.headCal h).setScale x r)).respond tag .ok (coefBody h x r (s.chan h).lastTemp)
  | _ => s.badParam tag

/-- SET_CAL_COEF (R132). -/
def execSetCalCoef (s : State) : Answer := .next (s.onCommand .setCalCoef State.doSetCalCoef)

end Sys2Proof.Machine
end

