-- ==== Sys2Proof/Machine/DeskPart.lean ====
section
/-! DEFINITION. The desk commands of the Command Unit: SET_PARAM, STATUS, RESTART (R184 to R186, and the restart rules of every
chapter). -/

namespace Sys2Proof.Machine

/-! ## SET_PARAM (R184) -/

/-- When a parameter is taken (R184). -/
inductive TakenWhen where
  | always | quiet | noHeld
deriving DecidableEq, Repr

/-- A parameter of R184: its range, when it is taken, and how it is written. -/
structure ParamChange where
  allowed : Bool
  taken : TakenWhen
  params : Params
deriving DecidableEq, Repr

/-- The table of R184: a parameter number with a value; none outside 1 to 14. -/
def paramChange (p : Params) (number value : Nat) : Option ParamChange :=
  match number with
  | 1 => some ⟨decide (10 ≤ value ∧ value ≤ 2000), .quiet, { p with tTap := value }⟩
  | 2 => some ⟨decide (5 ≤ value ∧ value ≤ 255), .quiet, { p with tHead := value }⟩
  | 3 => some ⟨decide (100 ≤ value ∧ value ≤ 60000), .noHeld, { p with tHold := value }⟩
  | 4 => some ⟨decide (value = 16 ∨ value = 32), .always, { p with flapUnit := value }⟩
  | 5 => some ⟨decide (1 ≤ value ∧ value ≤ 254), .always, { p with flapThreshold := value }⟩
  | 6 => some ⟨decide (2 ≤ value ∧ value ≤ 15), .always, { p with flapLimit := value }⟩
  | 7 => some ⟨decide (1 ≤ value ∧ value ≤ 32767), .quiet, { p with vprot := value }⟩
  | 8 => some ⟨decide (1 ≤ value ∧ value ≤ 4294967295), .quiet, { p with elim := value }⟩
  | 9 => some ⟨decide (1 ≤ value ∧ value ≤ 255), .always, { p with lockout := value }⟩
  | 10 => some ⟨decide (10 ≤ value ∧ value ≤ 500), .always, { p with umax := value }⟩
  | 11 => some ⟨decide (value ≤ 4), .always, { p with concurrency := value }⟩
  | 12 => some ⟨decide (value ≤ 1), .always, { p with policy := if value = 0 then .all else .exceptions }⟩
  | 13 => some ⟨decide (value ≤ 1440), .always, { p with interval := value }⟩
  | 14 => some ⟨decide (value ≤ 15), .always, { p with suspectPlan := value }⟩
  | _ => none

/-- The condition of a parameter holds (R184). -/
def State.takes (s : State) : TakenWhen → Bool
  | .always => true
  | .quiet => s.allQuiet
  | .noHeld => s.hold.isEmpty

/-- SET_PARAM once taken (R184). DESIGN CHOICE: the parameter number is answered in one byte, as in the command (log entry 42). -/
def State.doSetParam (tag : Byte) (ps : Bytes) (s : State) : State :=
  match ps with
  | n :: a :: b :: c :: d :: _ =>
    match paramChange s.params n.toNat (quad a b c d) with
    | none => s.badParam tag
    | some q =>
      if q.allowed then
        if s.takes q.taken then
          { s with params := q.params }.respond tag .ok (byte1 n.toNat ++ byte4 (quad a b c d))
        else s.respond tag .busy []
      else s.badParam tag
  | _ => s.badParam tag

/-- SET_PARAM (R184). -/
def execSetParam (s : State) : Answer := .next (s.onCommand .setParam State.doSetParam)

/-! ## STATUS (R185) -/

/-- A channel in STATUS (R185; log entries 16 and 17). DESIGN CHOICE: the epoch is one byte, for R37's table of widths, which R185 names,
has no row for it (log entry 42); the stage is one byte as a name is (log entry 39). -/
def Channel.statusBytes (c : Channel) : Bytes :=
  byte1 c.stage.code ++ flagByte c.headOut ++ byte1 c.epoch.toNat ++ byte4 c.exposure ++ byte4 c.peak

/-- A bus in STATUS (R185). The state is one byte as a name is (log entry 39). -/
def Bus.statusBytes (b : Bus) : Bytes :=
  byte1 b.state.code ++ byte1 b.state.claimant ++ flagByte b.stray.isSome

/-- The 14 parameters (R185). -/
def Params.bytes (p : Params) : Bytes :=
  byte4 p.tTap ++ byte4 p.tHead ++ byte4 p.tHold ++ byte4 p.flapUnit ++ byte4 p.flapThreshold ++ byte4 p.flapLimit
    ++ byte4 p.vprot ++ byte4 p.elim ++ byte4 p.lockout ++ byte4 p.umax ++ byte4 p.concurrency ++ byte4 p.policy.code
    ++ byte4 p.interval ++ byte4 p.suspectPlan

/-- The restart releases outstanding (R185). -/
def State.restartReleases (s : State) : Nat := allBuses.countP fun b => (s.bus b).state == .claimedRestart

/-- The body of STATUS (R185). -/
def State.statusBody (s : State) : Bytes :=
  byte4 s.minute.toNat ++ byte2 s.link.portU.discards ++ byte2 s.link.portS.discards
    ++ allChannels.flatMap (fun h => (s.chan h).statusBytes)
    ++ allBuses.flatMap (fun b => (s.bus b).statusBytes)
    ++ byte1 s.hold.length
    ++ byte1 s.sweep.state.code ++ byte1 s.sweep.passNumber ++ byte1 s.sweep.revisits.length
    ++ byte1 s.sweep.suspects.length ++ byte1 s.sweep.suspended.length
    ++ byte2 s.tickets.entries.length ++ byte2 s.tickets.overflow
    ++ byte1 (s.desk.notices.length + 1) ++ byte2 s.desk.lost ++ byte1 s.restartReleases ++ s.params.bytes

def State.doStatus (tag : Byte) (_ : Bytes) (s : State) : State := s.respond tag .ok s.statusBody

/-- STATUS (R185). -/
def execStatus (s : State) : Answer := .next (s.onCommand .status State.doStatus)

/-! ## RESTART (R186) -/

/-- A channel whose test a restart has ended (R73, R94, R107): no test, no bus, no intake, the epoch advanced. -/
def Channel.restarted (c : Channel) : Channel :=
  { c with
    stage := c.restStage, epoch := c.epoch + 1, bus := none, test := none, step := none, releaseLine := none
    handover := false, intake := .cold, origin := .unset }

/-- The restart releases the tap of a channel in TAPPING to MEASURING (R73). -/
def State.restartTap (s : State) (h : Nat) : State :=
  let c := s.chan h
  match c.bus with
  | none => s.setChan h c.restarted
  | some b =>
    let line := (s.bus b).commanded.getD 0
    let s1 := (s.setChan h c.restarted).offer (idleDirective h (c.epoch + 1)) .untied
    let serial := s1.link.serial
    let s2 := s1.offer (tapReleaseFrame line b) (.confirm b)
    let s3 := s2.setBus b { s2.bus b with state := .claimedRestart, confirm := .tied serial }
    s3.setAccess line (.releasePending none)

/-- The restart finds a channel in RELEASING (R72, R73, R94): a pending handover is cleared, and the release goes on. -/
def State.restartReleasing (s : State) (h : Nat) : State :=
  s.setChan h { s.chan h with handover := false, restartEnded := true, origin := .unset }

/-- The restart reaches a channel (R73, R94, R138). -/
def State.restartChannel (s : State) (h : Nat) : State :=
  match (s.chan h).stage with
  | .idle | .outOfService => s
  | .tapping | .sourcing | .settling | .measuring => s.restartTap h
  | .releasing => s.restartReleasing h
  | .calibrating => s.failRun h .restart

/-- Step 2 of R186: tests and runs end. The order of the channels is left open (log entry 5). -/
def State.restartChannels (s : State) : State :=
  let ordered := s.inFreeOrder allChannels
  ordered.1.foldl State.restartChannel ordered.2

/-- The lines with held records and no flush (R50), each once. -/
def State.linesToFlush (s : State) : List Nat :=
  ((s.hold.map HoldRec.line).filter fun l => (s.flush l).isNone).eraseDups

/-- Step 3 of R186: a flush begins for every line with held records (R50). The order of the lines is left open (log entry 5). -/
def State.restartFlushes (s : State) : State :=
  let ordered := s.inFreeOrder s.linesToFlush
  ordered.1.foldl (fun s l => s.beginFlush l false) ordered.2

/-- Step 4 of R186: the Sweep Unit after a warm restart (R164). -/
def Sweep.restarted (w : Sweep) : Sweep :=
  { Sweep.cold with ranges := w.ranges, config := w.config, passNumber := w.passNumber }

/-- The notices a restart keeps: responses, and the one whose sending has begun (R183). -/
def keptNotices (sendingOwn : Bool) (ns : List Notice) : List Notice :=
  match ns with
  | [] => []
  | n :: rest =>
    let kept := rest.filter fun m => !m.unsolicited
    if sendingOwn || !n.unsolicited then n :: kept else kept

/-- Step 5 of R186 (R183). -/
def State.restartNotices (s : State) : State :=
  { s with
    desk.notices := keptNotices (s.link.portU.sending == some .own) s.desk.notices
    desk.lost := 0 }

/-- The number of channels the restart is about to end (R186). -/
def State.activeChannels (s : State) : Nat := allChannels.countP fun h => (s.chan h).stage.active

/-- A warm restart after its response (R186, steps 2 to 5). -/
def State.warmRestart (s : State) : State :=
  let s1 := s.restartChannels.restartFlushes
  let s2 : State := { s1 with sweep := s1.sweep.restarted }
  s2.restartNotices

def State.doRestart (tag : Byte) (_ : Bytes) (s : State) : State :=
  if 0 < s.restartReleases then s.respond tag .starting []
  else (s.respond tag .ok (byte1 s.activeChannels)).warmRestart

/-- RESTART (R186). -/
def execRestart (s : State) : Answer := .next (s.onCommand .restart State.doRestart)

end Sys2Proof.Machine
end

