-- ==== Sys2Proof/Machine/DeskSweep.lean ====
section
/-! DEFINITION. The desk commands of the Sweep Unit (R149, R151, R153, R157, R163). -/

namespace Sys2Proof.Machine

/-! ## SWEEP_LOAD (R149) -/

/-- Reads `count` ranges; none if one is out of range or missing (R149). -/
def readRanges : Nat → Bytes → Option (List SweepRange)
  | 0, _ => some []
  | count + 1, a :: b :: c :: d :: p :: rest =>
    if pair a b ≤ pair c d ∧ pair c d < Config.lines ∧ p.toNat ≤ 15 then
      (readRanges count rest).map fun t => ⟨pair a b, pair c d, p.toNat⟩ :: t
    else none
  | _ + 1, _ => none

def State.doSweepLoad (tag : Byte) (ps : Bytes) (s : State) : State :=
  match ps with
  | n :: rest =>
    if 32 < n.toNat then s.badParam tag
    else
      match readRanges n.toNat rest with
      | none => s.badParam tag
      | some rs => { s with sweep.ranges := rs }.respond tag .ok (byte1 n.toNat)
  | [] => s.badParam tag

/-- SWEEP_LOAD (R149). -/
def execSweepLoad (s : State) : Answer := .next (s.onCommand .sweepLoad State.doSweepLoad)

/-! ## SWEEP_START, SWEEP_PAUSE, SWEEP_RESUME, SWEEP_STOP (R151, R153) -/

/-- An OK response carries the sweep state after the command (R151; log entry 30). -/
def State.sweepOk (s : State) (tag : Byte) : State := s.respond tag .ok (byte1 s.sweep.state.code)

/-- BUSY, with an empty body (R151). -/
def State.sweepBusy (s : State) (tag : Byte) : State := s.respond tag .busy []

def State.doSweepStart (tag : Byte) (_ : Bytes) (s : State) : State :=
  match s.sweep.state with
  | .stopped => s.runPass.sweepOk tag
  | .running | .waiting | .paused | .draining => s.sweepBusy tag

/-- SWEEP_START (R151). -/
def execSweepStart (s : State) : Answer := .next (s.onCommand .sweepStart State.doSweepStart)

/-- The sweep pauses, from a state (R151). -/
def State.pauseFrom (s : State) (left : StateLeft) : State :=
  { s with sweep.state := .paused, sweep.left := some left }

def State.doSweepPause (tag : Byte) (_ : Bytes) (s : State) : State :=
  match s.sweep.state with
  | .running => (s.pauseFrom .running).sweepOk tag
  | .waiting => (s.pauseFrom .waiting).sweepOk tag
  | .stopped | .paused | .draining => s.sweepBusy tag

/-- SWEEP_PAUSE (R151). -/
def execSweepPause (s : State) : Answer := .next (s.onCommand .sweepPause State.doSweepPause)

/-- The sweep goes back to the state left, or starts the pass that has waited (R151). Back in RUNNING it makes a start attempt (R154).
DESIGN CHOICE: back in WAITING it makes none, for a suspect that joined in PAUSED is no cause that is kept (log entry 44). -/
def State.resume (s : State) : State :=
  if s.sweep.startWaits then s.runPass
  else
    match s.sweep.left with
    | some .waiting => { s with sweep.state := .waiting, sweep.left := none }
    | some .running | none =>
      let s1 : State := { s with sweep.state := .running, sweep.left := none }
      s1.wantAttempt.settle

def State.doSweepResume (tag : Byte) (_ : Bytes) (s : State) : State :=
  match s.sweep.state with
  | .paused => s.resume.sweepOk tag
  | .stopped | .running | .waiting | .draining => s.sweepBusy tag

/-- SWEEP_RESUME (R151). -/
def execSweepResume (s : State) : Answer := .next (s.onCommand .sweepResume State.doSweepResume)

/-- The effects of SWEEP_STOP (R153). -/
def State.drain (s : State) : State :=
  let s1 : State := { s with
    sweep.state := .draining, sweep.left := none, sweep.timer := none, sweep.startWaits := false
    sweep.revisits := [], sweep.suspects := [], sweep.suspended := [] }
  let s2 := s.sweep.suspended.foldl State.discardContext s1
  { s2 with sweep.walk := .unset }

def State.doSweepStop (tag : Byte) (_ : Bytes) (s : State) : State :=
  match s.sweep.state with
  | .stopped => s.sweepBusy tag
  | .running | .waiting | .paused => s.drain.settle.sweepOk tag
  | .draining => s.sweepOk tag

/-- SWEEP_STOP (R151, R153). -/
def execSweepStop (s : State) : Answer := .next (s.onCommand .sweepStop State.doSweepStop)

/-! ## SWEEP_MARK (R163) -/

def State.doSweepMark (tag : Byte) (ps : Bytes) (s : State) : State :=
  match ps with
  | r :: a :: b :: _ =>
    if r.toNat = 255 then { s with sweep.mark := none }.respond tag .ok []
    else if 31 < r.toNat ∨ Config.lines ≤ pair a b then s.badParam tag
    else { s with sweep.mark := some (r.toNat, pair a b) }.respond tag .ok []
  | _ => s.badParam tag

/-- SWEEP_MARK (R163). -/
def execSweepMark (s : State) : Answer := .next (s.onCommand .sweepMark State.doSweepMark)

/-! ## SUSPECT (R157) -/

/-- SUSPECT once taken (R157). DESIGN CHOICE: the position in the queue is answered in one byte, for R37's table of widths has no row
for it (log entry 42). -/
def State.doSuspect (tag : Byte) (ps : Bytes) (s : State) : State :=
  match ps with
  | a :: b :: p :: _ =>
    let line := pair a b
    if Config.lines ≤ line ∨ 15 < p.toNat then s.badParam tag
    else
      let s1 := (s.offerSuspect line p.toNat .desk).settle
      match s.suspectFate line with
      | .dropped => s1.respond tag .busy []
      | .present => s1.respond tag .inUse []
      | .full => s1.respond tag .busy []
      | .joined position => s1.respond tag .ok (byte1 position)
  | _ => s.badParam tag

/-- SUSPECT (R157). -/
def execSuspect (s : State) : Answer := .next (s.onCommand .suspect State.doSuspect)

end Sys2Proof.Machine
end

