-- ==== Sys2Proof/Machine/DeskTickets.lean ====
section
/-! DEFINITION. The desk commands of the Ticket Table (R174 to R177). -/

namespace Sys2Proof.Machine

/-- NOT_FOUND, with an empty body. -/
def State.ticketMissing (s : State) (tag : Byte) : State := s.respond tag .notFound []

/-! ## TICKET_ACK (R174) -/

def State.doTicketAck (tag : Byte) (ps : Bytes) (s : State) : State :=
  match ps with
  | a :: b :: _ =>
    match s.ticketNumbered (pair a b) with
    | none => s.ticketMissing tag
    | some t =>
      match t.state with
      | .opened =>
        let t' := { t with state := .confirmed }
        (s.putTicket t.number t').respond tag .ok t'.bytes
      | .confirmed => s.respond tag .ok t.bytes
      | .cleared => s.respond tag .busy t.bytes
  | _ => s.badParam tag

/-- TICKET_ACK (R174). -/
def execTicketAck (s : State) : Answer := .next (s.onCommand .ticketAck State.doTicketAck)

/-! ## TICKET_CLOSE (R175) -/

/-- An entry is closed (R175): closing FOREIGN_VOLTAGE clears the line's hazard flag. -/
def State.closeTicket (s : State) (t : Ticket) : State :=
  let s1 := s.removeTicket t
  if t.cls = .foreignVoltage then s1.setLine t.subject { s1.line t.subject with hazard := false } else s1

def State.doTicketClose (tag : Byte) (ps : Bytes) (s : State) : State :=
  match ps with
  | a :: b :: _ =>
    match s.ticketNumbered (pair a b) with
    | none => s.ticketMissing tag
    | some t => (s.closeTicket t).respond tag .ok t.bytes
  | _ => s.badParam tag

/-- TICKET_CLOSE (R175). -/
def execTicketClose (s : State) : Answer := .next (s.onCommand .ticketClose State.doTicketClose)

/-! ## TICKET_READ (R176) -/

/-- The entry with the smaller number of two. -/
def Ticket.lower (a b : Ticket) : Ticket := if b.number < a.number then b else a

/-- The entry with the smallest number greater than `n` (R176). -/
def State.ticketAfter (s : State) (n : Nat) : Option Ticket :=
  match s.tickets.entries.filter fun t => decide (n < t.number) with
  | [] => none
  | t :: rest => some (rest.foldl Ticket.lower t)

/-- Answers with an entry, or NOT_FOUND. -/
def State.answerTicket (s : State) (tag : Byte) (t : Option Ticket) : State :=
  match t with
  | some t => s.respond tag .ok t.bytes
  | none => s.ticketMissing tag

def State.doTicketRead (tag : Byte) (ps : Bytes) (s : State) : State :=
  match ps with
  | x :: a :: b :: _ =>
    if x = 0 then s.answerTicket tag (s.ticketNumbered (pair a b))
    else if x = 1 then s.answerTicket tag (s.ticketAfter (pair a b))
    else s.badParam tag
  | _ => s.badParam tag

/-- TICKET_READ (R176). -/
def execTicketRead (s : State) : Answer := .next (s.onCommand .ticketRead State.doTicketRead)

/-! ## TICKET_NOTE (R177) -/

def State.doTicketNote (tag : Byte) (ps : Bytes) (s : State) : State :=
  match ps with
  | a :: b :: n :: rest =>
    if 24 < n.toNat ∨ rest.length < n.toNat then s.badParam tag
    else
      match s.ticketNumbered (pair a b) with
      | none => s.ticketMissing tag
      | some t =>
        let t' := { t with note := rest.take n.toNat }
        (s.putTicket t.number t').respond tag .ok t'.bytes
  | _ => s.badParam tag

/-- TICKET_NOTE (R177). -/
def execTicketNote (s : State) : Answer := .next (s.onCommand .ticketNote State.doTicketNote)

end Sys2Proof.Machine
end

