-- ==== Sys2Proof/Machine/Resets.lean ====
section
/-! DEFINITION. Cold reset, the start-up bypass, and normal passage (R33 to R35, R186). -/

namespace Sys2Proof.Machine

/-- COLD_RESET (R33, R186): every queue is lost and every block holds its cold values, until RSTN is released. -/
def execColdReset (s : State) : Answer := .next { State.reset with pending := s.pending }

/-- The state at the release of RSTN (R1, R34, R79, R95, R165): bypass for 5 ms, the device time 0, and the records that are
written at that moment cold. The boundaries of flap units and minutes are counted from here (log entry 8). -/
def State.released (s : State) : State :=
  { s with
    phase := .bypass (after 0 Config.bypassMs)
    now := 0
    nextFlap := after 0 s.params.flapUnit
    nextMinute := after 0 60000
    lines := []
    audits := []
    chans := []
    tickets := .cold }

/-- RSTN_RELEASE (R34). -/
def execRstnRelease (s : State) : Answer :=
  match s.phase with
  | .held => .next s.released
  | .bypass _ | .normal => .next s

/-- The STARTED notice (R186). -/
def startedNotice : Notice := ⟨0, .started, 0, []⟩

/-- Normal passage begins (R35): the run counts are 0, and STARTED is placed. -/
def State.started (s : State) : State :=
  let s1 : State := { s with phase := .normal, link.portU.run := 0, link.portS.run := 0 }
  s1.placeNotice startedNotice

/-- BYPASS_END (R35). -/
def execBypassEnd (s : State) : Answer :=
  match s.phase with
  | .bypass till => if reached s.now till then .next s.started else .next s
  | .held | .normal => .next s

end Sys2Proof.Machine
end

