-- ==== Sys2Proof/Machine/Timers.lean ====
section
/-! DEFINITION. The timed events: lapses, flush offers, audit, relay, lockout, interval and head timers, flap-unit boundaries,
minutes and hours. An event whose time has not come, or whose timer does not run, changes nothing (log entry 2). -/

namespace Sys2Proof.Machine

/-- HOLD_RECORD_LAPSE (R44): the record at a place of the hold queue reaches its expiry. -/
def execHoldRecordLapse (place : Nat) (s : State) : Answer :=
  match s.hold[place]? with
  | some r => if reached s.now r.expiry then .next (s.lapse place r) else .next s
  | none => .next s

/-- FLUSH_OFFER (R46): the flush of a line goes on. -/
def execFlushOffer (line : Nat) (s : State) : Answer := .next (s.flushOn line)

/-- AUDIT_TIMER_EXPIRY (R12): the audit flag is cleared, and the circuits keep their conditions. -/
def execAuditTimerExpiry (card : Nat) (s : State) : Answer :=
  if (s.audit card).timer.due s.now then .next (s.setAudit card .cold) else .next s

/-- TAP_CONFIRM_TIMER_EXPIRY (R58). -/
def execTapConfirmTimerExpiry (bus : Nat) (s : State) : Answer :=
  match (s.bus bus).state, (s.bus bus).commanded with
  | .claimed h, some line =>
    if (s.bus bus).confirm.due s.now ∧ (s.chan h).stage = .tapping then .next (s.noMake h line) else .next s
  | _, _ => .next s

/-- RELEASE_CONFIRM_TIMER_EXPIRY (R62). -/
def execReleaseConfirmTimerExpiry (bus : Nat) (s : State) : Answer :=
  match (s.bus bus).state, (s.bus bus).commanded with
  | .claimed h, some line =>
    if (s.bus bus).confirm.due s.now ∧ (s.chan h).stage = .releasing then .next (s.timeOutRelease h bus line).settle
    else .next s
  | _, _ => .next s

/-- RESTART_RELEASE_TIMEOUT (R73): the stuck-relay path of R62, steps 1 to 3. -/
def execRestartReleaseTimeout (bus : Nat) (s : State) : Answer :=
  match (s.bus bus).state, (s.bus bus).commanded with
  | .claimedRestart, some line =>
    if (s.bus bus).confirm.due s.now then .next (s.stickRelay bus line) else .next s
  | _, _ => .next s

/-- STRAY_RELEASE_TIMER_EXPIRY (R65). -/
def execStrayReleaseTimerExpiry (bus : Nat) (s : State) : Answer :=
  match (s.bus bus).stray with
  | some y => if y.timer.due s.now then .next (s.strayTimeout bus y.line) else .next s
  | none => .next s

/-- LOCKOUT_END (R67). -/
def execLockoutEnd (bus : Nat) (s : State) : Answer :=
  match (s.bus bus).state with
  | .lockout till => if reached s.now till then .next (s.lockoutOver bus).settle else .next s
  | _ => .next s

/-- The interval timer has run out. -/
def State.intervalDue (s : State) : Bool :=
  match s.sweep.timer with
  | some e => reached s.now e
  | none => false

/-- INTERVAL_TIMER_EXPIRY (R151, R152): in WAITING the next pass starts; in PAUSED the pass start waits. -/
def execIntervalTimerExpiry (s : State) : Answer :=
  if s.intervalDue then
    match s.sweep.state with
    | .waiting => .next s.runPass
    | .paused => .next { s with sweep.timer := none, sweep.startWaits := true }
    | .stopped | .running | .draining => .next s
  else .next s

/-- The head timer of a channel has run out. -/
def Intake.headDue (i : Intake) (now : Time) : Bool :=
  match i.timer with
  | some e => reached now e
  | none => false

/-- HEAD_TIMER_EXPIRY (R99). -/
def execHeadTimerExpiry (channel : Nat) (s : State) : Answer :=
  if (s.chan channel).stage.accepting ∧ (s.chan channel).intake.headDue s.now then .next (s.headSilent channel).settle
  else .next s

/-- All flap interval counters advance (R13); the next boundary comes one flap unit later. -/
def State.flapBoundary (s : State) : State :=
  { s with
    lines := Table.mapListed LineRec.cold LineRec.tick s.lines
    nextFlap := after s.nextFlap s.params.flapUnit }

/-- FLAP_UNIT_BOUNDARY (R13). -/
def execFlapUnitBoundary (s : State) : Answer :=
  match s.phase with
  | .held => .next s
  | .bypass _ | .normal => if reached s.now s.nextFlap then .next s.flapBoundary else .next s

/-- The minute counter advances; at a nonzero multiple of 60 the hour tick is due (R125, R185). -/
def State.nextMinuteComes (s : State) : State :=
  let m := s.minute + 1
  { s with
    minute := m
    nextMinute := after s.nextMinute 60000
    hourDue := s.hourDue || decide (m ≠ 0 ∧ m.toNat % 60 = 0) }

/-- MINUTE_COUNTER_ADVANCE (R185). -/
def execMinuteCounterAdvance (s : State) : Answer :=
  match s.phase with
  | .held => .next s
  | .bypass _ | .normal => if reached s.now s.nextMinute then .next s.nextMinuteComes else .next s

/-- HOUR_TICK (R125). -/
def execHourTick (s : State) : Answer :=
  if s.hourDue then .next { s with hourDue := false }.tickHour else .next s

end Sys2Proof.Machine
end

