-- ==== Sys2Proof/Machine/Dispatch.lean ====
section
/-! DEFINITION. The dispatch of a command to its meaning, one arm for each row of spec/opcode_table.json. -/

namespace Sys2Proof.Machine

def exec (i : Instr) (s : State) : Host.Outcome State Fault Refusal :=
  match i with
  | .coldReset => Sys2Proof.Machine.execColdReset s
  | .rstnRelease => Sys2Proof.Machine.execRstnRelease s
  | .bypassEnd => Sys2Proof.Machine.execBypassEnd s
  | .frameArrivesPortU bytes => Sys2Proof.Machine.execFrameArrivesPortU bytes s
  | .frameArrivesPortS bytes => Sys2Proof.Machine.execFrameArrivesPortS bytes s
  | .creditAnnouncement port credit => Sys2Proof.Machine.execCreditAnnouncement port credit s
  | .frameLeavesPort port => Sys2Proof.Machine.execFrameLeavesPort port s
  | .sOwnOfferEnters => Sys2Proof.Machine.execSOwnOfferEnters s
  | .holdRecordLapse place => Sys2Proof.Machine.execHoldRecordLapse place s
  | .flushOffer line => Sys2Proof.Machine.execFlushOffer line s
  | .auditTimerExpiry card => Sys2Proof.Machine.execAuditTimerExpiry card s
  | .tapConfirmTimerExpiry bus => Sys2Proof.Machine.execTapConfirmTimerExpiry bus s
  | .releaseConfirmTimerExpiry bus => Sys2Proof.Machine.execReleaseConfirmTimerExpiry bus s
  | .restartReleaseTimeout bus => Sys2Proof.Machine.execRestartReleaseTimeout bus s
  | .strayReleaseTimerExpiry bus => Sys2Proof.Machine.execStrayReleaseTimerExpiry bus s
  | .lockoutEnd bus => Sys2Proof.Machine.execLockoutEnd bus s
  | .intervalTimerExpiry => Sys2Proof.Machine.execIntervalTimerExpiry s
  | .headTimerExpiry channel => Sys2Proof.Machine.execHeadTimerExpiry channel s
  | .flapUnitBoundary => Sys2Proof.Machine.execFlapUnitBoundary s
  | .minuteCounterAdvance => Sys2Proof.Machine.execMinuteCounterAdvance s
  | .hourTick => Sys2Proof.Machine.execHourTick s
  | .unknownCommand => Sys2Proof.Machine.execUnknownCommand s
  | .loadLines => Sys2Proof.Machine.execLoadLines s
  | .lineRead => Sys2Proof.Machine.execLineRead s
  | .inhibit => Sys2Proof.Machine.execInhibit s
  | .clearHazard => Sys2Proof.Machine.execClearHazard s
  | .loadBusmap => Sys2Proof.Machine.execLoadBusmap s
  | .clearStuck => Sys2Proof.Machine.execClearStuck s
  | .loadStep => Sys2Proof.Machine.execLoadStep s
  | .loadPlan => Sys2Proof.Machine.execLoadPlan s
  | .test => Sys2Proof.Machine.execTest s
  | .abort => Sys2Proof.Machine.execAbort s
  | .returnHead => Sys2Proof.Machine.execReturnHead s
  | .loadProfile => Sys2Proof.Machine.execLoadProfile s
  | .calibrate => Sys2Proof.Machine.execCalibrate s
  | .setCalCoef => Sys2Proof.Machine.execSetCalCoef s
  | .sweepLoad => Sys2Proof.Machine.execSweepLoad s
  | .sweepStart => Sys2Proof.Machine.execSweepStart s
  | .sweepStop => Sys2Proof.Machine.execSweepStop s
  | .sweepPause => Sys2Proof.Machine.execSweepPause s
  | .sweepResume => Sys2Proof.Machine.execSweepResume s
  | .sweepMark => Sys2Proof.Machine.execSweepMark s
  | .suspect => Sys2Proof.Machine.execSuspect s
  | .ticketRead => Sys2Proof.Machine.execTicketRead s
  | .ticketAck => Sys2Proof.Machine.execTicketAck s
  | .ticketClose => Sys2Proof.Machine.execTicketClose s
  | .ticketNote => Sys2Proof.Machine.execTicketNote s
  | .setParam => Sys2Proof.Machine.execSetParam s
  | .status => Sys2Proof.Machine.execStatus s
  | .restart => Sys2Proof.Machine.execRestart s
  | .receptionBrokenOff port => Sys2Proof.Machine.execReceptionBrokenOff port s

end Sys2Proof.Machine
end

