-- ==== Sys2Proof/Machine/Idle.lean ====
section
/-! DEFINITION. What the part does by itself when no command waits (log entry 1): the acts of its own that can be taken now, and
the passing of a millisecond. -/

namespace Sys2Proof.Machine

/-- A list with one command, or none. -/
def whenever (p : Bool) (c : Instr) : List Instr := if p then [c] else []

/-- A flush can offer its next record now (R46). -/
def State.flushReady (s : State) (f : Flush) : Bool :=
  f.onOffer.isNone && s.holdsFor f.line && !s.transitHolds f.line

/-- The places of the hold queue whose records are due (R44). -/
def dueRecords (now : Time) : Nat → List HoldRec → List Instr
  | _, [] => []
  | place, r :: rest => whenever (reached now r.expiry) (.holdRecordLapse place) ++ dueRecords now (place + 1) rest

/-- The bus timer that is due (R58, R62, R67, R73). -/
def State.busActs (s : State) (b : Nat) : List Instr :=
  let r := s.bus b
  let due := r.confirm.due s.now && r.commanded.isSome
  let own := match r.state with
    | .claimed h =>
      whenever (due && (s.chan h).stage == .tapping) (.tapConfirmTimerExpiry b)
        ++ whenever (due && (s.chan h).stage == .releasing) (.releaseConfirmTimerExpiry b)
    | .claimedRestart => whenever due (.restartReleaseTimeout b)
    | .lockout till => whenever (reached s.now till) (.lockoutEnd b)
    | .free | .outOfService => []
  let stray := match r.stray with
    | some y => whenever (y.timer.due s.now) (.strayReleaseTimerExpiry b)
    | none => []
  own ++ stray

/-- The command the Command Unit would take now (R178). -/
def State.commandAct (s : State) : List Instr :=
  match s.desk.commands with
  | [] => []
  | f :: _ => whenever s.canTake (deskCommand f)

/-- The acts that come with the time base (R13, R35, R125, R185). -/
def State.clockActs (s : State) : List Instr :=
  let ticks :=
    whenever (reached s.now s.nextFlap) .flapUnitBoundary ++ whenever (reached s.now s.nextMinute) .minuteCounterAdvance
  match s.phase with
  | .held => []
  | .bypass till => whenever (reached s.now till) .bypassEnd ++ ticks
  | .normal => ticks ++ whenever s.hourDue .hourTick

/-- Every act of the part that can be taken now. -/
def State.ownActs (s : State) : List Instr :=
  whenever (!s.link.offers.isEmpty && decide (s.link.sOwn.length < Config.sOwnRoom)) .sOwnOfferEnters
    ++ (s.flushes.filter s.flushReady).map (fun f => .flushOffer f.line)
    ++ s.commandAct
    ++ dueRecords s.now 0 s.hold
    ++ (s.audits.filter fun a => a.2.timer.due s.now).map (fun a => .auditTimerExpiry a.1)
    ++ allBuses.flatMap s.busActs
    ++ whenever (s.intervalDue && (s.sweep.state == .waiting || s.sweep.state == .paused)) .intervalTimerExpiry
    ++ (allChannels.filter fun h => (s.chan h).stage.accepting && (s.chan h).intake.headDue s.now).map .headTimerExpiry
    ++ s.clockActs

/-- A millisecond passes; while RSTN is low no time is counted (R34). -/
def State.passTime (s : State) : State :=
  match s.phase with
  | .held => s
  | .bypass _ | .normal => { s with now := s.now + 1 }

/-- With no command waiting, one act of the part that can be taken is put in the queue, the choice among several being free; if
there is none, a millisecond passes (log entries 1 and 5). -/
def State.idle (s : State) : State :=
  match s.ownActs with
  | [] => s.passTime
  | [a] => { s with pending := [a] }
  | a :: b :: rest =>
    let acts := a :: b :: rest
    { s with pending := [acts.getD (Config.freeChoice s.choice % acts.length) a], choice := s.choice + 1 }

end Sys2Proof.Machine
end

