-- ==== Sys2Proof/Safety.lean ====
section
/-! DEFINITION. The terms the claims use: the invariants of a sound state, a command that is ready to be taken, and the state a
response leaves. -/

namespace Sys2Proof.Machine

/-! ## Sound states -/

/-- Every numbered store is in canonical form: numbers strictly rising, no cold record listed (log entry 34). -/
structure State.Canonical (s : State) : Prop where
  lines : Table.wf LineRec.cold s.lines = true
  audits : Table.wf Audit.cold s.audits = true
  buses : Table.wf Bus.cold s.buses = true
  steps : Table.wf (none : Option StepRec) s.steps = true
  plans : Table.wf (none : Option Nat) s.plans = true
  chans : Table.wf Channel.cold s.chans = true
  cal : Table.wf HeadCal.cold s.cal = true
  limits : Table.wf (0 : Nat) s.limits = true

/-- Every queue and collection lies within the room the spec gives it (R27, R29, R41, R149, R156, R157, R170, R178). -/
structure State.WithinRooms (s : State) : Prop where
  down : s.link.down.length ≤ 16
  up : s.link.up.length ≤ 16
  sOwn : s.link.sOwn.length ≤ 16
  commands : s.desk.commands.length ≤ 8
  hold : s.hold.length ≤ 32
  revisits : s.sweep.revisits.length ≤ 64
  suspects : s.sweep.suspects.length ≤ 16
  ranges : s.sweep.ranges.length ≤ 32
  latchedRanges : s.sweep.config.ranges.length ≤ 32
  tickets : s.tickets.entries.length ≤ 256

/-- The responses a channel owes: one for an ABORT that waits for the end of its test, one for a calibration run (R180, R181). -/
def Channel.owed (c : Channel) : Nat := (if c.pendingAbort.isSome then 1 else 0) + (if c.run.isSome then 1 else 0)

/-- The responses the channels owe (R181). -/
def State.owed (s : State) : Nat := (s.chans.map fun e => e.2.owed).sum

/-- The notice queue is within its room (R181): its entries and the reservations number at most 64 and its unsolicited entries at most
56, and there is a reservation for every response the channels owe and `more` besides, as for a command in hand. The channel records
are in canonical form. -/
structure State.NoticesHeld (more : Nat) (s : State) : Prop where
  chans : Table.wf Channel.cold s.chans = true
  unsolicited : s.desk.notices.countP (fun n => n.kind != .response) ≤ 56
  room : s.desk.notices.length + s.desk.reservations ≤ 64
  reserved : s.owed + more ≤ s.desk.reservations

/-- The notice queue between two acts: no command is in hand. -/
abbrev State.NoticesWithinRoom (s : State) : Prop := s.NoticesHeld 0

/-- The entry names this line (R17). -/
def Ticket.names (line : Nat) (t : Ticket) : Bool := t.kind == .line && t.subject == line

/-- The Ticket Table is sound (R166): one entry for any subject and class, numbers distinct and in 1 to 65535, and each line's
open-ticket count the number of entries naming it. The next number lies in 1 to 65535, the room is not exceeded (R170), and the line
records are in canonical form. -/
structure State.TicketsSound (s : State) : Prop where
  lines : Table.wf LineRec.cold s.lines = true
  room : s.tickets.entries.length ≤ 256
  distinctFaults : s.tickets.entries.Pairwise
    fun t u => ¬ (t.kind = u.kind ∧ t.subject = u.subject ∧ t.cls = u.cls)
  distinctNumbers : s.tickets.entries.Pairwise fun t u => t.number ≠ u.number
  numbers : ∀ t ∈ s.tickets.entries, 1 ≤ t.number ∧ t.number ≤ 65535
  next : 1 ≤ s.tickets.nextNumber ∧ s.tickets.nextNumber ≤ 65535
  counts : ∀ l, (s.line l).ticketCount = s.tickets.entries.countP (Ticket.names l)

/-- The contexts on the suspend list and the channels with ROUTINE tests number at most 4 (R154). -/
def State.RoutineWithinFour (s : State) : Prop := s.sweep.suspended.length + s.routineCount ≤ 4

/-- A channel in TAPPING to MEASURING holds a test and a bus (R79), and its exposure stands below the limit (R143); the limit
itself is at least 1 (R184). -/
structure State.ExposureBelowLimit (s : State) : Prop where
  limit : 1 ≤ s.params.elim
  holds : ∀ h, h < 4 → (s.chan h).stage.active = true → (s.chan h).test.isSome = true ∧ (s.chan h).bus.isSome = true
  below : ∀ h, h < 4 → (s.chan h).stage.active = true → (s.chan h).exposure < s.params.elim

/-- A line of class 0 is UNKNOWN or CARD_DOWN (R2); the line records are in canonical form. -/
structure State.UnequippedUntracked (s : State) : Prop where
  lines : Table.wf LineRec.cold s.lines = true
  condition : ∀ l, (s.line l).cls = 0 → (s.line l).condition = .unknown ∨ (s.line l).condition = .cardDown

/-- Every line named by a FOREIGN_VOLTAGE entry has its hazard flag set (R16). Such an entry names a line (R144), the entries of the table
differ and are counted (R166), and no loaded step and no result on record carries that class, which only a trip raises (R74, R144). -/
structure State.HazardWithTicket (s : State) : Prop where
  tickets : s.TicketsSound
  hazard : ∀ t ∈ s.tickets.entries, t.cls = .foreignVoltage → t.kind = .line ∧ (s.line t.subject).hazard = true
  steps : ∀ i r, s.stepRec i = some r → r.cls ≠ .foreignVoltage
  running : ∀ h t, (s.chan h).test = some t → ∀ r ∈ t.results, r.cls ≠ .foreignVoltage
  suspended : ∀ c ∈ s.sweep.suspended, ∀ r ∈ c.results, r.cls ≠ .foreignVoltage

/-! ## Desk commands -/

/-- The Command Unit finds command `c` at the head of its queue, with this tag and these parameter bytes and `rest` behind it,
and can take it: normal passage, no ABORT awaiting completion, room for a response (R178, R181). -/
structure State.Ready (s : State) (c : Instr) (tag : Byte) (ps : Bytes) (rest : List Bytes) : Prop where
  normal : s.phase = .normal
  noAbort : ∀ h ∈ allChannels, (s.chan h).pendingAbort = none
  room : s.desk.notices.length + s.desk.reservations < 64
  head : ∃ f, s.desk.commands = f :: rest ∧ deskTag f = tag ∧ deskCommand f = c ∧ deskParams f = ps

/-- A state in which one command has left the queue and its RESPONSE stands at the tail of the notice queue; Port U gives an open
slot (R178, R179, R181, R31). Everything else is as in `s`. -/
def State.answered (s : State) (rest : List Bytes) (tag : Byte) (r : Result) (body : Bytes) : State :=
  { s with
    desk.commands := rest
    desk.notices := s.desk.notices ++ [⟨tag, .response, r.code, body⟩]
    link.portU := s.link.portU.giveSlot true (!s.link.up.isEmpty) false }

/-- The fewest parameter bytes a desk command carries (R37 and the command's own rule); none for a command without parameters
and for a row that is no desk command. -/
def fewestBytes : Instr → Option Nat
  | .loadLines => some 3
  | .lineRead => some 2
  | .inhibit => some 3
  | .clearHazard => some 2
  | .loadBusmap => some 3
  | .clearStuck => some 1
  | .loadStep => some 18
  | .loadPlan => some 2
  | .test => some 7
  | .abort => some 2
  | .returnHead => some 1
  | .loadProfile => some 3
  | .calibrate => some 1
  | .setCalCoef => some 6
  | .sweepLoad => some 1
  | .sweepMark => some 3
  | .suspect => some 3
  | .ticketRead => some 3
  | .ticketAck => some 2
  | .ticketClose => some 2
  | .ticketNote => some 3
  | .setParam => some 5
  | .coldReset | .rstnRelease | .bypassEnd | .frameArrivesPortU _ | .frameArrivesPortS _
  | .creditAnnouncement _ _ | .frameLeavesPort _ | .sOwnOfferEnters | .holdRecordLapse _ | .flushOffer _
  | .auditTimerExpiry _ | .tapConfirmTimerExpiry _ | .releaseConfirmTimerExpiry _ | .restartReleaseTimeout _
  | .strayReleaseTimerExpiry _ | .lockoutEnd _ | .intervalTimerExpiry | .headTimerExpiry _ | .flapUnitBoundary
  | .minuteCounterAdvance | .hourTick | .unknownCommand | .sweepStart | .sweepStop | .sweepPause | .sweepResume
  | .status | .restart | .receptionBrokenOff _ => none

/-- The row is a desk command: the Command Unit takes it from the command queue (R178, R179). -/
def isDeskCommand : Instr → Bool
  | .unknownCommand | .sweepStart | .sweepStop | .sweepPause | .sweepResume | .status | .restart => true
  | c => (fewestBytes c).isSome

/-- An entry of LOAD_LINES as the desk sends it: class, tip profile, ring profile, inhibit value (R3). -/
def LineEntry.bytes (e : LineEntry) : Bytes :=
  [BitVec.ofNat 8 e.cls, BitVec.ofNat 8 e.tip, BitVec.ofNat 8 e.ring, if e.inhibit then 1 else 0]

/-- A range of SWEEP_LOAD as the desk sends it: first line, last line, plan (R149). -/
def SweepRange.bytes (r : SweepRange) : Bytes := byte2 r.first ++ byte2 r.last ++ [BitVec.ofNat 8 r.plan]

/-! ## Orders on their way -/

/-- The state after an ORDER has been committed toward Port S, by the rule's own words (R2, R7): on a line of nonzero class
RING_START makes IDLE and UNKNOWN RINGING, and RING_STOP makes RINGING IDLE. -/
def State.afterOrder (s : State) (f : Bytes) : State :=
  match readOrder f with
  | none => s
  | some o =>
    let r := s.line o.line
    if r.cls = 0 then s
    else s.setLine o.line { r with condition :=
      if o.code = .ringStart ∧ r.condition ∈ [Condition.idle, .unknown] then .ringing
      else if o.code = .ringStop ∧ r.condition = .ringing then .idle
      else r.condition }

/-- The state after the flush of a line has ended, `rest` being the other flushes: a FLUSHING line is STUCK or FREE by the stuck
mark, and any other access state, that of a restart flush, is left as it is (R46, R50). -/
def State.flushDone (s : State) (rest : List Flush) (l : Nat) (stuck : Bool) : State :=
  let u : State := { s with flushes := rest }
  if (s.line l).access = .flushing then u.setLine l { s.line l with access := if stuck then .stuck else .free } else u

/-! ## Frames of change -/

/-- Everything that waits for Port S in the part's own queue: the S-own queue, then the waiting offers (R29). -/
def State.ownFrames (s : State) : List OwnFrame := s.link.sOwn ++ s.link.offers

/-- What a port gives in a run of open slots while an own frame waits: for each slot, whether a transit frame waits and whether it
is held back (R31, R32). The transmitter is free again before each slot. -/
def slotSources : Port → List (Bool × Bool) → List (Option Source)
  | _, [] => []
  | p, w :: rest =>
    let q := p.giveSlot true w.1 w.2
    q.sending :: slotSources { q with sending := none } rest

/-- The answer is a next state that satisfies `p`. -/
def Answers (a : Answer) (p : State → Prop) : Prop := ∃ t, a = .next t ∧ p t

end Sys2Proof.Machine
end

