-- ==== Sys2Proof/Certificates/Slice0/Obligations.lean ====
section
/-! DEFINITION. The statements for the provers: what the FL416's commands and its state obey. -/

open Sys2Proof Sys2Proof.Machine

/-! ## The machine -/

/-- With a command at the front of the queue, a step takes it and runs it on the queue's rest. -/
def Obligations.StepRunsFrontCommand : Prop :=
  ∀ (c : Instr) (s : State) (rest : List Instr), s.pending = c :: rest → step s = exec c { s with pending := rest }

/-- The model's choice (log entries 1 and 5): with no command waiting, time passes if no act of the part can be taken; an act that
can be taken is put in the queue, a free choice among several. -/
def Obligations.EmptyQueueActsOrWaits : Prop :=
  ∀ s : State, s.pending = [] →
    (s.ownActs = [] → s.phase = .held → step s = .next s) ∧
    (s.ownActs = [] → s.phase ≠ .held → step s = .next { s with now := s.now + 1 }) ∧
    (s.ownActs ≠ [] → ∃ a ∈ s.ownActs, ∃ n, step s = .next { s with pending := [a], choice := n })

/-- Every command is answered with a next state, whatever the state it meets, and takes no other command out of the queue and puts none
in. -/
def Obligations.CommandsAnswerAndKeepQueue : Prop :=
  ∀ (c : Instr) (s : State), ∃ t, exec c s = .next t ∧ t.pending = s.pending

/-- What reset leaves (R1, R35, R41, R51, R74, R76, R79, R95, R124, R129, R139, R148, R165, R178, R183, R184, R185), and the values
the model names: a part held in reset (log entry 6), serial number and send credits (log entry 7), no boundary of flap units and
minutes counted yet and no hour tick due (log entries 8 and 10), and the counter of free choices (log entry 5). -/
def Obligations.ResetValues : Prop :=
  (∀ l, State.reset.line l = ⟨0, 0, 0, false, .unknown, .free, false, 0, 255, 0, 0, .unset⟩) ∧
  (∀ c, State.reset.audit c = ⟨false, .stopped⟩) ∧
  State.reset.link = ⟨[], [], [], [], 0, ⟨none, 0, 0, 0⟩, ⟨none, 0, 0, 0⟩⟩ ∧
  State.reset.desk = ⟨[], [], 0, 0⟩ ∧
  State.reset.params = ⟨250, 40, 4000, 32, 20, 6, 13107, 1000000, 30, 200, 2, .exceptions, 60, 0⟩ ∧
  State.reset.hold = [] ∧ State.reset.flushes = [] ∧
  (∀ b, State.reset.bus b = ⟨.free, 0, none, none, .stopped, none, none, false⟩) ∧
  (∀ i, State.reset.stepRec i = none) ∧ (∀ p, State.reset.plan p = none) ∧
  (∀ h, State.reset.chan h = ⟨.idle, none, false, 0, none, none, none, none, false, false, 0, 0,
    ⟨none, none, none, .awaiting, 0, 0, none, 0, 0, 0, 0, 0, false, false, none⟩, none, none, false, none, .unset⟩) ∧
  (∀ h, State.reset.headCal h = ⟨⟨false, 0, 16384, 25, 0, 10, 4, 8, false⟩, ⟨false, 0, 16384, 25, 0, 10, 4, 8, false⟩,
    ⟨false, 0, 16384, 25, 0, 10, 4, 8, false⟩⟩) ∧
  (∀ p i, State.reset.limit p i = 0) ∧
  State.reset.sweep = ⟨[], ⟨[], 2, .exceptions, 60, 0⟩, .stopped, none, 0, false, .unset, [], [], [],
    ⟨0, 0, 0, 0, 0, 0, 0, 0, 0, 0, 0⟩, none, false, false, none⟩ ∧
  State.reset.tickets = ⟨[], 1, 0, true⟩ ∧
  State.reset.phase = .held ∧ State.reset.now = 0 ∧ State.reset.minute = 0 ∧ State.reset.nextFlap = 0 ∧
  State.reset.nextMinute = 0 ∧ State.reset.hourDue = false ∧ State.reset.choice = 0 ∧ State.reset.pending = []

/-- From power-up to normal passage: COLD_RESET loses everything but the commands outside, RSTN_RELEASE begins the bypass of
5 ms, BYPASS_END begins normal passage with STARTED at the tail of the notice queue. Each does nothing in another phase (log entry
2); the boundaries are counted from the release (log entry 8).
When a time is reached is log entry 9. -/
def Obligations.ResetSequence : Prop :=
  (∀ s : State, exec .coldReset s = .next { State.reset with pending := s.pending }) ∧
  (∀ s : State, s.phase = .held → exec .rstnRelease s = .next { s with
      phase := .bypass 5, now := 0, nextFlap := BitVec.ofNat 48 s.params.flapUnit, nextMinute := 60000
      lines := [], audits := [], chans := [], tickets := ⟨[], 1, 0, true⟩ }) ∧
  (∀ s : State, s.phase ≠ .held → exec .rstnRelease s = .next s) ∧
  (∀ (s : State) (till : Time), s.phase = .bypass till → (s.now - till).toNat < 2 ^ 47 →
    exec .bypassEnd s = .next { s with
      phase := .normal
      link.portS := { s.link.portS with run := 0 }
      link.portU := ({ s.link.portU with run := 0 } : Port).giveSlot true (!s.link.up.isEmpty) false
      desk.notices := s.desk.notices ++ [⟨0, .started, 0, []⟩] }) ∧
  (∀ s : State, (∀ till, s.phase = .bypass till → 2 ^ 47 ≤ (s.now - till).toNat) → exec .bypassEnd s = .next s)

/-! ## Highway passage -/

/-- A frame that fails the form or the check, arrives beyond the credit, or is broken off is discarded: nothing changes but the
port's discard count, which rises by one and stops at 65535.
In the start-up bypass every frame but one to node 30 crosses, unread and unchecked, while its queue has room; while RSTN is low
nothing is taken. What becomes of a frame beyond the credit or too short to name its node is the model's choice (log entry 20). -/
def Obligations.FramesDiscardedOrPassedUnread : Prop :=
  ((∀ (f : Bytes) (s : State), s.phase = .normal →
      (f.length ≠ byteAt f 3 + 6 ∨ 250 < byteAt f 3 ∨ crc (f.take (4 + byteAt f 3)) ≠ wordAt f (4 + byteAt f 3) ∨
        16 ≤ s.link.down.length ∨ 8 ≤ s.desk.commands.length) →
      exec (.frameArrivesPortU f) s =
        .next { s with link.portU.discards := min 65535 (s.link.portU.discards + 1) }) ∧
    (∀ (f : Bytes) (s : State), s.phase = .normal →
      (f.length ≠ byteAt f 3 + 6 ∨ 250 < byteAt f 3 ∨ crc (f.take (4 + byteAt f 3)) ≠ wordAt f (4 + byteAt f 3) ∨
        16 ≤ s.link.up.length) →
      exec (.frameArrivesPortS f) s =
        .next { s with link.portS.discards := min 65535 (s.link.portS.discards + 1) }) ∧
    (∀ s : State, s.phase = .normal →
      exec (.receptionBrokenOff .u) s = .next { s with link.portU.discards := min 65535 (s.link.portU.discards + 1) } ∧
      exec (.receptionBrokenOff .s) s = .next { s with link.portS.discards := min 65535 (s.link.portS.discards + 1) }) ∧
    (∀ (s : State) (p : PortId), s.phase ≠ .normal → exec (.receptionBrokenOff p) s = .next s)) ∧
  (∀ (f : Bytes) (s : State),
      (s.phase = .held → exec (.frameArrivesPortU f) s = .next s ∧ exec (.frameArrivesPortS f) s = .next s) ∧
      (∀ till, s.phase = .bypass till → 2 ≤ f.length → byteAt f 1 = 30 →
        exec (.frameArrivesPortU f) s = .next s ∧ exec (.frameArrivesPortS f) s = .next s) ∧
      (∀ till, s.phase = .bypass till → (f.length < 2 ∨ byteAt f 1 ≠ 30) → s.link.down.length < 16 →
        exec (.frameArrivesPortU f) s = .next { s with
          link.down := s.link.down ++ [f]
          link.portS := s.link.portS.giveSlot (!s.link.sOwn.isEmpty) true (heldBack (s.link.down ++ [f]) s.link.sOwn) }) ∧
      (∀ till, s.phase = .bypass till → (f.length < 2 ∨ byteAt f 1 ≠ 30) → s.link.up.length < 16 →
        exec (.frameArrivesPortS f) s = .next { s with
          link.up := s.link.up ++ [f]
          link.portU := s.link.portU.giveSlot (!s.desk.notices.isEmpty) true false }))

/-- Dispatch at Port U of a frame that passes the form and the check, with room in both queues that the credit counts. What a well-formed
ORDER frame is. -/
def Obligations.PortUDispatch : Prop :=
  (∀ (f : Bytes) (s : State), s.phase = .normal → s.link.down.length < 16 → s.desk.commands.length < 8 →
     f.length = byteAt f 3 + 6 → byteAt f 3 ≤ 250 → crc (f.take (4 + byteAt f 3)) = wordAt f (4 + byteAt f 3) →
     -- a well-formed DESK frame to node 30
     (byteAt f 0 = 0x30 → byteAt f 1 = 30 → 2 ≤ byteAt f 3 →
       exec (.frameArrivesPortU f) s = .next { s with desk.commands := s.desk.commands ++ [f] }) ∧
     -- anything else of the six kinds to node 30
     (byteAt f 0 ∈ [0x10, 0x11, 0x20, 0x21, 0x30, 0x31] → byteAt f 1 = 30 → ¬ (byteAt f 0 = 0x30 ∧ 2 ≤ byteAt f 3) →
       exec (.frameArrivesPortU f) s =
         .next { s with link.portU.discards := min 65535 (s.link.portU.discards + 1) }) ∧
     -- a kind that is none of the six, or a frame to another node that is no well-formed ORDER
     (byteAt f 0 ∉ [0x10, 0x11, 0x20, 0x21, 0x30, 0x31] ∨ (byteAt f 1 ≠ 30 ∧ readOrder f = none) →
       exec (.frameArrivesPortU f) s = .next { s with
         link.down := s.link.down ++ [f]
         link.portS := s.link.portS.giveSlot (!s.link.sOwn.isEmpty) true (heldBack (s.link.down ++ [f]) s.link.sOwn) }) ∧
     -- a well-formed ORDER to another node goes to the Order Screen
     (∀ o, byteAt f 1 ≠ 30 → readOrder f = some o → exec (.frameArrivesPortU f) s = .next (s.screen f o))) ∧
  -- a well-formed ORDER
  (∀ (f : Bytes) (o : Order), readOrder f = some o ↔
      byteAt f 0 = 0x10 ∧ byteAt f 3 = 4 ∧ f.length = 10 ∧ wordAt f 4 < 4096 ∧ o.line = wordAt f 4 ∧
        (byteAt f 6, o.code) ∈ [(0x01, OrderCode.ringStart), (0x02, .ringStop), (0x03, .feedOn), (0x04, .feedOff),
          (0x05, .reverse), (0x06, .normal), (0x08, .tapConnect), (0x09, .tapRelease), (0x0C, .cardAudit)])

/-- The Order Screen: relay orders and audits are refused; orders for a FREE or STUCK line are forwarded and committed; other orders
are held, or lost with a notice when the hold queue is full; a held RING_START gives the yield trigger unless the line is
FLUSHING. The cause of ORDER_LAPSED is one byte (log entry 39), and the order code and the argument of both notices are one byte each
(log entry 42). -/
def Obligations.OrderScreen : Prop :=
  ∀ (f : Bytes) (o : Order) (s : State), s.phase = .normal → readOrder f = some o →
    (o.code ∈ [OrderCode.tapConnect, .tapRelease, .cardAudit] →
      s.screen f o = s.notify .orderRefused (byte2 o.line ++ byte1 (byteAt f 6) ++ byte1 (byteAt f 7))) ∧
    (o.code ∉ [OrderCode.tapConnect, .tapRelease, .cardAudit] →
      ((s.line o.line).access ∈ [Access.free, .stuck] →
        s.screen f o = { s with
          link.down := s.link.down ++ [f]
          link.portS := s.link.portS.giveSlot (!s.link.sOwn.isEmpty) true (heldBack (s.link.down ++ [f]) s.link.sOwn)
          lines := (s.screen f o).lines } ∧
        ∀ m, (s.screen f o).line m = { s.line m with condition :=
          if m = o.line ∧ (s.line m).cls ≠ 0 then
            if o.code = .ringStart ∧ (s.line m).condition ∈ [Condition.idle, .unknown] then .ringing
            else if o.code = .ringStop ∧ (s.line m).condition = .ringing then .idle
            else (s.line m).condition
          else (s.line m).condition }) ∧
      ((s.line o.line).access ∉ [Access.free, .stuck] → s.hold.length < 32 →
        (o.code ≠ .ringStart ∨ (s.line o.line).access = .flushing →
          s.screen f o = { s with
            hold := s.hold ++ [⟨f, o.line, s.now, s.now + BitVec.ofNat 48 s.params.tHold⟩] }) ∧
        (o.code = .ringStart → (s.line o.line).access ≠ .flushing →
          s.screen f o = ({ s with
            hold := s.hold ++ [⟨f, o.line, s.now, s.now + BitVec.ofNat 48 s.params.tHold⟩] } : State).yieldTrigger
              o.line)) ∧
      ((s.line o.line).access ∉ [Access.free, .stuck] → 32 ≤ s.hold.length →
        s.screen f o =
          s.notify .orderLapsed (byte1 2 ++ (byte2 o.line ++ byte1 (byteAt f 6) ++ byte1 (byteAt f 7)))))

/-- Dispatch at Port S of a frame that passes the form and the check, with room in the upstream transit queue. Each act ends with
the Sweep Unit's judgements (log entry 12).
What a SCAN and a SAMPLE frame say, read at their full width (log entry 31), and which block each scan event goes to. -/
def Obligations.PortSDispatch : Prop :=
  (∀ (f : Bytes) (s : State), s.phase = .normal → s.link.up.length < 16 →
     f.length = byteAt f 3 + 6 → byteAt f 3 ≤ 250 → crc (f.take (4 + byteAt f 3)) = wordAt f (4 + byteAt f 3) →
     -- a well-formed SCAN is read; relay confirmations and scans to node 30 end here, the others go on upstream
     (∀ x, readScan f = some x → (x.event ∈ [ScanEvent.tapMade, .tapBroken] ∨ byteAt f 1 = 30) →
       exec (.frameArrivesPortS f) s = .next (s.readScanEvent x).settle) ∧
     (∀ x, readScan f = some x → x.event ∉ [ScanEvent.tapMade, .tapBroken] → byteAt f 1 ≠ 30 →
       exec (.frameArrivesPortS f) s = .next ((s.readScanEvent x).enterUp f).settle) ∧
     -- a well-formed SAMPLE to node 30 goes to Sample Intake
     (∀ x, readSample f = some x → byteAt f 1 = 30 →
       exec (.frameArrivesPortS f) s = .next (s.takeSample x).settle) ∧
     -- any other frame of the six kinds to node 30 is discarded
     (byteAt f 0 ∈ [0x10, 0x11, 0x20, 0x21, 0x30, 0x31] → byteAt f 1 = 30 → readScan f = none → readSample f = none →
       exec (.frameArrivesPortS f) s =
         .next ({ s with link.portS.discards := min 65535 (s.link.portS.discards + 1) } : State).settle) ∧
     -- every other frame crosses
     (readScan f = none → (byteAt f 1 ≠ 30 ∨ byteAt f 0 ∉ [0x10, 0x11, 0x20, 0x21, 0x30, 0x31]) →
       exec (.frameArrivesPortS f) s = .next ({ s with
         link.up := s.link.up ++ [f]
         link.portU := s.link.portU.giveSlot (!s.desk.notices.isEmpty) true false } : State).settle)) ∧
  -- what is read, and by whom
  (∀ (s : State) (x : Scan),
      (x.event ∈ [ScanEvent.loopClosed, .loopOpen, .ringTripped] → s.readScanEvent x = s.loopEvent x.line x.event) ∧
      (x.event = .tapMade → s.readScanEvent x = s.tapMade x.line x.argument) ∧
      (x.event = .tapBroken → s.readScanEvent x = s.tapBroken x.line x.argument) ∧
      (x.event ∈ [ScanEvent.cardFault, .cardAbsent] → s.readScanEvent x = s.cardDown (x.line / 16)) ∧
      (x.event = .cardOk → s.readScanEvent x = s.cardOk (x.line / 16)) ∧
      (x.event = .cardState → s.readScanEvent x = s.cardState (x.line / 16) (x.argument * 256 + x.bitmap))) ∧
  (∀ (f : Bytes) (x : Scan), readScan f = some x ↔
      byteAt f 0 = 0x11 ∧ byteAt f 3 = 5 ∧ wordAt f 4 < 4096 ∧ x.line = wordAt f 4 ∧ x.argument = byteAt f 7 ∧
        x.bitmap = byteAt f 8 ∧ (byteAt f 6, x.event) ∈ [(0x01, ScanEvent.loopClosed), (0x02, .loopOpen),
          (0x03, .ringTripped), (0x08, .tapMade), (0x09, .tapBroken), (0x10, .cardFault), (0x11, .cardOk),
          (0x12, .cardAbsent), (0x13, .cardState)]) ∧
  (∀ (f : Bytes) (x : Sample), readSample f = some x ↔
      byteAt f 0 = 0x20 ∧ byteAt f 3 = 68 ∧ x.head = byteAt f 4 ∧ x.epoch = byteAt f 5 ∧ x.sequence = byteAt f 6 ∧
        x.temp = (f.getD 7 0).toInt ∧ x.pairs = samplePairs ((f.drop 8).take 64)) ∧
  (∀ (a b c d : Byte) (rest : Bytes), samplePairs (a :: b :: c :: d :: rest) =
      ((BitVec.ofNat 16 (a.toNat * 256 + b.toNat)).toInt, (BitVec.ofNat 16 (c.toNat * 256 + d.toNat)).toInt) ::
        samplePairs rest)

/-- The neighbour's announcement is the port's send credit, and an open slot is given at once.
A transit frame leaves a port: the head of its queue is gone, one unit of credit is used (at the departure: log entry 4), and the
next slot is given. A port that sends nothing has nothing to lose, and a part with RSTN low takes no announcement (log entry 2). -/
def Obligations.CreditAndTransitDepartures : Prop :=
  (∀ (n : Nat) (s : State),
      (s.phase = .held → exec (.creditAnnouncement .u n) s = .next s ∧ exec (.creditAnnouncement .s n) s = .next s) ∧
      (s.phase ≠ .held →
        exec (.creditAnnouncement .u n) s = .next { s with
          link.portU := ({ s.link.portU with credit := n } : Port).giveSlot (!s.desk.notices.isEmpty)
            (!s.link.up.isEmpty) false } ∧
        exec (.creditAnnouncement .s n) s = .next { s with
          link.portS := ({ s.link.portS with credit := n } : Port).giveSlot (!s.link.sOwn.isEmpty)
            (!s.link.down.isEmpty) (heldBack s.link.down s.link.sOwn) })) ∧
  (∀ s : State, s.phase ≠ .held →
      (s.link.portS.sending = some .transit → exec (.frameLeavesPort .s) s = .next { s with
        link.down := s.link.down.tail
        link.portS := ({ s.link.portS with sending := none, credit := s.link.portS.credit - 1 } : Port).giveSlot
          (!s.link.sOwn.isEmpty) (!s.link.down.tail.isEmpty) (heldBack s.link.down.tail s.link.sOwn) }) ∧
      (s.link.portU.sending = some .transit → exec (.frameLeavesPort .u) s = .next { s with
        link.up := s.link.up.tail
        link.portU := ({ s.link.portU with sending := none, credit := s.link.portU.credit - 1 } : Port).giveSlot
          (!s.desk.notices.isEmpty) (!s.link.up.tail.isEmpty) false }) ∧
      (s.link.portS.sending = none → exec (.frameLeavesPort .s) s = .next s) ∧
      (s.link.portU.sending = none → exec (.frameLeavesPort .u) s = .next s))

/-- The arbiter: an own frame takes an open slot when no transit frame waits or the run count stands at 4, or when the transit head
is an ORDER for a line that an ORDER of the S-own queue names; otherwise a waiting transit frame takes it. No slot is given while
the transmitter is busy or the credit is zero.
While an own frame waits, at most four transit frames are sent before it: of any five slots given, one is an own slot.
The transit head waits exactly when it is an ORDER and any frame of the S-own queue, not its head alone, is an ORDER for the same
line; an ORDER, here, is a well-formed one (log entry 19). At Port S the S-own and the downstream transit queues wait, with that rule
per line; at Port U the notices and the upstream transit queue, without it. While RSTN is low no slot is given. -/
def Obligations.ArbiterGivesSlots : Prop :=
  (∀ (p : Port) (own transit back : Bool),
      ((p.sending ≠ none ∨ p.credit = 0 ∨ (own = false ∧ transit = false)) → p.giveSlot own transit back = p) ∧
      (p.sending = none → 0 < p.credit →
        (own = true → (transit = false ∨ p.run = 4) →
          p.giveSlot own transit back = { p with sending := some .own, run := 0 }) ∧
        (transit = true → ¬ (own = true ∧ p.run = 4) → back = false →
          p.giveSlot own transit back = { p with sending := some .transit, run := min 4 (p.run + 1) }) ∧
        (transit = true → ¬ (own = true ∧ p.run = 4) → back = true →
          p.giveSlot own transit back = { p with sending := some .own, run := 0 }))) ∧
  (∀ (p : Port) (slots : List (Bool × Bool)), p.run ≤ 4 → p.sending = none → 0 < p.credit → slots.length = 5 →
      some Source.own ∈ slotSources p slots) ∧
  -- the transit head is an ORDER, and the S-own queue holds an ORDER for the same line
  (∀ (down : List Bytes) (own : List OwnFrame),
      (heldBack down own = true ↔ ∃ f rest o, down = f :: rest ∧ readOrder f = some o ∧
        ∃ g ∈ own, ∃ p, readOrder g.bytes = some p ∧ p.line = o.line)) ∧
  (∀ (f : Bytes) (l : Nat), isOrderFor l f = true ↔ ∃ o, readOrder f = some o ∧ o.line = l) ∧
  -- who waits at each port
  (∀ s : State,
      (s.phase = .held → s.fillS = s ∧ s.fillU = s) ∧
      (s.phase ≠ .held →
        (let back := heldBack s.link.down s.link.sOwn
         s.fillS = { s with link.portS := s.link.portS.giveSlot (!s.link.sOwn.isEmpty) (!s.link.down.isEmpty) back }) ∧
        s.fillU = { s with link.portU := s.link.portU.giveSlot (!s.desk.notices.isEmpty) (!s.link.up.isEmpty) false }))

/-- An own frame leaves Port S: its entry is freed, one unit of credit is used (at the departure: log entry 4), the next slot is given, and
the timer tied to that very frame starts at that moment (t_tap for a relay order or an audit, t_head for a directive). A timer that
is no longer tied to the frame, an audit's and a head's included, does not start (log entry 22).
The frames themselves, with their checks: TAP_CONNECT and TAP_RELEASE toward the line's shelf, DIRECTIVE IDLE, SOURCE (a level that one
signed byte holds: log entry 36) and the calibration directives toward the head. -/
def Obligations.OwnFrameLeavesAndItsTimerStarts : Prop :=
  (∀ (s : State) (f : OwnFrame) (rest : List OwnFrame), s.phase ≠ .held → s.link.portS.sending = some .own →
     s.link.sOwn = f :: rest →
     let u : State := { s with
       link.sOwn := rest
       link.portS := ({ s.link.portS with sending := none, credit := s.link.portS.credit - 1 } : Port).giveSlot
         (!rest.isEmpty) (!s.link.down.isEmpty) (heldBack s.link.down rest) }
     ((f.tie = .untied ∨ ∃ l, f.tie = .flush l) → exec (.frameLeavesPort .s) s = .next u) ∧
     (∀ b, f.tie = .confirm b →
       ((s.bus b).confirm = .tied f.serial → exec (.frameLeavesPort .s) s =
         .next (u.setBus b { s.bus b with confirm := .running (s.now + BitVec.ofNat 48 s.params.tTap) })) ∧
       ((s.bus b).confirm ≠ .tied f.serial → exec (.frameLeavesPort .s) s = .next u)) ∧
     (∀ b l, f.tie = .stray b →
       ((s.bus b).stray = some ⟨l, .tied f.serial⟩ → exec (.frameLeavesPort .s) s =
         .next (u.setBus b { s.bus b with
           stray := some ⟨l, .running (s.now + BitVec.ofNat 48 s.params.tTap)⟩ })) ∧
       ((∀ m, (s.bus b).stray ≠ some ⟨m, .tied f.serial⟩) → exec (.frameLeavesPort .s) s = .next u)) ∧
     (∀ c, f.tie = .audit c →
       ((s.audit c).timer = .tied f.serial → exec (.frameLeavesPort .s) s =
         .next (u.setAudit c { s.audit c with timer := .running (s.now + BitVec.ofNat 48 s.params.tTap) })) ∧
       ((s.audit c).timer ≠ .tied f.serial → exec (.frameLeavesPort .s) s = .next u)) ∧
     (∀ h e, f.tie = .head h e → (s.chan h).intake.tie = some f.serial → (s.chan h).stage.accepting = true →
       (s.chan h).epoch = e → exec (.frameLeavesPort .s) s =
         .next (u.setChan h { s.chan h with intake := { (s.chan h).intake with
           tie := none, timer := some (s.now + BitVec.ofNat 48 s.params.tHead) } })) ∧
     (∀ h e, f.tie = .head h e → (s.chan h).intake.tie = some f.serial →
       ¬ ((s.chan h).stage.accepting = true ∧ (s.chan h).epoch = e) → exec (.frameLeavesPort .s) s =
         .next (u.setChan h { s.chan h with intake := { (s.chan h).intake with tie := none } })) ∧
     (∀ h e, f.tie = .head h e → (s.chan h).intake.tie ≠ some f.serial →
       exec (.frameLeavesPort .s) s = .next u)) ∧
  -- the frames the part originates toward Port S, with their checks
  ((∀ kind dest source payload, makeFrame kind dest source payload =
      let f := byte1 kind ++ byte1 dest ++ byte1 source ++ byte1 payload.length ++ payload
      f ++ byte2 (crc f)) ∧
    (∀ line bus, tapConnectFrame line bus =
        makeFrame 0x10 (line / 256 + 1) 30 (byte2 line ++ byte1 0x08 ++ byte1 bus) ∧
      tapReleaseFrame line bus = makeFrame 0x10 (line / 256 + 1) 30 (byte2 line ++ byte1 0x09 ++ byte1 bus)) ∧
    (∀ h e, idleDirective h e = makeFrame 0x21 (h + 17) 30
      (byte1 h ++ byte1 e.toNat ++ byte1 0x02 ++ byte1 0 ++ byte1 0 ++ byte1 0)) ∧
    (∀ h e (r : StepRec), -128 ≤ r.level → r.level ≤ 127 → sourceDirective h e r = makeFrame 0x21 (h + 17) 30
      (byte1 h ++ byte1 e.toNat ++ byte1 0x01 ++ byte1 (match r.arrangement with | .tr => 0 | .tg => 1 | .rg => 2) ++
        byte1 (match r.range with | .high => 0 | .low => 1) ++ signed1 r.level)) ∧
    (∀ h e p, calDirective h e p = makeFrame 0x21 (h + 17) 30 (byte1 h ++ byte1 e.toNat ++
      byte1 (match p with | .zHigh => 0x10 | .zLow => 0x11 | .refV => 0x12 | .refIHigh => 0x13 | .refILow => 0x14) ++
        byte1 0 ++ byte1 0 ++ byte1 0)))

/-- An unsolicited notice enters at the tail while the unsolicited count is below 56 and the queue, with its reservations, is not full;
otherwise it is lost and counted (R181).
A notice leaves Port U: its entry is freed; if it was unsolicited and the lost count is above 0, a LOST notice with the count takes
the freed place at the tail and the count returns to 0 (R182). The credit is used at the departure (log entry 4). -/
def Obligations.NoticesAndLostCount : Prop :=
  (∀ (k : NoticeKind) (body : Bytes) (s : State), s.phase ≠ .held → k ≠ .response →
      (s.desk.notices.countP (fun n => n.kind != .response) < 56 → s.desk.notices.length + s.desk.reservations < 64 →
        s.notify k body = { s with
          desk.notices := s.desk.notices ++ [⟨0, k, 0, body⟩]
          link.portU := s.link.portU.giveSlot true (!s.link.up.isEmpty) false }) ∧
      (56 ≤ s.desk.notices.countP (fun n => n.kind != .response) ∨
          64 ≤ s.desk.notices.length + s.desk.reservations →
        s.notify k body = { s with desk.lost := min 65535 (s.desk.lost + 1) })) ∧
  (∀ (s : State) (n : Notice) (rest : List Notice), s.phase ≠ .held → s.link.portU.sending = some .own →
      s.desk.notices = n :: rest →
      (n.kind ≠ .response → 0 < s.desk.lost → exec (.frameLeavesPort .u) s = .next { s with
        desk.notices := rest ++ [⟨0, .lost, 0, byte2 s.desk.lost⟩]
        desk.lost := 0
        link.portU := ({ s.link.portU with sending := none, credit := s.link.portU.credit - 1 } : Port).giveSlot
          true (!s.link.up.isEmpty) false }) ∧
      (n.kind = .response ∨ s.desk.lost = 0 → exec (.frameLeavesPort .u) s = .next { s with
        desk.notices := rest
        link.portU := ({ s.link.portU with sending := none, credit := s.link.portU.credit - 1 } : Port).giveSlot
          (!rest.isEmpty) (!s.link.up.isEmpty) false }))

/-- The oldest waiting offer enters the S-own queue when an entry is free, and with none waiting or none free nothing changes (log entry
2). A released order is committed as it enters (R7: RING_START makes an IDLE or UNKNOWN line of nonzero class RINGING, RING_STOP a
RINGING one IDLE), and its line's flush goes on from there, whatever other flushes run; with no further record it ends.
The flush of a line, when no offer of the line is outstanding: with no record left it ends, a FLUSHING line becoming STUCK or FREE by
the stuck mark and the line of a restart flush keeping its access; with an ORDER for the line in the downstream transit queue it
waits; otherwise its oldest record becomes the line's outstanding offer, or, with room in the S-own queue and no earlier offer,
enters it and is committed, and the flush goes on with the next record in the same act. -/
def Obligations.OwnOffersAndFlushes : Prop :=
  (∀ s : State, s.link.offers = [] → exec .sOwnOfferEnters s = .next s) ∧
  (∀ (s : State) (f : OwnFrame) (rest : List OwnFrame), s.phase ≠ .held → s.link.offers = f :: rest →
      (16 ≤ s.link.sOwn.length → exec .sOwnOfferEnters s = .next s) ∧
      (s.link.sOwn.length < 16 →
        let u : State := { s with
          link.sOwn := s.link.sOwn ++ [f]
          link.offers := rest
          link.portS := s.link.portS.giveSlot true (!s.link.down.isEmpty) (heldBack s.link.down (s.link.sOwn ++ [f])) }
        ((∀ l, f.tie ≠ .flush l) → exec .sOwnOfferEnters s = .next u) ∧
        (∀ l, f.tie = .flush l →
          let v := u.afterOrder f.bytes
          ((∀ x ∈ s.flushes, x.line ≠ l) → exec .sOwnOfferEnters s = .next v) ∧
          (∀ before after out stuck, s.flushes = before ++ ⟨l, out, stuck⟩ :: after →
            (∀ x ∈ before ++ after, x.line ≠ l) →
            ((∀ q ∈ s.hold, q.line ≠ l) → exec .sOwnOfferEnters s = .next (v.flushDone (before ++ after) l stuck)) ∧
            exec .sOwnOfferEnters s =
              exec (.flushOffer l) { v with flushes := before ++ ⟨l, none, stuck⟩ :: after })))) ∧
  (∀ (s : State) (l : Nat), (∀ x ∈ s.flushes, x.line ≠ l) → exec (.flushOffer l) s = .next s) ∧
  (∀ (s : State) (l : Nat) (before after : List Flush) (out : Option HoldRec) (stuck : Bool), s.phase ≠ .held →
      s.flushes = before ++ ⟨l, out, stuck⟩ :: after → (∀ x ∈ before ++ after, x.line ≠ l) →
      (out ≠ none → exec (.flushOffer l) s = .next s) ∧
      (out = none → (∀ q ∈ s.hold, q.line ≠ l) →
        exec (.flushOffer l) s = .next (s.flushDone (before ++ after) l stuck)) ∧
      (∀ ahead r behind, out = none → s.hold = ahead ++ r :: behind → r.line = l → (∀ q ∈ ahead, q.line ≠ l) →
        (s.link.down.any (isOrderFor l) = true → exec (.flushOffer l) s = .next s) ∧
        (s.link.down.any (isOrderFor l) = false → (s.link.offers ≠ [] ∨ 16 ≤ s.link.sOwn.length) →
          exec (.flushOffer l) s = .next { s with
            hold := ahead ++ behind
            flushes := before ++ ⟨l, some r, stuck⟩ :: after
            link.serial := s.link.serial + 1
            link.offers := s.link.offers ++ [⟨r.frame, s.link.serial, .flush l⟩] }) ∧
        (s.link.down.any (isOrderFor l) = false → s.link.offers = [] → s.link.sOwn.length < 16 →
          let own := s.link.sOwn ++ [⟨r.frame, s.link.serial, .flush l⟩]
          let w := ({ s with
            hold := ahead ++ behind
            link.serial := s.link.serial + 1
            link.sOwn := own
            link.portS := s.link.portS.giveSlot true (!s.link.down.isEmpty) (heldBack s.link.down own) } :
              State).afterOrder r.frame
          ((∀ q ∈ behind, q.line ≠ l) → exec (.flushOffer l) s = .next (w.flushDone (before ++ after) l stuck)) ∧
          exec (.flushOffer l) s = exec (.flushOffer l) w)))

/-- A held record lapses at its expiry: it is removed, ORDER_LAPSED with cause TIMEOUT and the time held is offered (the cause in one byte:
log entry 39; order code and argument: log entry 42), and the order is not sent. A flush of the line with nothing left and no offer
outstanding ends, whatever other flushes run: a FLUSHING line becomes STUCK or FREE by the mark, and the line of a restart flush keeps
its access; with an offer outstanding it goes on. Before its expiry nothing happens (log entry 2).
When a time is reached is log entry 9. -/
def Obligations.HeldRecordLapses : Prop :=
  ∀ (s : State) (before behind : List HoldRec) (r : HoldRec), s.hold = before ++ r :: behind →
    (2 ^ 47 ≤ (s.now - r.expiry).toNat → exec (.holdRecordLapse before.length) s = .next s) ∧
    ((s.now - r.expiry).toNat < 2 ^ 47 →
      let u : State := ({ s with hold := before ++ behind } : State).notify .orderLapsed
        (byte1 1 ++ (byte2 (wordAt r.frame 4) ++ byte1 (byteAt r.frame 6) ++ byte1 (byteAt r.frame 7)) ++
          byte4 (s.now - r.arrival).toNat)
      (((∃ q ∈ before ++ behind, q.line = r.line) ∨ ∀ f ∈ s.flushes, f.line ≠ r.line) →
        exec (.holdRecordLapse before.length) s = .next u) ∧
      (∀ fb out stuck fa, s.flushes = fb ++ ⟨r.line, out, stuck⟩ :: fa → (∀ f ∈ fb ++ fa, f.line ≠ r.line) →
        (out ≠ none → exec (.holdRecordLapse before.length) s = .next u) ∧
        (out = none → (∀ q ∈ before ++ behind, q.line ≠ r.line) →
          exec (.holdRecordLapse before.length) s = .next (u.flushDone (fb ++ fa) r.line stuck))) ∧
      (∀ stuck, s.flushes = [⟨r.line, none, stuck⟩] → (∀ q ∈ before ++ behind, q.line ≠ r.line) →
        (s.line r.line).access = .flushing →
        exec (.holdRecordLapse before.length) s =
          .next (({ u with flushes := [] } : State).setAccess r.line (if stuck then .stuck else .free))))

/-! ## The Line Table -/

/-- Loop events: the condition of an equipped line changes by the table; a class-0 line and a dash of the table leave the state. No
other line's condition changes. An entry marked (c) is a counted transition, and a line that becomes OFF_HOOK gives the yield
trigger, after the flap detector (log entry 23).
A counted transition: the interval restarts at 0; a short one raises the flap count by one, a long one clears it; at the limit the
count returns to 0, INTERMITTENT_LOOP is raised and a FLAP entry is offered to the suspect queue. -/
def Obligations.LoopEventsAndFlaps : Prop :=
  (∀ (s : State) (l : Nat) (e : ScanEvent), e ∈ [ScanEvent.loopClosed, .loopOpen, .ringTripped] →
      let k := (s.line l).condition
      let t := s.loopEvent l e
      ((s.line l).cls = 0 ∨ k = .cardDown ∨ (e ≠ .loopOpen ∧ k = .offHook) ∨
          (e = .loopOpen ∧ k ∈ [Condition.idle, .ringing]) → t = s) ∧
      ((s.line l).cls ≠ 0 → e ≠ .loopOpen → k ∈ [Condition.unknown, .idle, .ringing] →
        (t.line l).condition = .offHook) ∧
      ((s.line l).cls ≠ 0 → e = .loopOpen → k ∈ [Condition.unknown, .offHook] → (t.line l).condition = .idle) ∧
      (∀ m, m ≠ l → (t.line m).condition = (s.line m).condition) ∧
      (e = .ringTripped → (t.line l).flapInterval = (s.line l).flapInterval ∧ (t.line l).flapCount = (s.line l).flapCount)) ∧
  (∀ (s : State) (l : Nat),
      let r := s.line l
      let n := if r.flapInterval < s.params.flapThreshold then min 15 (r.flapCount + 1) else 0
      let t := s.countedTransition l
      (n < s.params.flapLimit → t = s.setLine l { r with flapInterval := 0, flapCount := n }) ∧
      (s.params.flapLimit ≤ n →
        (t.line l).flapInterval = 0 ∧ (t.line l).flapCount = 0 ∧
          t.sweep = (s.offerSuspect l s.sweep.config.suspectPlan .flap).sweep ∧
          (s.tickets.entries.length < 256 → ∃ k ∈ t.tickets.entries,
            k.kind = .line ∧ k.subject = l ∧ k.cls = .intermittentLoop ∧ k.state ≠ .cleared ∧ k.lastSeen = s.minute) ∧
          ∀ m, m ≠ l → { t.line m with ticketCount := 0 } = { s.line m with ticketCount := 0 })) ∧
  (∀ (s : State) (l : Nat), (s.line l).cls ≠ 0 →
      let k := (s.line l).condition
      (k ∈ [Condition.unknown, .idle, .ringing] →
        s.loopEvent l .loopClosed =
          ((s.setLine l { s.line l with condition := .offHook }).countedTransition l).yieldTrigger l ∧
        s.loopEvent l .ringTripped = (s.setLine l { s.line l with condition := .offHook }).yieldTrigger l) ∧
      (k ∈ [Condition.unknown, .offHook] →
        s.loopEvent l .loopOpen = (s.setLine l { s.line l with condition := .idle }).countedTransition l))

/-- Card events: CARD_FAULT and CARD_ABSENT make the card's 16 circuits CARD_DOWN and raise CARD_FAULT; CARD_OK makes them UNKNOWN,
clears the ticket and leaves an audit outstanding. Nothing else of any line changes, but for the open-ticket count of a line whose
CLEARED entry a CARD_FAULT raise evicts.
An audit request for a card with no audit outstanding offers one CARD_AUDIT frame, of the card's circuit 0 toward its shelf's node, and
sets the card's flag with its timer tied to that frame; with an audit outstanding it changes nothing. CARD_OK makes the request.
A CARD_STATE answer: on the card's equipped circuits in UNKNOWN, IDLE or OFF_HOOK the bitmap sets the condition; the others keep
theirs; the audit flag is clear and its timer stopped. A circuit that it makes OFF_HOOK gives the yield trigger after the conditions
are set; those that end a test do so once each, in an order left open (log entry 5). -/
def Obligations.CardEventsAndAnswers : Prop :=
  (∀ (s : State) (c : Nat),
      (∀ m, { (s.cardDown c).line m with ticketCount := 0 } = { s.line m with
        condition := if m / 16 = c then .cardDown else (s.line m).condition, ticketCount := 0 }) ∧
      (∀ m, (s.cardOk c).line m = { s.line m with condition := if m / 16 = c then .unknown else (s.line m).condition }) ∧
      ((s.cardOk c).audit c).flag = true ∧
      (∀ k ∈ (s.cardOk c).tickets.entries, k.kind = .card → k.subject = c → k.cls = .cardFault →
        s.tickets.entries.Pairwise (fun a b => a.number ≠ b.number ∧
          ¬ (a.kind = b.kind ∧ a.subject = b.subject ∧ a.cls = b.cls)) → k.state = .cleared) ∧
      (s.tickets.entries.length < 256 → ∃ k ∈ (s.cardDown c).tickets.entries,
        k.kind = .card ∧ k.subject = c ∧ k.cls = .cardFault ∧ k.state ≠ .cleared ∧ k.lastSeen = s.minute)) ∧
  (∀ (s : State) (c bitmap : Nat),
      (∀ m, ((s.cardState c bitmap).line m).condition =
        if m / 16 = c ∧ (s.line m).cls ≠ 0 ∧ (s.line m).condition ∈ [Condition.unknown, .idle, .offHook] then
          (if bitmap.testBit (m % 16) then .offHook else .idle)
        else (s.line m).condition) ∧
      ((s.audit c).flag = true → (s.cardState c bitmap).audit c = ⟨false, .stopped⟩) ∧
      (∀ m, ((s.cardState c bitmap).line m).flapInterval = (s.line m).flapInterval ∧
        ((s.cardState c bitmap).line m).flapCount = (s.line m).flapCount)) ∧
  -- an audit request, and the frame it offers
  (∀ (s : State) (c : Nat),
      ((s.audit c).flag = true → s.requestAudit c = s) ∧
      ((s.audit c).flag = false → s.requestAudit c =
        (s.offer (cardAuditFrame c) (.audit c)).setAudit c ⟨true, .tied s.link.serial⟩ ∧
        (s.requestAudit c).ownFrames = s.ownFrames ++ [⟨cardAuditFrame c, s.link.serial, .audit c⟩]) ∧
      (s.cardOk c).ownFrames = s.ownFrames ++
        (if (s.audit c).flag = true then [] else [⟨cardAuditFrame c, s.link.serial, .audit c⟩]) ∧
      (s.cardOk c).audit c = (if (s.audit c).flag = true then s.audit c else ⟨true, .tied s.link.serial⟩)) ∧
  (∀ c : Nat,
      let f := byte1 0x10 ++ byte1 (c * 16 / 256 + 1) ++ byte1 30 ++ byte1 4 ++ (byte2 (c * 16) ++ byte1 0x0C ++ byte1 0)
      cardAuditFrame c = f ++ byte2 (crc f)) ∧
  -- the circuits that a CARD_STATE makes OFF_HOOK give the yield trigger, in an order left open
  (∀ (s : State) (c bitmap : Nat), ∃ (lines : Table LineRec) (order : List Nat) (n : Nat),
      let w : State := { s with lines := lines, choice := n }
      (∀ m, w.line m = { s.line m with condition :=
        if m / 16 = c ∧ (s.line m).cls ≠ 0 ∧ (s.line m).condition ∈ [Condition.unknown, .idle, .offHook] then
          (if bitmap.testBit (m % 16) then .offHook else .idle)
        else (s.line m).condition }) ∧
      order.Nodup ∧
      (∀ m, m ∈ order ↔ m / 16 = c ∧ (s.line m).cls ≠ 0 ∧ (s.line m).condition ∈ [Condition.unknown, .idle] ∧
        bitmap.testBit (m % 16) = true ∧ ∃ h t, (s.line m).access.channel = some h ∧ (s.chan h).test = some t ∧
          t.priority = .routine ∧ (s.chan h).stage.active = true) ∧
      let v := order.foldl State.yieldTrigger w
      s.cardState c bitmap = if (s.audit c).flag = true then v.setAudit c ⟨false, .stopped⟩ else v)

/-- A flap-unit boundary advances every line's interval counter by one, stopping at 255; a minute advance counts a minute and makes the
hour tick due at each nonzero multiple of 60, to be performed as an act of its own (log entry 10); an audit that runs out clears the
card's flag and nothing else. The next boundary is counted from the one before it (log entry 8). Before their time they change
nothing (log entry 2).
When a time is reached is log entry 9. -/
def Obligations.ClockEvents : Prop :=
  ∀ s : State, s.phase ≠ .held →
    ((s.now - s.nextFlap).toNat < 2 ^ 47 → Table.wf LineRec.cold s.lines = true →
      Answers (exec .flapUnitBoundary s) fun t =>
        (∀ l, t.line l = { s.line l with flapInterval := min 255 ((s.line l).flapInterval + 1) }) ∧
          t = { s with lines := t.lines, nextFlap := s.nextFlap + BitVec.ofNat 48 s.params.flapUnit }) ∧
    (2 ^ 47 ≤ (s.now - s.nextFlap).toNat → exec .flapUnitBoundary s = .next s) ∧
    ((s.now - s.nextMinute).toNat < 2 ^ 47 → exec .minuteCounterAdvance s = .next { s with
      minute := s.minute + 1
      nextMinute := s.nextMinute + 60000
      hourDue := s.hourDue || decide (s.minute + 1 ≠ 0 ∧ (s.minute + 1).toNat % 60 = 0) }) ∧
    (2 ^ 47 ≤ (s.now - s.nextMinute).toNat → exec .minuteCounterAdvance s = .next s) ∧
    (∀ c till, (s.audit c).timer = .running till → (s.now - till).toNat < 2 ^ 47 →
      exec (.auditTimerExpiry c) s = .next (s.setAudit c ⟨false, .stopped⟩)) ∧
    (∀ c, (∀ till, (s.audit c).timer = .running till → 2 ^ 47 ≤ (s.now - till).toNat) →
      exec (.auditTimerExpiry c) s = .next s)

/-! ## Test access -/

/-- A cause of release reaches a channel in TAPPING to MEASURING: the outcome is fixed, the step in progress is discarded, the line
becomes RELEASE_PENDING(ch), the epoch advances, DIRECTIVE IDLE and then TAP_RELEASE are offered, and the bus's confirm timer is
tied to the TAP_RELEASE. In any other stage it has no effect. The yield trigger is such a cause for a ROUTINE test, and none for an
URGENT one. -/
def Obligations.ReleaseBegins : Prop :=
  (∀ (s : State) (h b : Nat) (t : TestRec) (o : TestOutcome), (s.chan h).stage.active = true →
    (s.chan h).test = some t → (s.chan h).bus = some b →
    let u := s.endByCause h o
    let e := (s.chan h).epoch + 1
    u.chan h = { s.chan h with
      stage := .releasing, test := some { t with outcome := some o }, step := none, epoch := e, intake := Intake.cold } ∧
    (∀ g, g ≠ h → u.chan g = s.chan g) ∧
    u.line t.line = { s.line t.line with access := .releasePending (some h) } ∧
    (∀ m, m ≠ t.line → u.line m = s.line m) ∧
    u.bus b = { s.bus b with confirm := .tied (s.link.serial + 1) } ∧
    (∀ c, c ≠ b → u.bus c = s.bus c) ∧
    u.ownFrames = s.ownFrames ++ [⟨idleDirective h e, s.link.serial, .untied⟩,
      ⟨tapReleaseFrame t.line b, s.link.serial + 1, .confirm b⟩] ∧
    u.link.down = s.link.down ∧ u.link.up = s.link.up ∧ u.link.portU = s.link.portU ∧
    u = { s with chans := u.chans, lines := u.lines, buses := u.buses, link := u.link }) ∧
  (∀ (s : State) (h : Nat) (o : TestOutcome), (s.chan h).stage.active = false → s.endByCause h o = s) ∧
  (∀ (s : State) (l h : Nat) (t : TestRec), (s.line l).access.channel = some h → (s.chan h).test = some t →
    (t.priority = .routine → s.yieldTrigger l = s.endByCause h .yielded) ∧
    (t.priority = .urgent → s.yieldTrigger l = s)) ∧
  (∀ (s : State) (l : Nat), (s.line l).access.channel = none → s.yieldTrigger l = s)

/-- The tap: a matching TAP_MADE in TAPPING makes the line TAPPED, stops the confirm timer and begins the first repetition of the test's
first step; if the confirm timer runs out first, RELAY_NO_MAKE is raised on the line and the test is released with RELAY_FAULT. An
expiry before its time changes nothing (log entry 2). A make of the line that is confirmed already changes nothing.
The relay drops: a TAP_BROKEN of the confirmed line in SOURCING, SETTLING or MEASURING clears the confirmed line, raises
RELAY_NO_MAKE on it and releases the test with RELAY_FAULT, its release begun as any other; in TAPPING a break of no stray release
changes nothing.
When a time is reached is log entry 9. -/
def Obligations.TapConfirmed : Prop :=
  (∀ (s : State) (b h l : Nat) (t : TestRec), b < 8 → (s.bus b).state = .claimed h → (s.bus b).commanded = some l →
     (s.chan h).stage = .tapping → (s.chan h).test = some t → t.line = l → (s.chan h).bus = some b →
     (∀ r, (s.bus b).confirmed ≠ some l → s.stepRec t.startStep = some r →
       let u := s.tapMade l b
       let e := (s.chan h).epoch + 1
       u.bus b = { s.bus b with confirm := .stopped, confirmed := some l } ∧
       (u.line l).access = .tapped h ∧
       u.chan h = { s.chan h with
         stage := .sourcing, epoch := e
         step := some ⟨t.startStep, t.results.length + 1, 0, .clear, .clear⟩
         intake := { Intake.cold with tie := some s.link.serial } } ∧
       u.ownFrames = s.ownFrames ++ [⟨sourceDirective h e r, s.link.serial, .head h e⟩]) ∧
     (∀ till, (s.bus b).confirm = .running till → (s.now - till).toNat < 2 ^ 47 →
       Answers (exec (.tapConfirmTimerExpiry b) s) fun u =>
         (u.chan h).stage = .releasing ∧ (u.chan h).test = some { t with outcome := some .relayFault } ∧
         (u.line l).access = .releasePending (some h) ∧ (u.bus b).confirm = .tied (s.link.serial + 1) ∧
         u.ownFrames = s.ownFrames ++ [⟨idleDirective h ((s.chan h).epoch + 1), s.link.serial, .untied⟩,
           ⟨tapReleaseFrame l b, s.link.serial + 1, .confirm b⟩] ∧
         (s.tickets.entries.length < 256 → ∃ k ∈ u.tickets.entries,
           k.kind = .line ∧ k.subject = l ∧ k.cls = .relayNoMake ∧ k.state ≠ .cleared ∧ k.lastSeen = s.minute)) ∧
     (∀ till, (s.bus b).confirm = .running till → 2 ^ 47 ≤ (s.now - till).toNat →
       exec (.tapConfirmTimerExpiry b) s = .next s)) ∧
  (∀ (s : State) (b l : Nat), (s.bus b).confirmed = some l → s.tapMade l b = s) ∧
  -- the relay drops during the test
  (∀ (s : State) (b h l : Nat), b < 8 → (s.bus b).state = .claimed h →
      ((s.chan h).stage ∈ [Stage.sourcing, .settling, .measuring] → (s.bus b).confirmed = some l →
        s.tapBroken l b =
          ((s.setBus b { s.bus b with confirmed := none }).raise .line l .relayNoMake none).endByCause h .relayFault ∧
        ∀ t, (s.chan h).test = some t → (s.chan h).bus = some b →
          let u := s.tapBroken l b
          let e := (s.chan h).epoch + 1
          u.bus b = { s.bus b with confirmed := none, confirm := .tied (s.link.serial + 1) } ∧
          u.chan h = { s.chan h with
            stage := .releasing, test := some { t with outcome := some .relayFault }, step := none, epoch := e
            intake := Intake.cold } ∧
          (u.line t.line).access = .releasePending (some h) ∧
          u.ownFrames = s.ownFrames ++ [⟨idleDirective h e, s.link.serial, .untied⟩,
            ⟨tapReleaseFrame t.line b, s.link.serial + 1, .confirm b⟩] ∧
          (s.tickets.entries.length < 256 → ∃ k ∈ u.tickets.entries,
            k.kind = .line ∧ k.subject = l ∧ k.cls = .relayNoMake ∧ k.state ≠ .cleared ∧ k.lastSeen = s.minute)) ∧
      ((s.chan h).stage = .tapping → (∀ timer, (s.bus b).stray ≠ some ⟨l, timer⟩) → s.tapBroken l b = s))

/-- A release completes at the matching TAP_BROKEN: the bus's timer stops and its relay image is cleared; it goes into LOCKOUT after a
protective abort, out of service if so marked, and else FREE, with a start attempt due. The line is handed to the release path, and
then the channel's release goes on; a late make only sets the confirmed line.
The release path: FREE, or STUCK after a timeout, with no held orders and no flush; with held orders a flush begins and goes on as
FLUSH_OFFER does; a flush under way takes the mark over.
A pending handover is taken when the victim's release has ended: the urgent test claims the lowest-numbered free bus that reaches
its line and begins TAPPING with no exposure; with no such bus its line goes to the release path and its test ends with NO_BUS.
Where a release cleared the handover, the urgent line goes to the release path and its test ends.
A test ends when its channel gives it up: a waiting ABORT is answered OK with channel, line and outcome; a TEST_REPORT with the
test's fields and its 14-byte results is offered, always for URGENT and for ROUTINE as the latched policy says; a ROUTINE test is then
booked by the Sweep Unit. A test that a warm restart found in RELEASING ends without report and booking; its ABORT carries a free
outcome where it has none (log entry 18).
A CLAIMED(RESTART) bus becomes FREE, or out of service by its mark, at the break of its line, which goes to the release path.
The outcome in the answer to ABORT is one byte (log entry 39). -/
def Obligations.ReleaseCompletes : Prop :=
  (∀ (s : State) (b h l : Nat) (t : TestRec), b < 8 → (s.bus b).state = .claimed h → (s.bus b).commanded = some l →
      (s.chan h).stage = .releasing → (s.chan h).test = some t →
      ((s.chan h).handover = false → (s.chan h).releaseLine = none →
        let u := s.tapBroken l b
        u.bus b = { s.bus b with
          confirm := .stopped, commanded := none, confirmed := none, oosMark := false
          state := if (s.bus b).oosMark then .outOfService
            else if (s.chan h).protMark then .lockout (s.now + BitVec.ofNat 48 (s.params.lockout * 1000)) else .free } ∧
        u.chan h = { s.chan h with
          stage := if (s.chan h).headOut then .outOfService else .idle
          bus := none, step := none, test := none, protMark := false, pendingAbort := none, restartEnded := false
          origin := .unset, intake := Intake.cold } ∧
        ((∀ q ∈ s.hold, q.line ≠ l) → (∀ f ∈ s.flushes, f.line ≠ l) → (u.line l).access = .free)) ∧
      ((s.bus b).confirmed ≠ some l → s.tapMade l b = s.setBus b { s.bus b with confirmed := some l })) ∧
  (∀ (s : State) (h : Nat) (t : TestRec), (s.chan h).test = some t → (s.chan h).handover = true →
      (∀ b, b < 8 → (s.bus b).state = .free → (s.bus b).stray = none → (s.bus b).reach.getLsbD (t.line / 256) = true →
        (∀ c, c < b → ¬ ((s.bus c).state = .free ∧ (s.bus c).stray = none ∧
          (s.bus c).reach.getLsbD (t.line / 256) = true)) →
        let u := s.finishRelease h
        u.chan h = { s.chan h with
          stage := .tapping, bus := some b, exposure := 0, peak := 0, releaseLine := none, handover := false } ∧
        u.bus b = { s.bus b with state := .claimed h, commanded := some t.line, confirm := .tied s.link.serial } ∧
        u.line t.line = { s.line t.line with access := .tapPending h } ∧
        u.ownFrames = s.ownFrames ++ [⟨tapConnectFrame t.line b, s.link.serial, .confirm b⟩]) ∧
      ((∀ c, c < 8 → ¬ ((s.bus c).state = .free ∧ (s.bus c).stray = none ∧
          (s.bus c).reach.getLsbD (t.line / 256) = true)) →
        let u := s.finishRelease h
        (u.chan h).stage = (if (s.chan h).headOut then .outOfService else .idle) ∧ (u.chan h).test = none ∧
        (u.chan h).handover = false ∧
        ((∀ q ∈ s.hold, q.line ≠ t.line) → (∀ f ∈ s.flushes, f.line ≠ t.line) → (u.line t.line).access = .free))) ∧
  (∀ (s : State) (h : Nat) (t : TestRec) (o : TestOutcome), (s.chan h).test = some t → t.outcome = some o →
      (s.chan h).restartEnded = false →
      let c := s.chan h
      let s0 := s.setChan h { c with
        stage := if c.headOut then .outOfService else .idle
        bus := none, step := none, test := none, releaseLine := none, handover := false, pendingAbort := none
        restartEnded := false, origin := .unset, intake := Intake.cold }
      -- 1. the channel has given up its test; if it is IDLE a start attempt is due
      let s1 : State := if c.headOut then s0 else { s0 with sweep := { s0.sweep with attemptDue := true } }
      -- 2. an ABORT that waited is answered
      let s2 := match c.pendingAbort with
        | some tag => s1.respond tag .ok (byte1 h ++ byte2 t.line ++ byte1 o.code)
        | none => s1
      -- 3. the TEST_REPORT, always for URGENT and by the latched policy for ROUTINE
      let reported := t.priority = .urgent ∨ s.sweep.config.policy = .all ∨ o ≠ .completed ∨
        ∃ r ∈ t.results, r.verdict ≠ .pass ∧ r.verdict ≠ .unjudged
      let body := byte2 t.line ++ byte1 t.plan ++ byte1 t.priority.code ++ byte1 t.originator.code ++ byte1 h ++
        byte1 ((if t.breakIn then 1 else 0) + (if t.overrideHazard then 2 else 0)) ++ byte4 t.startMinute.toNat ++
        byte1 o.code ++ byte1 t.pass ++ byte1 ((s.planSteps t.plan).getD []).length ++ byte1 t.results.length ++
        flagByte t.resumed ++ byte1 t.savedRep ++ signed4 ((c.peak * 250000 + 16384) / 32768) ++
        t.results.flatMap StepResult.bytes
      -- 4. the Sweep Unit books a ROUTINE test
      let booked := fun u : State => if t.priority = .urgent then u
        else u.routineEnded ⟨t.line, t.plan, t.pass, t.startedInPass, some o, t.results, c.origin⟩
      (reported → s.endTest h = booked (s2.notify .testReport body)) ∧
      (¬ reported → s.endTest h = booked s2)) ∧
  (∀ r : StepResult, r.bytes = byte1 r.step ++ byte1 r.kind.code ++ byte1 r.arrangement.code ++ byte1 r.range.code ++
      signed4 r.value ++ byte1 r.verdict.code ++ byte1 r.quals.code ++ byte2 r.uncertainty ++ byte1 r.cls.code ++
      byte1 r.reps) ∧
  -- the release path, for a completion without timeout and for a timed-out one
  (∀ (s : State) (l : Nat) (stuck : Bool),
      ((∀ f ∈ s.flushes, f.line ≠ l) → (∀ q ∈ s.hold, q.line ≠ l) →
        s.releasePath l stuck = s.setAccess l (if stuck then .stuck else .free)) ∧
      ((∀ f ∈ s.flushes, f.line ≠ l) → (∃ q ∈ s.hold, q.line = l) →
        exec (.flushOffer l) { s.setAccess l .flushing with flushes := s.flushes ++ [⟨l, none, stuck⟩] } =
          .next (s.releasePath l stuck)) ∧
      (∀ before out mark after, s.flushes = before ++ ⟨l, out, mark⟩ :: after → (∀ f ∈ before ++ after, f.line ≠ l) →
        s.releasePath l stuck =
          { s.setAccess l .flushing with flushes := before ++ ⟨l, out, stuck⟩ :: after })) ∧
  -- what follows the end of a channel's release
  (∀ (s : State) (b h l : Nat), b < 8 → (s.bus b).state = .claimed h → (s.bus b).commanded = some l →
      (s.chan h).stage = .releasing →
      let after : BusState := if (s.bus b).oosMark then .outOfService
        else if (s.chan h).protMark then .lockout (s.now + BitVec.ofNat 48 (s.params.lockout * 1000)) else .free
      let freed := (s.setBus b { s.bus b with
        confirm := .stopped, commanded := none, confirmed := none, oosMark := false, state := after }).setChan h
          { s.chan h with protMark := false }
      let due : State := if after = .free then { freed with sweep := { freed.sweep with attemptDue := true } } else freed
      s.tapBroken l b = (due.releasePath l false).finishRelease h) ∧
  (∀ (s : State) (h : Nat) (t : TestRec), (s.chan h).test = some t →
      let c := s.chan h
      -- no handover: the test ends
      (c.handover = false → c.releaseLine = none → s.finishRelease h = s.endTest h) ∧
      -- a cleared handover: the urgent line is handed over, and its test ends
      (c.handover = false → c.releaseLine ≠ none →
        s.finishRelease h = ((s.setChan h { c with releaseLine := none }).releasePath t.line false).endTest h) ∧
      -- a pending handover that finds no bus
      (c.handover = true → (∀ x, x < 8 → ¬ ((s.bus x).state = .free ∧ (s.bus x).stray = none ∧
          (s.bus x).reach.getLsbD (t.line / 256) = true)) →
        s.finishRelease h = ((s.setChan h { c with
          releaseLine := none, handover := false, test := some { t with outcome := some .noBus } }).releasePath
            t.line false).endTest h)) ∧
  -- the end of a test that a warm restart found in RELEASING: no report, no booking
  (∀ (s : State) (h : Nat) (t : TestRec), (s.chan h).test = some t → (s.chan h).restartEnded = true →
      let c := s.chan h
      let s0 := s.setChan h { c with
        stage := if c.headOut then .outOfService else .idle
        bus := none, step := none, test := none, releaseLine := none, handover := false, pendingAbort := none
        restartEnded := false, origin := .unset, intake := Intake.cold }
      let s1 : State := if c.headOut then s0 else { s0 with sweep := { s0.sweep with attemptDue := true } }
      (c.pendingAbort = none → s.endTest h = s1) ∧
      (∀ tag, c.pendingAbort = some tag →
        (∀ o, t.outcome = some o → s.endTest h = s1.respond tag .ok (byte1 h ++ byte2 t.line ++ byte1 o.code)) ∧
        (t.outcome = none → ∃ x : Byte, s.endTest h =
          { s1.respond tag .ok (byte1 h ++ byte2 t.line ++ [x]) with choice := s.choice + 1 }))) ∧
  -- a restart release completes, and a late make before it
  (∀ (s : State) (b l : Nat), b < 8 → (s.bus b).state = .claimedRestart → (s.bus b).commanded = some l →
      let freed := s.setBus b { s.bus b with
        confirm := .stopped, commanded := none, confirmed := none, oosMark := false
        state := if (s.bus b).oosMark then .outOfService else .free }
      ((s.bus b).oosMark = true → s.tapBroken l b = freed.releasePath l false) ∧
      ((s.bus b).oosMark = false → s.tapBroken l b =
        ({ freed with sweep := { freed.sweep with attemptDue := true } } : State).releasePath l false) ∧
      ((s.bus b).confirmed ≠ some l → s.tapMade l b = s.setBus b { s.bus b with confirmed := some l })) ∧
  -- the names of R37 in a report
  ([TestOutcome.completed, .aborted, .yielded, .protective, .headFault, .sampleLoss, .relayFault, .noBus].map
      TestOutcome.code = [0, 1, 2, 3, 4, 5, 6, 7] ∧
    [Priority.urgent, .routine].map Priority.code = [1, 2] ∧
    (∀ d, [Originator.asked d, .sweep].map Originator.code = [d, 0xFF]) ∧
    [Verdict.unjudged, .pass, .fail, .marginal, .indeterminate].map Verdict.code = [0, 1, 2, 3, 4] ∧
    [StepKind.vdc, .vac, .res].map StepKind.code = [0, 1, 2] ∧ [Arrangement.tr, .tg, .rg].map Arrangement.code = [0, 1, 2] ∧
    [Range.high, .low].map Range.code = [0, 1] ∧
    (∀ q : Quals, q.code = (if q.unsettled then 1 else 0) + (if q.lossy then 2 else 0) + (if q.clipped then 4 else 0) +
      (if q.openLoop then 8 else 0) + (if q.reversed then 16 else 0)))

/-- A release that is not confirmed in time sticks its relay: the bus is out of service and names the line, the mark for that is used up,
RELAY_STUCK is raised on the bus, and the line is STUCK, or FLUSHING with the stuck mark when it has held orders and no flush. After
it a channel's release goes on to its end, and the act is settled (log entry 12); a restart's release ends here. Before its time an
expiry changes nothing (log entry 2).
Afterwards a break of the commanded or the confirmed line of a bus out of service clears its relay image, and a make of the commanded
line sets the confirmed line; bus and line stay as they are.
When a time is reached is log entry 9. -/
def Obligations.UnconfirmedReleaseSticks : Prop :=
  (∀ (s : State) (b l : Nat) (till : Time), (s.bus b).commanded = some l → (s.bus b).confirm = .running till →
     ((s.now - till).toNat < 2 ^ 47 →
       (∀ h, (s.bus b).state = .claimed h → (s.chan h).stage = .releasing →
         ∃ u, exec (.releaseConfirmTimerExpiry b) s = .next (State.settle u) ∧
           u.bus b = { s.bus b with
             state := .outOfService, stuckLine := some l, oosMark := false, confirm := .stopped } ∧
           (u.chan h).protMark = false ∧
           ((s.chan h).handover = false → (s.chan h).releaseLine = none →
             (u.chan h).stage = (if (s.chan h).headOut then .outOfService else .idle) ∧ (u.chan h).test = none ∧
             ((∀ q ∈ s.hold, q.line ≠ l) → (∀ f ∈ s.flushes, f.line ≠ l) → (u.line l).access = .stuck))) ∧
       ((s.bus b).state = .claimedRestart →
         Answers (exec (.restartReleaseTimeout b) s) fun u =>
           u.bus b = { s.bus b with
             state := .outOfService, stuckLine := some l, oosMark := false, confirm := .stopped } ∧
           ((∀ q ∈ s.hold, q.line ≠ l) → (∀ f ∈ s.flushes, f.line ≠ l) → (u.line l).access = .stuck) ∧
           u.chans = s.chans ∧
           (s.tickets.entries.length < 256 → ∃ k ∈ u.tickets.entries,
             k.kind = .bus ∧ k.subject = b ∧ k.cls = .relayStuck ∧ k.state ≠ .cleared ∧
               k.evidence = some ⟨some l, none⟩))) ∧
     (2 ^ 47 ≤ (s.now - till).toNat → exec (.releaseConfirmTimerExpiry b) s = .next s ∧
       exec (.restartReleaseTimeout b) s = .next s)) ∧
  (∀ (s : State) (b h l : Nat) (till : Time), (s.bus b).commanded = some l → (s.bus b).confirm = .running till →
    (s.bus b).state = .claimed h → (s.chan h).stage = .releasing → (s.now - till).toNat < 2 ^ 47 →
    exec (.releaseConfirmTimerExpiry b) s = .next
      (((s.setChan h { s.chan h with protMark := false }).stickRelay b l).finishRelease h).settle) ∧
  (∀ (s : State) (b l : Nat),
    let raised := (s.setBus b { s.bus b with
      state := .outOfService, stuckLine := some l, oosMark := false, confirm := .stopped }).raise .bus b .relayStuck
        (some ⟨some l, none⟩)
    ((∀ f ∈ s.flushes, f.line ≠ l) → (∀ q ∈ s.hold, q.line ≠ l) → s.stickRelay b l = raised.setAccess l .stuck) ∧
    ((∀ f ∈ s.flushes, f.line ≠ l) → (∃ q ∈ s.hold, q.line = l) → s.stickRelay b l =
      ({ raised.setAccess l .flushing with flushes := s.flushes ++ [⟨l, none, true⟩] } : State).flushOn l) ∧
    (∀ before out mark after, s.flushes = before ++ ⟨l, out, mark⟩ :: after →
      (∀ f ∈ before ++ after, f.line ≠ l) → s.stickRelay b l =
        { raised.setAccess l .flushing with flushes := before ++ ⟨l, out, true⟩ :: after })) ∧
  -- late breaks and late makes of the relay of a bus out of service
  (∀ (s : State) (b l : Nat), b < 8 → (s.bus b).state = .outOfService →
      ((s.bus b).commanded = some l ∨ (s.bus b).confirmed = some l →
        s.tapBroken l b = s.setBus b { s.bus b with commanded := none, confirmed := none }) ∧
      ((s.bus b).commanded = some l → (s.bus b).confirmed ≠ some l →
        s.tapMade l b = s.setBus b { s.bus b with confirmed := some l }))

/-- Stray makes, stray timers and lockouts: a stray make raises RELAY_STRAY on the line and offers a TAP_RELEASE whose timer is the stray
release's own. A TAP_BROKEN ends the stray release it matches on a bus in any state, FREE, locked out, claimed, CLAIMED(RESTART) or
out of service, unless it is the break that a release waits for, a relay's drop in a test or a late break; any other changes nothing,
and neither does a make or a break on a bus above 7 (log entry 27). A stray relay that does not let go in time puts a FREE or
locked-out bus out of service and marks a claimed one; a bus out of service stays so; its bus names the stray line, RELAY_STUCK is
raised on the bus with that line as evidence, and no line's access changes. A lockout ends with the bus FREE, and the Sweep Unit is
given a start attempt at the act's end (log entry 12). When a time is reached is log entry 9; before it an expiry changes nothing
(log entry 2). -/
def Obligations.StrayRelaysAndLockouts : Prop :=
  (∀ (s : State) (b l : Nat), b < 8 → (s.bus b).confirmed ≠ some l → (s.bus b).commanded ≠ some l →
    let u := s.tapMade l b
    u.bus b = { s.bus b with stray := some ⟨l, .tied s.link.serial⟩ } ∧
    u.ownFrames = s.ownFrames ++ [⟨tapReleaseFrame l b, s.link.serial, .stray b⟩] ∧ u.chans = s.chans) ∧
  (∀ (s : State) (b l : Nat) (till : Time), (s.bus b).stray = some ⟨l, .running till⟩ →
    ((s.now - till).toNat < 2 ^ 47 →
      Answers (exec (.strayReleaseTimerExpiry b) s) fun u =>
        (u.bus b).stray = none ∧ (u.bus b).stuckLine = some l ∧ u.chans = s.chans ∧
        ((s.bus b).state = .free ∨ (∃ e, (s.bus b).state = .lockout e) → (u.bus b).state = .outOfService) ∧
        ((s.bus b).state = .claimedRestart ∨ (∃ h, (s.bus b).state = .claimed h) →
          (u.bus b).state = (s.bus b).state ∧ (u.bus b).oosMark = true) ∧
        ((s.bus b).state = .outOfService → u.bus b = { s.bus b with stray := none, stuckLine := some l }) ∧
        (∀ m, (u.line m).access = (s.line m).access) ∧
        (s.tickets.entries.length < 256 → ∃ k ∈ u.tickets.entries,
          k.kind = .bus ∧ k.subject = b ∧ k.cls = .relayStuck ∧ k.state ≠ .cleared ∧ k.evidence = some ⟨some l, none⟩)) ∧
    (2 ^ 47 ≤ (s.now - till).toNat → exec (.strayReleaseTimerExpiry b) s = .next s)) ∧
  (∀ (s : State) (b : Nat) (till : Time), (s.bus b).state = .lockout till →
    ((s.now - till).toNat < 2 ^ 47 → exec (.lockoutEnd b) s =
      .next ({ s.setBus b { s.bus b with state := .free } with sweep := { s.sweep with attemptDue := true } } :
        State).settle) ∧
    (2 ^ 47 ≤ (s.now - till).toNat → exec (.lockoutEnd b) s = .next s)) ∧
  (∀ (s : State) (b l : Nat), b < 8 → (s.bus b).confirmed ≠ some l → (s.bus b).commanded ≠ some l →
    (s.tapMade l b).tickets = (s.raise .line l .relayStray none).tickets ∧
    (s.tapMade l b).desk = (s.raise .line l .relayStray none).desk) ∧
  (∀ (s : State) (b l m : Nat) (timer : Timer), b < 8 →
    ((s.bus b).state = .free ∨ ∃ e, (s.bus b).state = .lockout e) → (s.bus b).stray = some ⟨l, timer⟩ →
    s.tapBroken l b = s.setBus b { s.bus b with stray := none } ∧ (m ≠ l → s.tapBroken m b = s)) ∧
  -- a break that is no release's, no drop's and no late break's ends the stray release it matches, on any bus
  (∀ (s : State) (b l : Nat),
      let r := s.bus b
      let taken := (∃ h, r.state = .claimed h ∧
          (((s.chan h).stage ∈ [Stage.sourcing, .settling, .measuring] ∧ r.confirmed = some l) ∨
            ((s.chan h).stage = .releasing ∧ r.commanded = some l))) ∨
        (r.state = .claimedRestart ∧ r.commanded = some l) ∨
        (r.state = .outOfService ∧ (r.commanded = some l ∨ r.confirmed = some l))
      (b < 8 → ¬ taken →
        (∀ timer, r.stray = some ⟨l, timer⟩ → s.tapBroken l b = s.setBus b { r with stray := none }) ∧
        ((∀ timer, r.stray ≠ some ⟨l, timer⟩) → s.tapBroken l b = s)) ∧
      (8 ≤ b → s.tapBroken l b = s ∧ s.tapMade l b = s))

/-! ## Samples, measurement, calibration, protection -/

/-- The window means round to nearest, halves upward, and stay codes; the raw rms is the integer square root of the residue, computed
exactly, and lies within 0 to 32768. -/
def Obligations.WindowMeansAndRoot : Prop :=
  (∀ w : Window, 4 ≤ w.k → w.k ≤ 10 →
    let n : Int := 2 ^ w.k
    (-32768 * n ≤ w.sv → w.sv ≤ 32767 * n →
      w.vMean * n ≤ w.sv + n / 2 ∧ w.sv + n / 2 < (w.vMean + 1) * n ∧ -32768 ≤ w.vMean ∧ w.vMean ≤ 32767) ∧
    (-32768 * n ≤ w.si → w.si ≤ 32767 * n →
      w.iMean * n ≤ w.si + n / 2 ∧ w.si + n / 2 < (w.iMean + 1) * n ∧ -32768 ≤ w.iMean ∧ w.iMean ≤ 32767)) ∧
  (∀ d : Nat, d ≤ 1073741824 → isqrt d * isqrt d ≤ d ∧ d < (isqrt d + 1) * (isqrt d + 1) ∧ isqrt d ≤ 32768)

/-- A RES evaluation: below 16 codes of corrected current the loop is OPEN at 99,999,999 ohms and not REVERSED; otherwise the value is
the quotient of the magnitudes at the range's ratio, at most 99,999,999, and the result is REVERSED exactly when the corrected
codes have opposite signs. A VDC value lies within -250,000 to 249,992 mV; a VAC value does not depend on the offset.
A VDC value is the corrected and saturated mean at 250,000 mV to 32,768 codes, to the nearest, halves upward. A VAC value is that of
the scaled and saturated root of the residue, which is not below 0. A reading is CLIPPED exactly when a sample of it stood at an end
of the code range or a corrected code was saturated. -/
def Obligations.EngineeringValues : Prop :=
  (∀ (w : Window) (v i : CalRec) (range : Range),
    let vc := max (-32768) (min 32767 (((w.vMean - v.offset) * (v.gain : Int) + 8192) / 16384))
    let ic := max (-32768) (min 32767 (((w.iMean - i.offset) * (i.gain : Int) + 8192) / 16384))
    let m := measureRes w v i range
    (ic.natAbs < 16 → m.value = 99999999 ∧ m.openLoop = true ∧ m.reversed = false) ∧
    (16 ≤ ic.natAbs → m.openLoop = false ∧
      m.value = (min 99999999 (vc.natAbs * (match range with | .high => 5000 | .low => 2500000) / ic.natAbs) : Nat) ∧
      (m.reversed = true ↔ (vc < 0 ∧ 0 < ic) ∨ (0 < vc ∧ ic < 0))) ∧
    m.compared = m.value.natAbs ∧ 0 ≤ m.value ∧ m.value ≤ 99999999) ∧
  (∀ (w : Window) (v : CalRec), -250000 ≤ (measureVdc w v).value ∧ (measureVdc w v).value ≤ 249992 ∧
    (measureVdc w v).compared = (measureVdc w v).value.natAbs) ∧
  (∀ (w : Window) (v : CalRec) (o : Int), measureVac w { v with offset := o } = measureVac w v) ∧
  (∀ (w : Window) (v : CalRec),
    let raw := ((w.vMean - v.offset) * (v.gain : Int) + 8192) / 16384
    let vc := max (-32768) (min 32767 raw)
    let m := measureVdc w v
    m.value = (vc * 250000 + 16384) / 32768 ∧ m.compared = m.value.natAbs ∧
      (m.clipped = true ↔ w.vClip = true ∨ vc ≠ raw) ∧ m.openLoop = false ∧ m.reversed = false) ∧
  (∀ (w : Window) (v : CalRec) (r : Nat), w.sq ≤ 1073741824 →
    let d := (max 0 ((w.sq : Int) - w.vMean * w.vMean)).toNat
    r * r ≤ d → d < (r + 1) * (r + 1) →
    let raw : Int := ((r : Int) * v.gain + 8192) / 16384
    let vc := min 32767 raw
    let m := measureVac w v
    m.value = (vc * 250000 + 16384) / 32768 ∧ m.compared = m.value.natAbs ∧
      (m.clipped = true ↔ w.vClip = true ∨ vc ≠ raw) ∧ m.openLoop = false ∧ m.reversed = false) ∧
  (∀ (w : Window) (v i : CalRec) (range : Range),
    let rv := ((w.vMean - v.offset) * (v.gain : Int) + 8192) / 16384
    let ri := ((w.iMean - i.offset) * (i.gain : Int) + 8192) / 16384
    ((measureRes w v i range).clipped = true ↔ w.vClip = true ∨ w.iClip = true ∨
      max (-32768) (min 32767 rv) ≠ rv ∨ max (-32768) (min 32767 ri) ≠ ri))

/-- The uncertainty of a record, without the temperature's term where no temperature has been seen (log entry 24), and its CAL_DUE
standing, and the verdict's rows in order: no limit, a record due, a reversed RES step, a clipped reading, and the base verdict with
the band's edges MARGINAL; a clipped reading is FAIL only in sense BELOW above the band by its compared value (log entry 25); an
UNSETTLED repetition never passes.
A repetition is evaluated: the records the kind uses are assessed at the window's temperature, HEAD_CAL_DUE is raised when one is
newly due, the value is judged, and the step goes on with the next repetition, its qualifiers folded, or forms its result after the
last: a PASS of a step with an UNSETTLED repetition is MARGINAL.
A repetition begins in SOURCING under a new epoch, its intake cold and tied to the SOURCE directive offered.
A step result is formed: it joins the results, a STEP notice goes out if the step asks for it, FAIL raises its class on the line, PASS
clears the step's class and, for RES, FOREIGN_BATTERY; then the test ends COMPLETED at the last step or a FAIL that stops it, and
else the next step begins.
In the STEP body the priority is one byte (log entry 39), and so is
the position (log entry 42). -/
def Obligations.UncertaintyAndVerdict : Prop :=
  (∀ (c : CalRec) (umax : Nat) (t : Int),
    c.uncertainty (some t) = min 1000 (c.u0 + c.kT * (t - c.tcal).natAbs / 16 + c.kA * c.age / 64) ∧
    c.uncertainty none = min 1000 (c.u0 + c.kA * c.age / 64) ∧
    (c.calDue umax (some t) = true ↔ c.valid = false ∨ umax < c.uncertainty (some t))) ∧
  (∀ (r : StepRec) (u : Nat) (m : Measurement) (due unsettled : Bool),
    judge r none due unsettled u m = (.unjudged, r.cls) ∧
    ∀ l : Nat, u ≤ 1000 →
      let lo := l * (1000 - u) / 1000
      let hi := l * (1000 + u) / 1000
      judge r (some l) true unsettled u m = (.indeterminate, r.cls) ∧
      (r.kind = .res → m.reversed = true → judge r (some l) false unsettled u m = (.fail, .foreignBattery)) ∧
      (¬ (r.kind = .res ∧ m.reversed = true) → m.clipped = true → judge r (some l) false unsettled u m =
        (if r.sense = .below ∧ hi < m.compared then .fail else .indeterminate, r.cls)) ∧
      (¬ (r.kind = .res ∧ m.reversed = true) → m.clipped = false →
        (lo ≤ m.compared → m.compared ≤ hi → judge r (some l) false unsettled u m = (.marginal, r.cls)) ∧
        (hi < m.compared → judge r (some l) false unsettled u m =
          (if r.sense = .below then .fail else if unsettled then .marginal else .pass, r.cls)) ∧
        (m.compared < lo → judge r (some l) false unsettled u m =
          (if r.sense = .above then .fail else if unsettled then .marginal else .pass, r.cls))) ∧
      (judge r (some l) due true u m).1 ≠ .pass) ∧
  -- a repetition is evaluated
  (∀ (s : State) (h : Nat) (t : TestRec) (p : Progress) (r : StepRec) (w : Window),
    (s.chan h).test = some t → (s.chan h).step = some p → s.stepRec p.step = some r →
    let c := s.headCal h
    let cur := match r.range with | .high => c.iHigh | .low => c.iLow
    let at_ := some w.temp
    let umax := s.params.umax
    let due := c.v.calDue umax at_ || (r.kind == .res && cur.calDue umax at_)
    let newly := (c.v.calDue umax at_ && !c.v.due) || (r.kind == .res && cur.calDue umax at_ && !cur.due)
    let u := if r.kind = .res then min 1000 (c.v.uncertainty at_ + cur.uncertainty at_) else c.v.uncertainty at_
    let l := s.line t.line
    let limit := r.slot.map fun slot =>
      s.limit (match r.arrangement with | .rg => l.ringProfile | .tg => l.tipProfile | .tr => l.tipProfile) slot
    let m := match r.kind with
      | .vdc => measureVdc w c.v
      | .vac => measureVac w c.v
      | .res => measureRes w c.v cur r.range
    let v := judge r limit due p.repQuals.unsettled u m
    let folded : Quals := ⟨p.folded.unsettled || p.repQuals.unsettled, p.folded.lossy || p.repQuals.lossy,
      p.folded.clipped || p.repQuals.clipped || m.clipped, p.folded.openLoop || p.repQuals.openLoop || m.openLoop,
      p.folded.reversed || p.repQuals.reversed || m.reversed⟩
    let v' := { c.v with due := c.v.calDue umax at_ }
    let cur' := { cur with due := cur.calDue umax at_ }
    let assessed := s.setHeadCal h (if r.kind = .res then
        (match r.range with | .high => { c with v := v', iHigh := cur' } | .low => { c with v := v', iLow := cur' })
      else { c with v := v' })
    let s1 := if newly then assessed.raise .head h .headCalDue none else assessed
    (p.rep < r.rep → s.windowDone h w = s1.beginRepetition h r { p with rep := p.rep + 1, folded := folded }) ∧
    (r.rep ≤ p.rep → s.windowDone h w = s1.formResult h t r p
      { step := p.step, kind := r.kind, arrangement := r.arrangement, range := r.range, value := m.value
        verdict := if folded.unsettled = true ∧ v.1 = .pass then .marginal else v.1
        quals := folded, uncertainty := u, cls := v.2, reps := r.rep + 1 })) ∧
  -- a repetition begins
  (∀ (s : State) (h : Nat) (r : StepRec) (p : Progress),
    let u := s.beginRepetition h r p
    let e := (s.chan h).epoch + 1
    u.chan h = { s.chan h with
      stage := .sourcing, epoch := e, step := some { p with repQuals := .clear }
      intake := { Intake.cold with tie := some s.link.serial } } ∧
    u.ownFrames = s.ownFrames ++ [⟨sourceDirective h e r, s.link.serial, .head h e⟩]) ∧
  -- a step result is formed
  (∀ (s : State) (h : Nat) (t : TestRec) (r : StepRec) (p : Progress) (res : StepResult),
    let s1 := s.setChan h { s.chan h with test := some { t with results := t.results ++ [res] } }
    let s2 := if r.notify = true then s1.notify .step (byte2 t.line ++ byte1 h ++ byte1 t.plan ++
        byte1 t.priority.code ++ byte1 t.originator.code ++ byte1 p.position ++
        (byte1 res.step ++ byte1 res.kind.code ++ byte1 res.arrangement.code ++ byte1 res.range.code ++
          signed4 res.value ++ byte1 res.verdict.code ++ byte1 res.quals.code ++ byte2 res.uncertainty ++
          byte1 res.cls.code ++ byte1 res.reps))
      else s1
    let s3 := match res.verdict with
      | .fail => s2.raise .line t.line res.cls
          (some ⟨none, some ⟨res.kind, res.arrangement, res.value, res.quals, .fail, t.originator⟩⟩)
      | .pass =>
        let cleared := s2.clearTicket .line t.line r.cls
        if r.kind = StepKind.res then cleared.clearTicket .line t.line .foreignBattery else cleared
      | .unjudged | .marginal | .indeterminate => s2
    ((res.verdict = .fail ∧ r.stopOnFail = true) ∨ r.link = none →
      s.formResult h t r p res = s3.endByCause h .completed) ∧
    (∀ n q, ¬ (res.verdict = .fail ∧ r.stopOnFail = true) → r.link = some n → s.stepRec n = some q →
      s.formResult h t r p res = s3.beginRepetition h q ⟨n, p.position + 1, 0, .clear, .clear⟩))

/-- A scale from its zero and its reference: no span fails with SPAN, a gain outside 8192 to 24575 fails with GAIN, which is what a span
below 16,385 or above 49,155 gives, and otherwise the gain is 24576 / span in Q14 to the nearest and the offset is the clamped zero.
A calibration run goes through its phases in their order, each begun under a new epoch with its directive: the high range's zeros
give the zero of V and of I HIGH, the low range's the zero of I LOW, and each reference a scale with its zero, whose failure fails
the run. The run writes nothing before its end; at its success the three scales of its head are valid with age 0, the head returns
to service with the channel IDLE and a start attempt due, the head's three tickets are cleared, and CALIBRATE is answered OK with
the three scales and the temperature.
A run that fails keeps every record, raises HEAD_CAL_FAIL and is answered CAL_FAILED with the head, the phase and the cause.
The notices of the tickets stand before the answer.
The tickets of the success are cleared in the order in which the rule names them (log entry 43). -/
def Obligations.ScaleComputation : Prop :=
  (∀ z r : Int,
     (r - z ≤ 0 → computeScale z r = .error .span) ∧
     (0 < r - z → (r - z < 16385 ∨ 49155 < r - z) → computeScale z r = .error .gain) ∧
     (16385 ≤ r - z → r - z ≤ 49155 → ∃ k, computeScale z r = .ok k ∧
       k.offset = max (-2048) (min 2047 z) ∧ 8192 ≤ k.gain ∧ k.gain ≤ 24575 ∧
       (k.gain : Int) * (r - z) ≤ 402653184 + (r - z) / 2 ∧ 402653184 + (r - z) / 2 < (k.gain + 1 : Int) * (r - z))) ∧
  (∀ (s : State) (h : Nat) (run : CalRun) (w : Window), (s.chan h).run = some run →
     let u := s.phaseDone h w
     let c := s.chan h
     let e := c.epoch + 1
     let goesOn := fun (next : CalPhase) (run' : CalRun) =>
       u.chan h = { c with
         calPhase := some next, epoch := e, run := some run', intake := { Intake.cold with tie := some s.link.serial } } ∧
       u.ownFrames = s.ownFrames ++ [⟨calDirective h e next, s.link.serial, .head h e⟩] ∧
       u.cal = s.cal ∧ u.desk = s.desk ∧ u.tickets = s.tickets
     (c.calPhase = some .zHigh → goesOn .zLow { run with zV := some w.vMean, zIH := some w.iMean }) ∧
     (c.calPhase = some .zLow → goesOn .refV { run with zIL := some w.iMean }) ∧
     (∀ z, c.calPhase = some .refV → run.zV = some z →
       (∀ x, computeScale z w.vMean = .error x → u = s.failRun h x) ∧
       (∀ k, computeScale z w.vMean = .ok k → goesOn .refIHigh { run with rV := some w.vMean, candV := some k })) ∧
     (∀ z, c.calPhase = some .refIHigh → run.zIH = some z →
       (∀ x, computeScale z w.iMean = .error x → u = s.failRun h x) ∧
       (∀ k, computeScale z w.iMean = .ok k → goesOn .refILow { run with rIH := some w.iMean, candIH := some k })) ∧
     (∀ z v ih, c.calPhase = some .refILow → run.zIL = some z → run.candV = some v → run.candIH = some ih →
       (∀ x, computeScale z w.iMean = .error x → u = s.failRun h x) ∧
       (∀ il, computeScale z w.iMean = .ok il →
         let renewed := fun (r : CalRec) (k : Candidate) =>
           { r with valid := true, offset := k.offset, gain := k.gain, tcal := w.temp, age := 0, due := false }
         u.chan h = { c with
           stage := .idle, headOut := false, calPhase := none, run := none, epoch := e, intake := Intake.cold } ∧
         u.headCal h = ⟨renewed (s.headCal h).v v, renewed (s.headCal h).iHigh ih, renewed (s.headCal h).iLow il⟩ ∧
         (∀ g, g ≠ h → u.headCal g = s.headCal g ∧ u.chan g = s.chan g) ∧
         u.ownFrames = s.ownFrames ++ [⟨idleDirective h e, s.link.serial, .untied⟩] ∧
         u.tickets = (((s.clearTicket .head h .headCalDue).clearTicket .head h .headCalFail).clearTicket .head h
           .headSilent).tickets ∧
         u.desk = ((((s.clearTicket .head h .headCalDue).clearTicket .head h .headCalFail).clearTicket .head h
           .headSilent).respond run.tag .ok (byte1 h ++ signed4 v.offset ++ signed4 v.gain ++ signed4 ih.offset ++
             signed4 ih.gain ++ signed4 il.offset ++ signed4 il.gain ++ signed1 w.temp)).desk ∧
         u.desk.notices.getLast? = some ⟨run.tag, .response, 0, byte1 h ++ signed4 v.offset ++ signed4 v.gain ++
           signed4 ih.offset ++ signed4 ih.gain ++ signed4 il.offset ++ signed4 il.gain ++ signed1 w.temp⟩ ∧
         u.sweep.attemptDue = true)) ∧
     (∀ p x, c.calPhase = some p → x ≠ .restart →
       let f := s.failRun h x
       f.chan h = { c with
         stage := if c.headOut then .outOfService else .idle
         calPhase := none, run := none, epoch := e, intake := Intake.cold } ∧
       f.cal = s.cal ∧ f.ownFrames = s.ownFrames ++ [⟨idleDirective h e, s.link.serial, .untied⟩] ∧
       f.tickets = (s.raise .head h .headCalFail none).tickets ∧
       f.desk = ((s.raise .head h .headCalFail none).respond run.tag .calFailed
         (byte1 h ++ byte1 p.code ++ byte1 x.code)).desk ∧
       f.desk.notices.getLast? = some ⟨run.tag, .response, 0x31, byte1 h ++ byte1 p.code ++ byte1 x.code⟩))

/-- A settle block: a mean within the band of the one before counts, one outside starts the count again, the first counts nothing; the
repetition is settled when the count reaches the dwell, and unsettled when the block limit comes first. A window adds up its
samples, and its clip flags tell of samples at an end of the code range.
What an accepted frame does: the first one and each in sequence is a settle block until the window opens, and then adds to it; a gap
is a loss, counts a restart, starts settling and window again and is then a settle block; the third restart ends the test with
SAMPLE_LOSS or fails the calibration run. Settling by the current is for RES steps and the current phases of a run, whose band,
dwell, blocks and window are fixed. UNSETTLED and LOSSY mark the repetition; in a run UNSETTLED fails it. The block mean is the
nearest to a sixteenth of the sum, halves upward. A complete window is handed over, with its temperature, to the step's evaluation
or the run's phase. -/
def Obligations.SettlingAndWindow : Prop :=
  (∀ (i : Intake) (w : Work) (mean : Int),
    let n := match i.prev with
      | none => i.settle
      | some q => if (mean - q).natAbs ≤ w.band then i.settle + 1 else 0
    (i.judgeBlock w mean).1 = { i with blocks := i.blocks + 1, settle := n, prev := some mean } ∧
    (n = w.dwell → (i.judgeBlock w mean).2 = .settled) ∧
    (n ≠ w.dwell → i.blocks + 1 = w.maxBlocks → (i.judgeBlock w mean).2 = .unsettled) ∧
    (n ≠ w.dwell → i.blocks + 1 ≠ w.maxBlocks → (i.judgeBlock w mean).2 = .going)) ∧
  (∀ (i : Intake) (k : Nat) (temp : Int) (pairs : List (Int × Int)),
    let j := i.addFrame k temp pairs
    j.sv = i.sv + (pairs.map Prod.fst).sum ∧ j.si = i.si + (pairs.map Prod.snd).sum ∧
    j.sq = i.sq + (pairs.map fun p => p.1.natAbs * p.1.natAbs / 2 ^ k).sum ∧
    (j.vClip = true ↔ i.vClip = true ∨ ∃ p ∈ pairs, p.1 = -32768 ∨ p.1 = 32767) ∧
    (j.iClip = true ↔ i.iClip = true ∨ ∃ p ∈ pairs, p.2 = -32768 ∨ p.2 = 32767) ∧
    j.frames = i.frames + 1 ∧ j.temp = some temp) ∧
  -- the work in hand: a step's own values, or those of a calibration phase
  (∀ (s : State) (h : Nat),
    (∀ p r, (s.chan h).stage ≠ .calibrating → (s.chan h).step = some p → s.stepRec p.step = some r →
      s.work h = some ⟨r.band, r.dwell, r.maxBlocks, r.window, r.kind == .res⟩) ∧
    (∀ p, (s.chan h).stage = .calibrating → (s.chan h).calPhase = some p →
      s.work h = some ⟨4, 4, 64, 10, p != .zHigh && p != .refV⟩)) ∧
  (∀ (s : State) (h : Nat) (work : Work) (temp : Int) (pairs : List (Int × Int)), s.work h = some work →
    let c := s.chan h
    let i := c.intake
    let mean := ((pairs.map fun p => if work.byCurrent then p.2 else p.1).sum + 8) / 16
    let r := i.judgeBlock work mean
    let opened := { r.1 with
      phase := .measuring, frames := 0, sv := 0, si := 0, sq := 0, vClip := false, iClip := false, temp := none }
    let third := s.setChan h { c with intake := { i with restarts := 3 } }
    let afresh := { i with restarts := i.restarts + 1, blocks := 0, settle := 0, prev := none }
    let emptied := { afresh with
      frames := 0, sv := 0, si := 0, sq := 0, vClip := false, iClip := false, temp := none }
    let j := i.addFrame work.k temp pairs
    let done : Window := ⟨j.sv, j.si, j.sq, j.vClip, j.iClip, temp, work.k⟩
    let u := s.setChan h { c with intake := { j with phase := .awaiting } }
    -- what a frame does, by the phase of intake and the frame's class
    ((i.phase = .awaiting → s.actOnFrame h .first temp pairs = s.settleBlock h work pairs) ∧
      (i.phase = .settling → s.actOnFrame h .inSequence temp pairs = s.settleBlock h work pairs) ∧
      (i.phase = .settling ∨ i.phase = .measuring → s.actOnFrame h .gap temp pairs = s.loss h work pairs) ∧
      (i.phase = .measuring → s.actOnFrame h .inSequence temp pairs = s.accumulate h work temp pairs)) ∧
    -- a settle block
    ((r.2 = .going → s.settleBlock h work pairs = s.setChan h { c with
        stage := if c.stage = .calibrating then .calibrating else .settling
        intake := { r.1 with phase := .settling } }) ∧
      (r.2 = .settled → s.settleBlock h work pairs = s.setChan h { c with
        stage := if c.stage = .calibrating then .calibrating else .measuring, intake := opened }) ∧
      (r.2 = .unsettled → c.stage ≠ .calibrating → s.settleBlock h work pairs = s.setChan h { c with
        stage := .measuring, intake := opened
        step := c.step.map fun p => { p with repQuals := { p.repQuals with unsettled := true } } }) ∧
      (r.2 = .unsettled → c.stage = .calibrating →
        s.settleBlock h work pairs = (s.setChan h { c with intake := opened }).failRun h .unsettled)) ∧
    -- a loss
    ((i.restarts = 2 → c.stage = .calibrating → s.loss h work pairs = third.failRun h .loss) ∧
      (i.restarts = 2 → c.stage ≠ .calibrating → s.loss h work pairs = third.endByCause h .sampleLoss) ∧
      (i.restarts ≠ 2 →
        s.loss h work pairs = (s.setChan h { c with
          intake := if i.phase = .measuring then emptied else afresh
          step := if c.stage = .calibrating then c.step
            else c.step.map fun p => { p with repQuals := { p.repQuals with lossy := true } } }).settleBlock h work
              pairs)) ∧
    -- the window: accumulated, and handed over when it is complete
    ((j.frames ≠ 2 ^ work.k / 16 → s.accumulate h work temp pairs = s.setChan h { c with intake := j }) ∧
      (j.frames = 2 ^ work.k / 16 → c.stage ≠ .calibrating → s.accumulate h work temp pairs = u.windowDone h done) ∧
      (j.frames = 2 ^ work.k / 16 → c.stage = .calibrating → s.accumulate h work temp pairs = u.phaseDone h done)))

/-- The account of a frame: the peak is the largest magnitude met; samples at or below the threshold add nothing and a block of them
halves the exposure; a block with excess and no trip adds each excess, stopping at the top; it trips exactly when an excess brings
the account to the limit.
A sample frame is accepted only from a head 0 to 3 whose channel is in SOURCING to MEASURING or CALIBRATING, under its epoch, and is
otherwise without effect. Accepted, it is the first, in sequence, or a gap by the sequence number expected, which becomes one more;
the temperature is taken within -40 to 125 and t_head starts again. Then, except in a calibration run, its voltages go to the
account, and a trip takes the place of everything the frame would do to the measurement. -/
def Obligations.ExposureAccount : Prop :=
  (∀ (vprot elim e peak : Nat) (vs : List Int), 1 ≤ elim → e < elim → elim ≤ 4294967295 →
     let w := watchFrame vprot elim e peak vs
     ((∀ v ∈ vs, v.natAbs ≤ vprot) →
       w.exposure = e / 2 ∧ w.tripped = false ∧ w.peak = vs.foldl (fun p v => max p v.natAbs) peak) ∧
     ((∃ v ∈ vs, vprot < v.natAbs) → w.tripped = false →
       w.exposure = e + (vs.map fun v => v.natAbs - vprot).sum ∧ w.exposure < elim ∧
         w.peak = vs.foldl (fun p v => max p v.natAbs) peak) ∧
     (w.tripped = true ↔ elim ≤ e + (vs.map fun v => v.natAbs - vprot).sum) ∧
     (w.tripped = true → elim ≤ w.exposure ∧ w.exposure ≤ 4294967295)) ∧
  (∀ (s : State) (x : Sample),
     let h := x.head
     let c := s.chan h
     let accepted := h < 4 ∧ c.stage ∈ [Stage.sourcing, .settling, .measuring, .calibrating] ∧ x.epoch = c.epoch.toNat
     let temp := max (-40) (min 125 x.temp)
     let cls : FrameClass := match c.intake.expected with
       | none => .first
       | some n => if n = x.sequence then .inSequence else .gap
     let heard := { c with
       lastTemp := some temp
       intake := { c.intake with
         expected := some ((x.sequence + 1) % 256), timer := some (s.now + BitVec.ofNat 48 s.params.tHead) } }
     let w := watchFrame s.params.vprot s.params.elim c.exposure c.peak (x.pairs.map Prod.fst)
     let u := s.setChan h { heard with exposure := w.exposure, peak := w.peak }
     (¬ accepted → s.takeSample x = s) ∧
     (accepted → c.stage = .calibrating → s.takeSample x = (s.setChan h heard).actOnFrame h cls temp x.pairs) ∧
     (accepted → c.stage ≠ .calibrating →
       (w.tripped = true → s.takeSample x = u.trip h) ∧
       (w.tripped = false → s.takeSample x = u.actOnFrame h cls temp x.pairs)))

/-- A trip: the test ends PROTECTED and its release begins, the channel carries the protective mark, the line's hazard flag is set, and
FOREIGN_VOLTAGE is raised on the line. Its evidence is the kind and the arrangement of the step in progress, the channel's peak in
millivolts, no qualifiers, the verdict NONE and the test's originator; the tickets and the notices are as a raise with that evidence
leaves them, whether the table has room or is full. -/
def Obligations.ProtectiveTrip : Prop :=
  (∀ (s : State) (h b : Nat) (t : TestRec), (s.chan h).stage.active = true → (s.chan h).test = some t →
     (s.chan h).bus = some b →
     let u := s.trip h
     (u.chan h).stage = .releasing ∧ (u.chan h).test = some { t with outcome := some .protective } ∧
     (u.chan h).protMark = true ∧ (u.chan h).step = none ∧ (u.chan h).exposure = (s.chan h).exposure ∧
     (u.line t.line).hazard = true ∧ (u.line t.line).access = .releasePending (some h) ∧
     u.ownFrames = s.ownFrames ++ [⟨idleDirective h ((s.chan h).epoch + 1), s.link.serial, .untied⟩,
       ⟨tapReleaseFrame t.line b, s.link.serial + 1, .confirm b⟩] ∧
     (s.tickets.entries.length < 256 → ∃ k ∈ u.tickets.entries,
       k.kind = .line ∧ k.subject = t.line ∧ k.cls = .foreignVoltage ∧ k.state ≠ .cleared ∧ k.lastSeen = s.minute)) ∧
  -- the evidence, and what the Ticket Table does with it
  (∀ (s : State) (h b : Nat) (t : TestRec) (p : Progress) (r : StepRec), (s.chan h).stage.active = true →
    (s.chan h).test = some t → (s.chan h).bus = some b → (s.chan h).step = some p → s.stepRec p.step = some r →
    let u := s.trip h
    let raised := s.raise .line t.line .foreignVoltage (some ⟨none, some ⟨r.kind, r.arrangement,
      (((s.chan h).peak * 250000 + 16384) / 32768 : Nat), ⟨false, false, false, false, false⟩, .unjudged, t.originator⟩⟩)
    u.tickets = raised.tickets ∧ u.desk = raised.desk)

/-- The head timer: a head that is silent for t_head goes out of service with HEAD_SILENT raised; its test is released with HEAD_FAULT,
or its calibration run fails with HEAD_CAL_FAIL raised too and is answered CAL_FAILED with cause SILENT, and the act is settled (log
entry 12). On a channel that accepts no frames an expiry changes nothing (log entry 2). When a time is reached is log entry 9.
The hour tick, due since the minute that made it so (log entry 10) and without effect otherwise (log entry 2), ages all 12 records of
the four heads by one hour, stopping at 65535, sets each record's due standing by its uncertainty at the head's last seen
temperature, and raises HEAD_CAL_DUE on every head with a record due. -/
def Obligations.SilentHeadAndHourTick : Prop :=
  (∀ (s : State) (h : Nat) (till : Time), (s.chan h).intake.timer = some till → (s.now - till).toNat < 2 ^ 47 →
      (∀ t b, (s.chan h).stage ∈ [Stage.sourcing, .settling, .measuring] → (s.chan h).test = some t →
        (s.chan h).bus = some b → ∃ u, exec (.headTimerExpiry h) s = .next (State.settle u) ∧
          (u.chan h).headOut = true ∧ (u.chan h).stage = .releasing ∧
          (u.chan h).test = some { t with outcome := some .headFault } ∧
          (u.line t.line).access = .releasePending (some h) ∧
          u.tickets = (s.raise .head h .headSilent none).tickets ∧
          u.desk = (s.raise .head h .headSilent none).desk ∧
          (s.tickets.entries.length < 256 → ∃ k ∈ u.tickets.entries,
            k.kind = .head ∧ k.subject = h ∧ k.cls = .headSilent ∧ k.state ≠ .cleared ∧ k.lastSeen = s.minute)) ∧
      (∀ run p, (s.chan h).stage = .calibrating → (s.chan h).run = some run → (s.chan h).calPhase = some p →
        ∃ u, exec (.headTimerExpiry h) s = .next (State.settle u) ∧
          (u.chan h).headOut = true ∧ (u.chan h).stage = .outOfService ∧ (u.chan h).run = none ∧ u.cal = s.cal ∧
          u.desk.notices.getLast? = some ⟨run.tag, .response, 0x31, byte1 h ++ byte1 p.code ++ byte1 3⟩ ∧
          u.tickets = ((s.raise .head h .headSilent none).raise .head h .headCalFail none).tickets ∧
          u.desk = (((s.raise .head h .headSilent none).raise .head h .headCalFail none).respond run.tag .calFailed
            (byte1 h ++ byte1 p.code ++ byte1 3)).desk) ∧
      ((s.chan h).stage ∈ [Stage.idle, .tapping, .releasing, .outOfService] →
        exec (.headTimerExpiry h) s = .next s)) ∧
  (∀ s : State,
      (s.hourDue = false → exec .hourTick s = .next s) ∧
      (s.hourDue = true → Answers (exec .hourTick s) fun t =>
        t.hourDue = false ∧
        (∀ h, h < 4 →
          let g : CalRec → CalRec := fun r =>
            let r' : CalRec := { r with age := min 65535 (r.age + 1) }
            { r' with due := r'.calDue s.params.umax (s.chan h).lastTemp }
          t.headCal h = ⟨g (s.headCal h).v, g (s.headCal h).iHigh, g (s.headCal h).iLow⟩) ∧
        (∀ h, 4 ≤ h → t.headCal h = s.headCal h) ∧
        t.chans = s.chans ∧ t.buses = s.buses ∧ t.sweep = s.sweep ∧
        (s.tickets.entries.length < 252 → ∀ h, h < 4 →
          (t.headCal h).v.due = true ∨ (t.headCal h).iHigh.due = true ∨ (t.headCal h).iLow.due = true →
          ∃ k ∈ t.tickets.entries, k.kind = .head ∧ k.subject = h ∧ k.cls = .headCalDue ∧ k.state ≠ .cleared ∧
            k.lastSeen = s.minute)))

/-! ## Sweeps and tickets -/

/-- A pass starts when the interval timer expires in WAITING: the pass number rises by one modulo 256, the configuration is latched, the
counts are cleared, the walk stands on the first line of range 0 or is DONE, every card with an equipped UNKNOWN line has an audit
outstanding, PASS_START is offered (the event's byte first: log entry 14; the report policy in one byte: log entry 39; the concurrency
in one byte: log entry 42), and the sweep is RUNNING and makes its start attempt there, before the end of the pass is judged (log
entry 45); then the act is settled as that of a pass just started (log entries 11 and 12). The audits are requested card by card, in
ascending order. In PAUSED the start waits for SWEEP_RESUME. An expiry before its time, or in STOPPED, RUNNING or DRAINING, changes
nothing (log entry 2). When a time is reached is log entry 9. -/
def Obligations.IntervalExpiryStartsPass : Prop :=
  (∀ (s : State) (till : Time), s.sweep.timer = some till →
     (2 ^ 47 ≤ (s.now - till).toNat → exec .intervalTimerExpiry s = .next s) ∧
     ((s.now - till).toNat < 2 ^ 47 →
       (s.sweep.state = .paused → exec .intervalTimerExpiry s =
         .next { s with sweep.timer := none, sweep.startWaits := true }) ∧
       (s.sweep.state ∈ [SweepState.stopped, .running, .draining] → exec .intervalTimerExpiry s = .next s) ∧
       (s.sweep.state = .waiting → ∃ u : State, u = s.startPass ∧ exec .intervalTimerExpiry s = .next (
           State.settleWith 256 (some s.backlog) (State.attempt 5 [] { u with sweep := { u.sweep with attemptDue := false } })) ∧
         u.sweep = { s.sweep with
           config := ⟨s.sweep.ranges, s.params.concurrency, s.params.policy, s.params.interval, s.params.suspectPlan⟩
           passNumber := (s.sweep.passNumber + 1) % 256, underWay := true, counts := ⟨0, 0, 0, 0, 0, 0, 0, 0, 0, 0, 0⟩
           walk := match s.sweep.ranges with
             | [] => .done
             | r :: _ => .onLine 0 r.first
           state := .running, left := none, timer := none, startWaits := false, attemptDue := true } ∧
         (∀ l, (s.line l).cls ≠ 0 → (s.line l).condition = .unknown → (u.audit (l / 16)).flag = true) ∧
         (s.desk.notices.countP (fun n => n.kind != .response) < 56 →
           s.desk.notices.length + s.desk.reservations < 64 →
           u.desk.notices = s.desk.notices ++ [⟨0, .sweep, 0, byte1 1 ++ (byte1 ((s.sweep.passNumber + 1) % 256) ++
             byte1 s.sweep.ranges.length ++ byte1 s.params.concurrency ++ byte1 s.params.policy.code ++
             byte2 s.params.interval ++ byte1 s.params.suspectPlan)⟩]) ∧
         u.desk = (s.notify .sweep (byte1 1 ++ (byte1 ((s.sweep.passNumber + 1) % 256) ++
           byte1 s.sweep.ranges.length ++ byte1 s.params.concurrency ++ byte1 s.params.policy.code ++
           byte2 s.params.interval ++ byte1 s.params.suspectPlan))).desk ∧
         u.lines = s.lines ∧ u.chans = s.chans ∧ u.tickets = s.tickets ∧ u.link.down = s.link.down))) ∧
  -- the audits of a pass start, by ascending card
  (∀ (s : State) (till : Time), s.sweep.timer = some till → (s.now - till).toNat < 2 ^ 47 → s.sweep.state = .waiting →
    Table.wf LineRec.cold s.lines = true →
    ∃ (u : State) (cards : List Nat), u = s.startPass ∧ exec .intervalTimerExpiry s = .next (
        State.settleWith 256 (some s.backlog) (State.attempt 5 [] { u with sweep := { u.sweep with attemptDue := false } })) ∧
      cards.Pairwise (· < ·) ∧
      (∀ c, c ∈ cards ↔ ∃ l, l / 16 = c ∧ (s.line l).cls ≠ 0 ∧ (s.line l).condition = .unknown) ∧
      u.audits = (cards.foldl State.requestAudit s).audits ∧
      u.ownFrames = (cards.foldl State.requestAudit s).ownFrames)

/-- What an act of the part has to settle at its end (log entry 12): a pass that meets every condition of its end ends, with PASS_END
(the event's byte first: log entry 14) and the interval timer, or, at an interval of 0, with the next pass started at once and the
start attempt of that start made in RUNNING, before its end is judged (log entry 45). Where a pass has started in the same act
already, the next one starts at once if the suspect queue, the suspend list or the mark has changed since then; if none has, the next
pass waits 1 ms (log entry 11). A drain with no routine test left ends STOPPED, with PASS_STOPPED, whose counts are 0 with no pass
under way; in STOPPED, WAITING and PAUSED there is nothing to judge. A start attempt that is due is made once, and what it leaves is
judged after it; with the sweep STOPPED it starts nothing.
One round of the judgement, in any state: the end of a pass at a nonzero interval comes before a start attempt that is due, which is
made in WAITING; the end of a drain leaves the attempt nothing to start; where nothing ends, the attempt is made and the judgement
goes on with what it leaves, or there is none and the act is settled. -/
def Obligations.SettlingOfAnAct : Prop :=
  (∀ s : State,
     let c := s.sweep.counts
     let counts := byte2 c.tested ++ byte2 c.pass ++ byte2 c.fail ++ byte2 c.marginal ++ byte2 c.indeterminate ++
       byte2 c.missed ++ byte2 c.deferred ++ byte2 c.inhibited ++ byte2 c.hazard ++ byte2 c.busy ++ byte2 c.dropped
     (s.sweep.attemptDue = false → s.sweep.underWay = true → s.sweep.state = .running → s.sweep.walk = .done →
       s.sweep.revisits = [] →
       (∀ h, h < 4 → ∀ t, (s.chan h).test = some t → t.priority = .routine →
         ¬ (t.startedInPass = true ∧ t.pass = s.sweep.passNumber)) →
       (∀ x ∈ s.sweep.suspended, ¬ (x.startedInPass = true ∧ x.pass = s.sweep.passNumber)) →
       s.sweep.config.interval ≠ 0 →
       s.settle = { s.notify .sweep (byte1 2 ++ (byte1 s.sweep.passNumber ++ counts)) with
         sweep := { s.sweep with
           underWay := false, walk := .unset, state := .waiting
           timer := some (s.now + BitVec.ofNat 48 (s.sweep.config.interval * 60000)) } }) ∧
     (s.sweep.attemptDue = false → s.sweep.state = .draining → s.sweep.underWay = true →
       (∀ h, h < 4 → ∀ t, (s.chan h).test = some t → t.priority ≠ .routine) →
       s.settle = { s.notify .sweep (byte1 3 ++ (byte1 s.sweep.passNumber ++ [1] ++ counts)) with
         sweep := { s.sweep with underWay := false, state := .stopped } }) ∧
     (s.sweep.attemptDue = false → s.sweep.state ∈ [SweepState.stopped, .waiting, .paused] → s.settle = s) ∧
     (s.sweep.state = .stopped → s.settle = { s with sweep := { s.sweep with attemptDue := false } })) ∧
  (∀ s : State,
     let c := s.sweep.counts
     let counts := byte2 c.tested ++ byte2 c.pass ++ byte2 c.fail ++ byte2 c.marginal ++ byte2 c.indeterminate ++
       byte2 c.missed ++ byte2 c.deferred ++ byte2 c.inhibited ++ byte2 c.hazard ++ byte2 c.busy ++ byte2 c.dropped
     let ended := s.notify .sweep (byte1 2 ++ (byte1 s.sweep.passNumber ++ counts))
     let past : State := { ended with sweep := { s.sweep with underWay := false, walk := .unset, state := .waiting } }
     let begun := past.startPass
     (s.backlog = (s.sweep.suspects, s.sweep.suspended, s.sweep.mark) ∧ s.settle = State.settleWith 256 none s) ∧
     -- an interval of 0: the next pass starts at once, unless nothing has been worked through since the last start of this act
     (s.passDone = true → s.sweep.config.interval = 0 → ∀ (n : Nat) (last : Option Backlog),
       (last ≠ some s.backlog → State.settleWith (n + 1) last s = State.settleWith n (some s.backlog)
         (State.attempt 5 [] { begun with sweep := { begun.sweep with attemptDue := false } })) ∧
       (last = some s.backlog → State.settleWith (n + 1) last s =
         State.settleWith n last { past with sweep := { past.sweep with timer := some (s.now + 1) } })) ∧
     (s.sweep.attemptDue = false → s.sweep.state = .draining → s.sweep.underWay = false →
       (∀ h, h < 4 → ∀ t, (s.chan h).test = some t → t.priority ≠ .routine) →
       s.settle = { s.notify .sweep (byte1 3 ++ (byte1 s.sweep.passNumber ++ [0] ++ List.replicate 22 0)) with
         sweep := { s.sweep with state := .stopped } }) ∧
     (s.sweep.attemptDue = true → s.sweep.state ≠ .draining → s.passDone = false →
       let u := State.attempt 5 [] { s with sweep := { s.sweep with attemptDue := false } }
       u.sweep.attemptDue = false → u.sweep.state ≠ .draining → u.passDone = false → s.settle = u)) ∧
  -- one round of the settling, an attempt being due or not
  (∀ (s : State) (n : Nat) (last : Option Backlog),
      let c := s.sweep.counts
      let counts := byte2 c.tested ++ byte2 c.pass ++ byte2 c.fail ++ byte2 c.marginal ++ byte2 c.indeterminate ++
        byte2 c.missed ++ byte2 c.deferred ++ byte2 c.inhibited ++ byte2 c.hazard ++ byte2 c.busy ++ byte2 c.dropped
      let quiet := ∀ h, h < 4 → ∀ t, (s.chan h).test = some t → t.priority ≠ .routine
      (s.passDone = true ↔ s.sweep.underWay = true ∧ s.sweep.state = .running ∧ s.sweep.walk = .done ∧
        s.sweep.revisits = [] ∧
        (∀ h, h < 4 → ∀ t, (s.chan h).test = some t → t.priority = .routine →
          ¬ (t.startedInPass = true ∧ t.pass = s.sweep.passNumber)) ∧
        ∀ x ∈ s.sweep.suspended, ¬ (x.startedInPass = true ∧ x.pass = s.sweep.passNumber)) ∧
      -- the pass ends, and an attempt that is due is made in WAITING
      (s.passDone = true → s.sweep.config.interval ≠ 0 → State.settleWith (n + 1) last s =
        State.settleWith n last { s.notify .sweep (byte1 2 ++ (byte1 s.sweep.passNumber ++ counts)) with
          sweep := { s.sweep with
            underWay := false, walk := .unset, state := .waiting
            timer := some (s.now + BitVec.ofNat 48 (s.sweep.config.interval * 60000)) } }) ∧
      -- the drain ends, and an attempt that is due starts nothing
      (s.sweep.state = .draining → quiet → State.settleWith (n + 2) last s =
        { s.notify .sweep (byte1 3 ++ (byte1 s.sweep.passNumber ++ flagByte s.sweep.underWay ++
            (if s.sweep.underWay = true then counts else List.replicate 22 0))) with
          sweep := { s.sweep with underWay := false, state := .stopped, attemptDue := false } }) ∧
      -- nothing ends
      (¬ (s.sweep.state = .draining ∧ quiet) → s.passDone = false →
        (s.sweep.attemptDue = false → State.settleWith (n + 1) last s = s) ∧
        (s.sweep.attemptDue = true → State.settleWith (n + 1) last s = State.settleWith n last
          (State.attempt 5 [] { s with sweep := { s.sweep with attemptDue := false } }))))

/-- A routine test starts only on an equipped line that is not inhibited, carries no hazard flag, is FREE and IDLE, with a valid plan, an
IDLE channel and a free bus (no stray release outstanding on it) that reaches it; and an URGENT request is not examined for the
inhibit flag.
A start attempt goes through the suspended contexts, the suspect queue, the walk and the revisits, in that order, while fewer than
the latched concurrency run, and, but for a context, fewer than four run or are suspended; each is served only in its states of the
sweep. A line that can be tested is requested: NO_CHANNEL ends the attempt, NO_BUS passes the source over, any other refusal is
MISSED, and after a start the attempt begins again at the first source. A context whose line cannot take it ends YIELDED,
and where that brings the pass to its end the attempt breaks off (log entry 45). A suspect
whose line is busy goes once to the tail, and is not served again in that attempt; met so a second time it is removed MISSED, even
where every entry has been requeued (log entries 12 and 40). The walk books an unequipped, inhibited, hazardous, busy or not idle
line and goes past it; the mark on a line the walk goes past is reported and used up. A revisit whose line is not ready is MISSED.
The mark's notice has its event byte first (log entry 14), the handling in one byte (log entry 39) and the range index in one byte
(log entry 42). -/
def Obligations.RoutineStartsOnlyOnSoundLines : Prop :=
  (∀ (s u : State) (t : TestRec) (o : Origin), s.requestRoutine t o = .started u →
    (s.line t.line).cls ≠ 0 ∧ (s.line t.line).inhibit = false ∧ (s.line t.line).hazard = false ∧
      (s.line t.line).access = .free ∧ (s.line t.line).condition = .idle ∧ (s.planSteps t.plan).isSome = true ∧
      ∃ h b, h < 4 ∧ b < 8 ∧ (s.chan h).stage = .idle ∧ (s.bus b).state = .free ∧ (s.bus b).stray = none ∧
        (s.bus b).reach.getLsbD (t.line / 256) = true ∧
        (u.chan h).stage = .tapping ∧ (u.chan h).test = some t ∧ (u.chan h).origin = o ∧
        (u.bus b).state = .claimed h ∧ (u.line t.line).access = .tapPending h) ∧
  (∀ (s : State) (l : Nat) (i : Bool) (q : Request), q.urgent = true →
    (s.setLine l { s.line l with inhibit := i }).refusal q = s.refusal q) ∧
  (∀ s : State,
     let conc := s.sweep.config.concurrency
     let may := 0 < conc ∧ s.routineCount < conc
     let room := s.routineCount + s.sweep.suspended.length < 4
     let ready := fun l : Nat => (s.line l).condition = .idle ∧ (s.line l).access = .free
     let missed := fun (u : State) (l : Nat) =>
       let v : State := if s.sweep.underWay then
         { u with sweep.counts := { u.sweep.counts with missed := min 65535 (u.sweep.counts.missed + 1) } } else u
       v.setLine l { s.line l with lastPass := s.sweep.passNumber, lastOutcome := .missed }
     let fresh := fun (l p : Nat) =>
       ({ line := l, plan := p, priority := .routine, originator := .sweep, breakIn := false
          overrideHazard := false, startTime := s.now, startMinute := s.minute, pass := s.sweep.passNumber
          startedInPass := decide (s.sweep.state = .running), resumed := false, savedRep := 0
          startStep := (s.plan p).getD 0, results := [], outcome := none } : TestRec)
     -- the suspend list
     ((¬ (s.sweep.state = .running ∧ may) ∨ s.sweep.suspended = [] → s.serveContext = .passed s) ∧
       ∀ c rest, s.sweep.state = .running → may → s.sweep.suspended = c :: rest →
         let t : TestRec :=
           { line := c.line, plan := c.plan, priority := .routine, originator := .sweep, breakIn := false
             overrideHazard := false, startTime := s.now, startMinute := s.minute, pass := c.pass
             startedInPass := c.startedInPass, resumed := true, savedRep := c.rep
             startStep := c.step, results := c.results, outcome := none }
         let asked := s.requestRoutine t c.origin
         let y := ({ s with sweep.suspended := rest } : State).yieldContext c
         (ready c.line →
           (∀ u, asked = .started u → s.serveContext = .started { u with sweep.suspended := rest }) ∧
           (asked = .refused .noChannel → s.serveContext = .ended s) ∧
           (asked = .refused .noBus → s.serveContext = .passed s)) ∧
         ((¬ ready c.line ∨ ∃ r, asked = .refused r ∧ r ≠ .noChannel ∧ r ≠ .noBus) →
           s.serveContext =
             if y.passDone = true ∧ s.passDone = false then .ended y else .handled { y with sweep.attemptDue := false })) ∧
     -- the suspect queue
     ((¬ ((s.sweep.state = .running ∨ s.sweep.state = .waiting) ∧ may ∧ room) ∨ s.sweep.suspects = [] →
         ∀ moved, s.serveSuspect moved = (.passed s, moved)) ∧
       ∀ e rest moved, (s.sweep.state = .running ∨ s.sweep.state = .waiting) → may → room →
         s.sweep.suspects = e :: rest →
         let u : State := { s with sweep.suspects := rest }
         let asked := s.requestRoutine (fresh e.line e.plan) (.suspect e.reason)
         (e.line ∈ moved → s.serveSuspect moved = (.passed s, moved)) ∧
         (e.line ∉ moved →
           ((s.line e.line).cls = 0 → s.serveSuspect moved = (.handled u, moved)) ∧
           ((s.line e.line).cls ≠ 0 → ready e.line →
             (∀ v, asked = .started v → s.serveSuspect moved = (.started { v with sweep.suspects := rest }, moved)) ∧
             (asked = .refused .noChannel → s.serveSuspect moved = (.ended s, moved)) ∧
             (asked = .refused .noBus → s.serveSuspect moved = (.passed s, moved)) ∧
             (∀ r, asked = .refused r → r ≠ .noChannel → r ≠ .noBus →
               s.serveSuspect moved = (.handled (missed u e.line), moved))) ∧
           ((s.line e.line).cls ≠ 0 → ¬ ready e.line →
             (e.requeued = true → s.serveSuspect moved = (.handled (missed u e.line), moved)) ∧
             (e.requeued = false → s.serveSuspect moved =
               (.passed { s with sweep.suspects := rest ++ [{ e with requeued := true }] }, e.line :: moved))))) ∧
     -- the walk
     ((s.sweep.walk = .unset ∨ s.sweep.walk = .done ∨ ¬ (s.sweep.state = .running ∧ may ∧ room) →
         s.serveWalk = .passed s) ∧
       ∀ i l q, s.sweep.state = .running → may → room → s.sweep.walk = .onLine i l → s.sweep.config.ranges[i]? = some q →
         let r := s.line l
         let asked := s.requestRoutine (fresh l q.plan) .walk
         -- the candidate is handled: a mark on it is reported and used up, and the walk goes on by one line
         let past := fun (u : State) (how : Nat) =>
           let v := if s.sweep.mark = some (i, l - q.first) ∧ q.first ≤ l then
               { u.notify .sweep (byte1 4 ++ (byte1 s.sweep.passNumber ++ byte1 i ++ byte2 l ++ byte1 how)) with
                 sweep := { u.sweep with mark := none } }
             else u
           { v with sweep := { v.sweep with walk := if l < q.last then .onLine i (l + 1)
             else match s.sweep.config.ranges[i + 1]? with
               | some n => .onLine (i + 1) n.first
               | none => .done } }
         let counted := fun k : Counts => if s.sweep.underWay then { s with sweep.counts := k } else s
         let c := s.sweep.counts
         let held := ∃ e ∈ s.sweep.revisits, e.line = l
         (r.cls = 0 → s.serveWalk = .handled (past s 1)) ∧
         (r.cls ≠ 0 →
           (r.inhibit = true →
             s.serveWalk = .handled (past (counted { c with inhibited := min 65535 (c.inhibited + 1) }) 2)) ∧
           (r.inhibit = false → r.hazard = true →
             s.serveWalk = .handled (past (counted { c with hazard := min 65535 (c.hazard + 1) }) 3)) ∧
           (r.inhibit = false → r.hazard = false → r.access ≠ .free →
             s.serveWalk = .handled (past (counted { c with busy := min 65535 (c.busy + 1) }) 4)) ∧
           (r.inhibit = false → r.hazard = false → r.access = .free → r.condition ≠ .idle →
             (s.sweep.revisits.length < 64 → ¬ held → s.serveWalk = .handled (past
               { counted { c with deferred := min 65535 (c.deferred + 1) } with
                 sweep.revisits := s.sweep.revisits ++ [⟨l, q.plan⟩] } 5)) ∧
             (64 ≤ s.sweep.revisits.length ∨ held → s.serveWalk = .handled (past (missed s l) 6))) ∧
           (r.inhibit = false → r.hazard = false → ready l →
             (∀ u, asked = .started u → s.serveWalk = .started (past u 0)) ∧
             (asked = .refused .noChannel → s.serveWalk = .ended s) ∧
             (asked = .refused .noBus → s.serveWalk = .passed s) ∧
             (∀ x, asked = .refused x → x ≠ .noChannel → x ≠ .noBus →
               s.serveWalk = .handled (past (missed s l) 6))))) ∧
     -- the revisit list
     ((¬ (s.sweep.state = .running ∧ may ∧ room ∧ s.sweep.walk = .done) ∨ s.sweep.revisits = [] →
         s.serveRevisit = .passed s) ∧
       ∀ e rest, s.sweep.state = .running → may → room → s.sweep.walk = .done → s.sweep.revisits = e :: rest →
         let u : State := { s with sweep.revisits := rest }
         let asked := s.requestRoutine (fresh e.line e.plan) .revisit
         ((s.line e.line).cls = 0 → s.serveRevisit = .handled u) ∧
         ((s.line e.line).cls ≠ 0 → ¬ ready e.line → s.serveRevisit = .handled (missed u e.line)) ∧
         ((s.line e.line).cls ≠ 0 → ready e.line →
           (∀ v, asked = .started v → s.serveRevisit = .started { v with sweep.revisits := rest }) ∧
           (asked = .refused .noChannel → s.serveRevisit = .ended s) ∧
           (asked = .refused .noBus → s.serveRevisit = .passed s) ∧
           (∀ r, asked = .refused r → r ≠ .noChannel → r ≠ .noBus →
             s.serveRevisit = .handled (missed u e.line))))) ∧
  (∀ (s : State) (moved : List Nat) (n : Nat),
    let one := State.contextsOn (s.sweep.suspended.length + 1) s
    (∀ u, one = .started u → State.attempt (n + 1) moved s = State.attempt n moved u) ∧
    (∀ u, one = .ended u → State.attempt (n + 1) moved s = u) ∧
    (∀ s1, one = .passed s1 →
      let two := State.suspectsOn (s1.sweep.suspects.length + 1) s1 moved
      (∀ u m, two = (.started u, m) → State.attempt (n + 1) moved s = State.attempt n m u) ∧
      (∀ u m, two = (.ended u, m) → State.attempt (n + 1) moved s = u) ∧
      (∀ s2 m, two = (.passed s2, m) →
        let three := State.walkOn (candidates s2.sweep.config.ranges + 1) s2
        (∀ u, three = .started u → State.attempt (n + 1) moved s = State.attempt n m u) ∧
        (∀ u, three = .ended u → State.attempt (n + 1) moved s = u) ∧
        (∀ s3, three = .passed s3 →
          let four := State.revisitsOn (s3.sweep.revisits.length + 1) s3
          (∀ u, four = .started u → State.attempt (n + 1) moved s = State.attempt n m u) ∧
          (∀ u, four = .ended u ∨ four = .passed u → State.attempt (n + 1) moved s = u))))) ∧
  (∀ (s : State) (n : Nat),
    (∀ u, s.serveContext = .handled u → State.contextsOn (n + 1) s = State.contextsOn n u) ∧
    ((∀ u, s.serveContext ≠ .handled u) → State.contextsOn (n + 1) s = s.serveContext) ∧
    (∀ u, s.serveWalk = .handled u → State.walkOn (n + 1) s = State.walkOn n u) ∧
    ((∀ u, s.serveWalk ≠ .handled u) → State.walkOn (n + 1) s = s.serveWalk) ∧
    (∀ u, s.serveRevisit = .handled u → State.revisitsOn (n + 1) s = State.revisitsOn n u) ∧
    ((∀ u, s.serveRevisit ≠ .handled u) → State.revisitsOn (n + 1) s = s.serveRevisit) ∧
    ∀ moved,
      (∀ u m, s.serveSuspect moved = (.handled u, m) → State.suspectsOn (n + 1) s moved = State.suspectsOn n u m) ∧
      ((∀ u m, s.serveSuspect moved ≠ (.handled u, m)) → State.suspectsOn (n + 1) s moved = s.serveSuspect moved))

/-- The booking of a routine test's end: the line's last sweep pass and last routine outcome, and the counts of a test that belongs to
the pass under way; a test that does not belong changes no count. A start attempt follows.
In the pass: TESTED and the count of the highest verdict, FAIL, MARGINAL, INDETERMINATE (also an outcome other than COMPLETED), PASS;
a yielded test of the walk or of the suspect queue is DEFERRED and put on the revisit list, or MISSED in DRAINING, with that list full
or holding the line; a yielded revisit is MISSED.
By its origin: the first MARGINAL result of a test of the walk or of the revisits offers the line to the suspect queue with that step;
a suspect test for a MARGINAL step that is MARGINAL again raises the step's class on the line; one for FLAP that completes with no
result but PASS and UNJUDGED clears INTERMITTENT_LOOP; one for SUSPECT does nothing more.
An offer to the suspect queue: nothing in STOPPED or DRAINING or for a line the queue holds; counted SUSPECT_DROPPED in a pass if the
queue is full; otherwise at the tail, with a start attempt due.
A context that ends YIELDED is reported with channel 0xFF and booked. -/
def Obligations.RoutineEndBooked : Prop :=
  (∀ (s : State) (e : RoutineEnd),
     let has := fun v : Verdict => e.results.any fun r => r.verdict == v
     let cls : RoutineOutcome :=
       if has .fail then .fail
       else if has .marginal then .marginal
       else if has .indeterminate || e.outcome != some .completed then .indeterminate
       else if has .pass then .pass
       else .unset
     let mine := s.sweep.underWay && e.startedInPass && e.pass == s.sweep.passNumber
     let u := s.bookEnd e
     u.line e.line = { s.line e.line with
       lastPass := e.pass, lastOutcome := if e.outcome = some .yielded then .missed else cls } ∧
     (∀ m, m ≠ e.line → u.line m = s.line m) ∧
     (mine = false → u.sweep = s.sweep) ∧
     (mine = true → e.outcome ≠ some .yielded → u.sweep.counts.tested = min 65535 (s.sweep.counts.tested + 1) ∧
       u.sweep.counts.fail = (if cls = .fail then min 65535 (s.sweep.counts.fail + 1) else s.sweep.counts.fail) ∧
       u.sweep.counts.pass = (if cls = .pass then min 65535 (s.sweep.counts.pass + 1) else s.sweep.counts.pass) ∧
       u.sweep.revisits = s.sweep.revisits) ∧
     (mine = true → e.outcome = some .yielded → e.origin = .walk → s.sweep.state ≠ .draining →
       s.sweep.revisits.length < 64 → (∀ r ∈ s.sweep.revisits, r.line ≠ e.line) →
       u.sweep.revisits = s.sweep.revisits ++ [⟨e.line, e.plan⟩] ∧
       u.sweep.counts = { s.sweep.counts with deferred := min 65535 (s.sweep.counts.deferred + 1) }) ∧
     (mine = true → e.outcome = some .yielded → e.origin = .revisit →
       u.sweep.revisits = s.sweep.revisits ∧
       u.sweep.counts = { s.sweep.counts with missed := min 65535 (s.sweep.counts.missed + 1) })) ∧
  -- the actions by origin, and the attempt that follows
  (∀ (s : State) (e : RoutineEnd),
    let u := s.bookEnd e
    let booked := fun v : State => s.routineEnded e = { v with sweep := { v.sweep with attemptDue := true } }
    (e.origin = .walk ∨ e.origin = .revisit →
      ((∀ r ∈ e.results, r.verdict ≠ .marginal) → booked u) ∧
      (∀ before r after, e.results = before ++ r :: after → r.verdict = .marginal →
        (∀ x ∈ before, x.verdict ≠ .marginal) → booked (u.offerSuspect e.line e.plan (.marginal r.step)))) ∧
    (∀ i, e.origin = .suspect (.marginal i) →
      ((∀ r ∈ e.results, r.step ≠ i) → booked u) ∧
      (∀ before r after, e.results = before ++ r :: after → r.step = i → (∀ x ∈ before, x.step ≠ i) →
        (r.verdict = .marginal → booked (u.raise .line e.line r.cls
          (some ⟨none, some ⟨r.kind, r.arrangement, r.value, r.quals, .marginal, .sweep⟩⟩))) ∧
        (r.verdict ≠ .marginal → booked u))) ∧
    (e.origin = .suspect .flap →
      (e.outcome = some .completed ∧ (∀ r ∈ e.results, r.verdict = .pass ∨ r.verdict = .unjudged) →
        booked (u.clearTicket .line e.line .intermittentLoop)) ∧
      (¬ (e.outcome = some .completed ∧ ∀ r ∈ e.results, r.verdict = .pass ∨ r.verdict = .unjudged) → booked u)) ∧
    (e.origin = .suspect .desk ∨ e.origin = .unset → booked u)) ∧
  -- an offer to the suspect queue
  (∀ (s : State) (l p : Nat) (why : Reason),
    let held := ∃ e ∈ s.sweep.suspects, e.line = l
    (s.sweep.state ∈ [SweepState.stopped, .draining] ∨ held → s.offerSuspect l p why = s) ∧
    (s.sweep.state ∉ [SweepState.stopped, .draining] → ¬ held → 16 ≤ s.sweep.suspects.length →
      s.offerSuspect l p why = { s with sweep := { s.sweep with counts :=
        if s.sweep.underWay then { s.sweep.counts with dropped := min 65535 (s.sweep.counts.dropped + 1) }
        else s.sweep.counts } }) ∧
    (s.sweep.state ∉ [SweepState.stopped, .draining] → ¬ held → s.sweep.suspects.length < 16 →
      s.offerSuspect l p why = { s with sweep := { s.sweep with
        suspects := s.sweep.suspects ++ [⟨l, p, why, false⟩], attemptDue := true } })) ∧
  -- a context that ends YIELDED is reported with channel 0xFF and booked
  (∀ (s : State) (c : Context), s.yieldContext c =
    (s.notify .testReport (byte2 c.line ++ byte1 c.plan ++ byte1 2 ++ byte1 0xFF ++ byte1 0xFF ++ byte1 0 ++
      byte4 s.minute.toNat ++ [2] ++ byte1 c.pass ++ byte1 (s.planLength c.plan) ++ byte1 c.results.length ++ flagByte true ++
      byte1 c.rep ++ signed4 0 ++ c.results.flatMap StepResult.bytes)).routineEnded
      ⟨c.line, c.plan, c.pass, c.startedInPass, some .yielded, c.results, c.origin⟩) ∧
  -- the other counts, and every yield of a test that belongs to the pass
  (∀ (s : State) (e : RoutineEnd), s.sweep.underWay = true → e.startedInPass = true → e.pass = s.sweep.passNumber →
    let has := fun v : Verdict => e.results.any fun r => r.verdict == v
    let c := s.sweep.counts
    let tested := { c with tested := min 65535 (c.tested + 1) }
    let u := s.bookEnd e
    let held := ∃ r ∈ s.sweep.revisits, r.line = e.line
    let classed := if has .fail then { tested with fail := min 65535 (c.fail + 1) }
      else if has .marginal then { tested with marginal := min 65535 (c.marginal + 1) }
      else if has .indeterminate ∨ e.outcome ≠ some .completed then
        { tested with indeterminate := min 65535 (c.indeterminate + 1) }
      else if has .pass then { tested with pass := min 65535 (c.pass + 1) }
      else tested
    (e.outcome ≠ some .yielded → u.sweep = { s.sweep with counts := classed }) ∧
    (e.outcome = some .yielded → (e.origin = .walk ∨ ∃ why, e.origin = .suspect why) →
      (s.sweep.state ≠ .draining → s.sweep.revisits.length < 64 → ¬ held → u.sweep = { s.sweep with
        revisits := s.sweep.revisits ++ [⟨e.line, e.plan⟩]
        counts := { c with deferred := min 65535 (c.deferred + 1) } }) ∧
      (s.sweep.state = .draining ∨ 64 ≤ s.sweep.revisits.length ∨ held → u.sweep = { s.sweep with
        counts := { c with missed := min 65535 (c.missed + 1) } })) ∧
    (e.outcome = some .yielded → e.origin = .revisit → u.sweep = { s.sweep with
      counts := { c with missed := min 65535 (c.missed + 1) } }))

/-- A raise: it updates the entry it finds, reopening a CLEARED one; with none it creates one in a table with room; in a full table the
CLEARED entry seen longest ago, the lowest number among equals, makes room; with no CLEARED entry a raise of a safety class takes
the place of the CONFIRMED entry of another class seen longest ago, and any other is lost, counted, with the TABLE_FULL arm spent.
Last-seen minutes are compared as unsigned numbers (log entry 41). The entry created has the number freeNumber gives for the entries
that stay, and the next number follows it.
Its notices: UPDATED or REOPENED with the entry as changed; EVICTED with the entry as removed and then CREATED; CREATED alone in a
table with room; for a lost raise TABLE_FULL if armed, and nothing if not. The entry's bytes are R173's. An eviction arms TABLE_FULL,
and a line's open-ticket count goes with its entries.
The number a new entry is given: the first, counting upward from the next number with 1 after 65535, that no entry holds.
A clear request makes its entry CLEARED, with a notice, unless there is none or it is CLEARED already. -/
def Obligations.TicketRaisedAndNumbered : Prop :=
  (∀ (s : State) (k : SubjectKind) (n : Nat) (c : FaultClass) (ev : Option Evidence),
      let u := s.raise k n c ev
      let made := fun m : Nat => (⟨m, k, n, c, .opened, s.minute, s.minute, 1, 0, ev, []⟩ : Ticket)
      -- the raise creates its entry, with `left` the entries that stay in the table
      let creates := fun left : List Ticket =>
        let m := freeNumber left 257 s.tickets.nextNumber
        u.tickets.entries = left ++ [made m] ∧ u.tickets.nextNumber = (if 65535 ≤ m then 1 else m + 1) ∧
          u.tickets.overflow = s.tickets.overflow
      -- `x` is the entry of those with property `p` that gives up its place
      let gives := fun (p : Ticket → Prop) (x : Ticket) => x ∈ s.tickets.entries ∧ p x ∧
        ∀ y ∈ s.tickets.entries, p y → x.lastSeen.toNat < y.lastSeen.toNat ∨
          (x.lastSeen = y.lastSeen ∧ x.number ≤ y.number)
      let plain := fun x : Ticket => x.state = .confirmed ∧ x.cls ≠ .foreignVoltage ∧ x.cls ≠ .relayStuck
      (∀ before t after, s.tickets.entries = before ++ t :: after → t.kind = k → t.subject = n → t.cls = c →
        (∀ x ∈ before, ¬ (x.kind = k ∧ x.subject = n ∧ x.cls = c)) → (∀ x ∈ before ++ after, x.number ≠ t.number) →
        u.tickets = { s.tickets with entries := before ++ { t with
          occurrences := min 255 (t.occurrences + 1), lastSeen := s.minute, evidence := ev
          state := if t.state = .cleared then .opened else t.state
          reopens := if t.state = .cleared then min 15 (t.reopens + 1) else t.reopens } :: after }) ∧
      ((∀ x ∈ s.tickets.entries, ¬ (x.kind = k ∧ x.subject = n ∧ x.cls = c)) →
        (s.tickets.entries.length < 256 →
          creates s.tickets.entries ∧ u.tickets.armed = s.tickets.armed) ∧
        (256 ≤ s.tickets.entries.length → ∀ x, gives (fun y => y.state = .cleared) x →
          (∀ y ∈ s.tickets.entries, y.number = x.number → y = x) →
          creates (s.tickets.entries.filter fun y => y.number != x.number) ∧ u.tickets.armed = true) ∧
        (256 ≤ s.tickets.entries.length → (∀ x ∈ s.tickets.entries, x.state ≠ .cleared) →
          (c = .foreignVoltage ∨ c = .relayStuck) → ∀ x, gives plain x →
          (∀ y ∈ s.tickets.entries, y.number = x.number → y = x) →
          creates (s.tickets.entries.filter fun y => y.number != x.number) ∧ u.tickets.armed = true) ∧
        (256 ≤ s.tickets.entries.length → (∀ x ∈ s.tickets.entries, x.state ≠ .cleared) →
          ((c ≠ .foreignVoltage ∧ c ≠ .relayStuck) ∨ ∀ x ∈ s.tickets.entries, ¬ plain x) →
          u.tickets = { s.tickets with overflow := min 65535 (s.tickets.overflow + 1), armed := false } ∧
          u.lines = s.lines))) ∧
  (∀ (entries : List Ticket) (next : Nat), entries.length ≤ 256 → 1 ≤ next → next ≤ 65535 →
      ∃ j, j < 257 ∧ freeNumber entries 257 next = (next - 1 + j) % 65535 + 1 ∧
        (∀ t ∈ entries, t.number ≠ freeNumber entries 257 next) ∧
        ∀ i, i < j → ∃ t ∈ entries, t.number = (next - 1 + i) % 65535 + 1) ∧
  (∀ (s : State) (k : SubjectKind) (n : Nat) (c : FaultClass),
      let u := s.clearTicket k n c
      ((∀ x ∈ s.tickets.entries, ¬ (x.kind = k ∧ x.subject = n ∧ x.cls = c)) → u = s) ∧
      (∀ before t after, s.tickets.entries = before ++ t :: after → t.kind = k → t.subject = n → t.cls = c →
        (∀ x ∈ before, ¬ (x.kind = k ∧ x.subject = n ∧ x.cls = c)) →
        (t.state = .cleared → u = s) ∧
        (t.state ≠ .cleared → (∀ x ∈ before ++ after, x.number ≠ t.number) →
          u = ({ s with tickets.entries := before ++ { t with state := .cleared } :: after } : State).notify .ticket
            (byte1 4 ++ ({ t with state := .cleared } : Ticket).bytes)))) ∧
  -- the notices of a raise, in their order
  (∀ (s : State) (k : SubjectKind) (n : Nat) (c : FaultClass) (ev : Option Evidence),
      let u := s.raise k n c ev
      let counted := fun (v : State) (kind : SubjectKind) (l : Nat) (g : Nat → Nat) =>
        if kind = .line then v.setLine l { v.line l with ticketCount := g (v.line l).ticketCount } else v
      -- the entry is created in `v`: CREATED is offered, and a line's open-ticket count rises
      let created := fun v : State =>
        let m := freeNumber v.tickets.entries 257 v.tickets.nextNumber
        let t : Ticket := ⟨m, k, n, c, .opened, s.minute, s.minute, 1, 0, ev, []⟩
        counted (({ v with
          tickets.entries := v.tickets.entries ++ [t]
          tickets.nextNumber := if 65535 ≤ m then 1 else m + 1 } : State).notify .ticket (byte1 1 ++ t.bytes)) k n (· + 1)
      (∀ before t after, s.tickets.entries = before ++ t :: after → t.kind = k → t.subject = n → t.cls = c →
        (∀ x ∈ before, ¬ (x.kind = k ∧ x.subject = n ∧ x.cls = c)) → (∀ x ∈ before ++ after, x.number ≠ t.number) →
        let t' : Ticket := { t with
          occurrences := min 255 (t.occurrences + 1), lastSeen := s.minute, evidence := ev
          state := if t.state = .cleared then .opened else t.state
          reopens := if t.state = .cleared then min 15 (t.reopens + 1) else t.reopens }
        u = ({ s with tickets.entries := before ++ t' :: after } : State).notify .ticket
          (byte1 (if t.state = .cleared then 3 else 2) ++ t'.bytes)) ∧
      ((∀ x ∈ s.tickets.entries, ¬ (x.kind = k ∧ x.subject = n ∧ x.cls = c)) →
        (s.tickets.entries.length < 256 → u = created s) ∧
        -- with an entry evicted, EVICTED goes before CREATED
        (256 ≤ s.tickets.entries.length → ∀ x, s.evictee c = some x →
          u = created ((counted { s with
            tickets.entries := s.tickets.entries.filter fun y => y.number != x.number
            tickets.armed := true } x.kind x.subject (· - 1)).notify .ticket (byte1 5 ++ x.bytes))) ∧
        -- a raise that is lost
        (256 ≤ s.tickets.entries.length → s.evictee c = none →
          let overflow := min 65535 (s.tickets.overflow + 1)
          (s.tickets.armed = true → u =
            ({ s with tickets.overflow := overflow, tickets.armed := false } : State).notify .ticket
              (byte1 6 ++ byte1 k.code ++ byte2 n ++ byte1 c.code ++ byte2 overflow)) ∧
          (s.tickets.armed = false → u = { s with tickets.overflow := overflow })))) ∧
  (∀ t : Ticket, t.bytes = byte2 t.number ++ byte1 t.kind.code ++ byte2 t.subject ++ byte1 t.cls.code ++
      byte1 t.state.code ++ byte4 t.firstSeen.toNat ++ byte4 t.lastSeen.toNat ++ byte1 t.occurrences ++
      byte1 t.reopens ++ (match t.evidence with
        | none => [0]
        | some e => [1] ++ (match e.related with
            | none => [0]
            | some l => [1] ++ byte2 l) ++ (match e.measured with
            | none => [0]
            | some m => [1] ++ (byte1 m.kind.code ++ byte1 m.arrangement.code ++ signed4 m.value ++ byte1 m.quals.code ++
                byte1 m.verdict.code ++ byte1 m.originator.code ++ byte1 0))) ++
      (byte1 t.note.length ++ t.note)) ∧
  -- the names of R37 in an entry
  ([SubjectKind.line, .card, .bus, .head].map SubjectKind.code = [0, 1, 2, 3] ∧
    [TicketState.opened, .confirmed, .cleared].map TicketState.code = [0, 1, 2] ∧
    [FaultClass.lowInsulationTg, .lowInsulationRg, .lowInsulationTr, .loopResistance, .foreignDc, .foreignAc,
      .foreignBattery, .intermittentLoop, .foreignVoltage, .relayNoMake, .relayStray, .relayStuck, .headSilent,
      .headCalDue, .headCalFail, .cardFault].map FaultClass.code = [1, 2, 3, 4, 5, 6, 7, 8, 9, 10, 11, 12, 13, 14, 15, 16])

/-! ## What every step keeps -/

/-- The numbered stores stay in their canonical form, the model's own way of holding them (log entry 34). -/
def Obligations.StepsKeepStoresCanonical : Prop := ∀ s t : State, s.Canonical → step s = .next t → t.Canonical

/-- No queue and no collection outgrows the room the spec gives it: the transit queues, the S-own queue, the command queue, the hold
queue, the revisits, the suspect queue, the tickets and the sweep list, loaded and latched.
The notice queue with its reservations stays within 64, its unsolicited entries within 56, and every response owed has its
reservation; the STARTED notice of a start-up, which enters unasked, needs room of its own, which the empty queue after a cold
reset has. -/
def Obligations.StepsKeepQueuesWithinRooms : Prop :=
  (∀ s t : State, s.WithinRooms → step s = .next t → t.WithinRooms) ∧
  (∀ s t : State, s.NoticesWithinRoom →
    (∀ rest, s.pending = .bypassEnd :: rest → s.desk.notices.length + s.desk.reservations < 64 ∧
      s.desk.notices.countP (fun n => n.kind != .response) < 56) →
    step s = .next t → t.NoticesWithinRoom)

/-- One entry for a subject and class, numbers distinct and nonzero, and each line's open-ticket count the number of entries that name
it. -/
def Obligations.StepsKeepTicketsSound : Prop := ∀ s t : State, s.TicketsSound → step s = .next t → t.TicketsSound

/-- Suspended contexts and channels with ROUTINE tests number at most 4. -/
def Obligations.StepsKeepRoutineWithinFour : Prop :=
  ∀ s t : State, s.RoutineWithinFour → step s = .next t → t.RoutineWithinFour

/-- No channel in TAPPING to MEASURING stands at or above the exposure limit. -/
def Obligations.StepsKeepExposureBelowLimit : Prop :=
  ∀ s t : State, s.ExposureBelowLimit → step s = .next t → t.ExposureBelowLimit

/-- A line of class 0 is UNKNOWN or CARD_DOWN. -/
def Obligations.StepsKeepUnequippedUntracked : Prop :=
  ∀ s t : State, s.UnequippedUntracked → step s = .next t → t.UnequippedUntracked

/-- Every line named by a FOREIGN_VOLTAGE ticket has its hazard flag set, whatever commands, trips, evictions and closes come. -/
def Obligations.StepsKeepHazardWithTicket : Prop :=
  ∀ s t : State, s.HazardWithTicket → step s = .next t → t.HazardWithTicket

/-- The machine after reset meets every invariant that the steps keep. -/
def Obligations.ResetMeetsInvariants : Prop :=
  State.reset.Canonical ∧ State.reset.WithinRooms ∧ State.reset.NoticesWithinRoom ∧ State.reset.TicketsSound ∧ State.reset.RoutineWithinFour ∧
    State.reset.ExposureBelowLimit ∧ State.reset.UnequippedUntracked ∧ State.reset.HazardWithTicket

/-- Transit frames pass in their order and byte for byte: but for a cold reset, a transit queue changes only by the very bytes that
arrived joining its tail, and by its head leaving at the departure of a frame. -/
def Obligations.TransitFramesPassInOrder : Prop :=
  ∀ (c : Instr) (s t : State), c ≠ .coldReset → exec c s = .next t →
    (t.link.down = s.link.down ∨ (∃ f, c = .frameArrivesPortU f ∧ t.link.down = s.link.down ++ [f]) ∨
      (c = .frameLeavesPort .s ∧ t.link.down = s.link.down.tail)) ∧
    (t.link.up = s.link.up ∨ (∃ f, c = .frameArrivesPortS f ∧ t.link.up = s.link.up ++ [f]) ∨
      (c = .frameLeavesPort .u ∧ t.link.up = s.link.up.tail))

/-- A frame in the S-own queue, or an offer still waiting, is not withdrawn: but for a cold reset, the frames that wait for Port S change
only by new ones joining behind, and by the head leaving when its last byte has been sent. -/
def Obligations.OwnFramesAreNotWithdrawn : Prop :=
  ∀ (c : Instr) (s t : State), c ≠ .coldReset → exec c s = .next t →
    (∃ new, t.ownFrames = s.ownFrames ++ new) ∨ (c = .frameLeavesPort .s ∧ t.ownFrames = s.ownFrames.tail)

/-! ## Desk commands -/

/-- The Command Unit takes the command at the head of its queue when it can: an unknown code is answered BAD_COMMAND and parameters
shorter than the command's fields BAD_PARAM, both with empty bodies, and nothing else changes. A desk command whose frame does not
head the queue, or that cannot be taken now, changes nothing (log entry 3).
The command of each code of a DESK frame, and the codes of notice kinds and results in a NOTICE frame. -/
def Obligations.CommandsTakenAndRefused : Prop :=
  (∀ (s : State) (tag : Byte) (ps : Bytes) (rest : List Bytes), s.Ready .unknownCommand tag ps rest →
    exec .unknownCommand s = .next (s.answered rest tag .badCommand [])) ∧
  (∀ (c : Instr) (n : Nat) (s : State) (tag : Byte) (ps : Bytes) (rest : List Bytes), fewestBytes c = some n →
    ps.length < n → s.Ready c tag ps rest → exec c s = .next (s.answered rest tag .badParam [])) ∧
  (∀ (c : Instr) (s : State), isDeskCommand c = true →
    (s.desk.commands = [] ∨ s.phase ≠ .normal ∨ (∃ h, h < 4 ∧ (s.chan h).pendingAbort ≠ none) ∨
      64 ≤ s.desk.notices.length + s.desk.reservations ∨
      ∃ f rest, s.desk.commands = f :: rest ∧ deskCommand f ≠ c) →
    exec c s = .next s) ∧
  -- the codes of notices and of results, and the frame of a notice
  ((∀ n : Notice, noticeFrame n = makeFrame 0x31 0 30 ([n.tag] ++ byte1 n.kind.code ++ [n.result] ++ n.body)) ∧
    (∀ f : Bytes, deskTag f = f.getD 4 0 ∧ deskParams f = ((f.drop 4).take (byteAt f 3)).drop 2 ∧
      ∀ c, c ≠ .unknownCommand → (deskCommand f = c ↔ (byteAt f 5, c) ∈ [(0x01, Instr.loadLines), (0x02, .lineRead),
        (0x03, .inhibit), (0x04, .clearHazard), (0x10, .loadBusmap), (0x11, .clearStuck), (0x20, .loadStep),
        (0x21, .loadPlan), (0x22, .test), (0x23, .abort), (0x24, .returnHead), (0x30, .loadProfile), (0x31, .calibrate),
        (0x32, .setCalCoef), (0x40, .sweepLoad), (0x41, .sweepStart), (0x42, .sweepStop), (0x43, .sweepPause),
        (0x44, .sweepResume), (0x45, .sweepMark), (0x46, .suspect), (0x50, .ticketRead), (0x51, .ticketAck),
        (0x52, .ticketClose), (0x53, .ticketNote), (0x60, .setParam), (0x61, .status), (0x62, .restart)])) ∧
    [NoticeKind.response, .testReport, .ticket, .orderLapsed, .orderRefused, .step, .sweep, .lost, .started].map
      NoticeKind.code = [1, 2, 3, 4, 5, 6, 7, 8, 9] ∧
    [Result.ok, .clamped, .badCommand, .badParam, .inUse, .busy, .noChannel, .noBus, .lineBusy, .lineUnequipped,
      .lineInhibited, .lineHazard, .planInvalid, .notFound, .calFailed, .starting].map Result.code =
        [0x00, 0x01, 0x10, 0x11, 0x12, 0x13, 0x20, 0x21, 0x22, 0x23, 0x24, 0x25, 0x26, 0x30, 0x31, 0x32])

/-- LINE_READ, INHIBIT and CLEAR_HAZARD, with every answer: a line above 4095 is BAD_PARAM; LINE_READ gives the whole record (its names in
one byte each: log entry 39; its class and profiles in one byte each: log entry 42; its access with a channel as an optional part: log
entry 15); INHIBIT writes the flag; CLEAR_HAZARD is refused IN_USE while a FOREIGN_VOLTAGE entry names the line, and clears the flag
otherwise.
LOAD_LINES: a count of 0 or above 16, or a group beyond line 4095, is BAD_PARAM; a class of 0 for a line whose access is not FREE is
IN_USE with the lowest such line; otherwise every line of the group takes its entry's fields, a class of 0 makes the line UNKNOWN
unless it is CARD_DOWN and resets its flap state, a card with a loaded UNKNOWN line has an audit outstanding, and no other line
changes.
Fewer entries than counted, a class above 15, a profile above 7 or an inhibit value above 1 in any of those counted is BAD_PARAM. -/
def Obligations.LineCommandsAndLoads : Prop :=
  (∀ (s : State) (tag a b : Byte) (ps : Bytes) (rest : List Bytes),
      let l := a.toNat * 256 + b.toNat
      let r := s.line l
      (s.Ready .lineRead tag (a :: b :: ps) rest →
        (4096 ≤ l → exec .lineRead s = .next (s.answered rest tag .badParam [])) ∧
        (l < 4096 → exec .lineRead s = .next (s.answered rest tag .ok
          (byte2 l ++ byte1 r.cls ++ byte1 r.tipProfile ++ byte1 r.ringProfile ++ flagByte r.inhibit ++
            byte1 r.condition.code ++ r.access.bytes ++ flagByte r.hazard ++ byte1 r.ticketCount ++
            byte1 r.flapInterval ++ byte1 r.flapCount ++ byte1 r.lastPass ++ byte1 r.lastOutcome.code ++
            flagByte (s.audit (l / 16)).flag)))) ∧
      (∀ v : Byte, s.Ready .inhibit tag (a :: b :: v :: ps) rest →
        (4096 ≤ l ∨ 1 < v.toNat → exec .inhibit s = .next (s.answered rest tag .badParam [])) ∧
        (l < 4096 → v.toNat ≤ 1 → exec .inhibit s =
          .next ((s.setLine l { r with inhibit := v == 1 }).answered rest tag .ok []))) ∧
      (s.Ready .clearHazard tag (a :: b :: ps) rest →
        (4096 ≤ l → exec .clearHazard s = .next (s.answered rest tag .badParam [])) ∧
        (l < 4096 → (∃ t ∈ s.tickets.entries, t.kind = .line ∧ t.subject = l ∧ t.cls = .foreignVoltage) →
          exec .clearHazard s = .next (s.answered rest tag .inUse [])) ∧
        (l < 4096 → (∀ t ∈ s.tickets.entries, ¬ (t.kind = .line ∧ t.subject = l ∧ t.cls = .foreignVoltage)) →
          exec .clearHazard s = .next ((s.setLine l { r with hazard := false }).answered rest tag .ok [])))) ∧
  (∀ (s : State) (tag a b : Byte) (es : List LineEntry) (extra : Bytes) (rest : List Bytes),
      let first := a.toNat * 256 + b.toNat
      (∀ (n : Byte) (ps : Bytes), s.Ready .loadLines tag (a :: b :: n :: ps) rest →
        (n.toNat = 0 ∨ 16 < n.toNat ∨ 4096 < first + n.toNat) →
        exec .loadLines s = .next (s.answered rest tag .badParam [])) ∧
      (s.Ready .loadLines tag (a :: b :: (BitVec.ofNat 8 es.length :: es.flatMap LineEntry.bytes) ++ extra) rest →
        1 ≤ es.length → es.length ≤ 16 → first + es.length ≤ 4096 →
        (∀ e ∈ es, e.cls ≤ 15 ∧ e.tip ≤ 7 ∧ e.ring ≤ 7) →
        (∀ k, k < es.length → ((es[k]?).map LineEntry.line) = some (first + k)) →
        (∀ pre e post, es = pre ++ e :: post → e.cls = 0 → (s.line e.line).access ≠ .free →
          (∀ x ∈ pre, x.cls = 0 → (s.line x.line).access = .free) →
          exec .loadLines s = .next (s.answered rest tag .inUse (byte2 e.line))) ∧
        ((∀ e ∈ es, e.cls = 0 → (s.line e.line).access = .free) →
          Answers (exec .loadLines s) fun t =>
            (∀ e ∈ es, t.line e.line = { s.line e.line with
              cls := e.cls, tipProfile := e.tip, ringProfile := e.ring, inhibit := e.inhibit
              condition := if e.cls = 0 ∧ (s.line e.line).condition ≠ .cardDown then .unknown
                else (s.line e.line).condition
              flapCount := if e.cls = 0 then 0 else (s.line e.line).flapCount
              flapInterval := if e.cls = 0 then 255 else (s.line e.line).flapInterval }) ∧
            (∀ m, (∀ e ∈ es, e.line ≠ m) → t.line m = s.line m) ∧
            (∀ e ∈ es, e.cls ≠ 0 → (s.line e.line).condition = .unknown → (t.audit (e.line / 16)).flag = true) ∧
            t.desk = { s.desk with
              commands := rest, notices := s.desk.notices ++ [⟨tag, .response, 0, []⟩] } ∧
            t.chans = s.chans ∧ t.buses = s.buses ∧ t.tickets = s.tickets ∧ t.sweep = s.sweep))) ∧
  -- the names of R37
  ([Condition.unknown, .idle, .offHook, .ringing, .cardDown].map Condition.code = [0, 1, 2, 3, 4] ∧
    (∀ h o, [Access.free, .tapPending h, .tapped h, .releasePending o, .flushing, .stuck].map Access.code =
      [0, 1, 2, 3, 4, 5] ∧
      (Access.tapped h).bytes = byte1 2 ++ [1] ++ byte1 h ∧ (Access.tapPending h).bytes = byte1 1 ++ [1] ++ byte1 h ∧
      (Access.releasePending (some h)).bytes = byte1 3 ++ [1] ++ byte1 h ∧
      (Access.releasePending none).bytes = byte1 3 ++ [0] ∧ Access.free.bytes = byte1 0 ++ [0] ∧
      Access.flushing.bytes = byte1 4 ++ [0] ∧ Access.stuck.bytes = byte1 5 ++ [0]) ∧
    [RoutineOutcome.unset, .pass, .fail, .marginal, .indeterminate, .missed].map RoutineOutcome.code =
      [0, 1, 2, 3, 4, 5]) ∧
  -- too few entries, or an entry out of range
  (∀ (s : State) (tag a b n : Byte) (ps : Bytes) (rest : List Bytes),
      s.Ready .loadLines tag (a :: b :: n :: ps) rest →
      (ps.length < 4 * n.toNat → exec .loadLines s = .next (s.answered rest tag .badParam [])) ∧
      (∀ (k : Nat) (c t r i : Byte) (more : Bytes), k < n.toNat → ps.drop (4 * k) = c :: t :: r :: i :: more →
        15 < c.toNat ∨ 7 < t.toNat ∨ 7 < r.toNat ∨ 1 < i.toNat →
        exec .loadLines s = .next (s.answered rest tag .badParam [])))

/-- LOAD_BUSMAP writes the reach set of a FREE bus and refuses any other with IN_USE. CLEAR_STUCK returns an OUT_OF_SERVICE bus to FREE,
clears the mark of a claimed one, and restores the line either names: a STUCK line that no other bus names becomes FREE, a FLUSHING
one loses its stuck mark; it clears RELAY_STUCK on the bus. A bus in neither case is NOT_FOUND. A bus above 7 is BAD_PARAM. The
ticket and the notice queue are as the clearing of RELAY_STUCK leaves them, CLEARED last, before the start attempt that a bus returned
gives is settled and before the response (log entries 12 and 32). -/
def Obligations.BusCommands : Prop :=
  (∀ (s : State) (tag n : Byte) (ps : Bytes) (rest : List Bytes),
     let b := n.toNat
     (∀ x y : Byte, s.Ready .loadBusmap tag (n :: x :: y :: ps) rest →
       (8 ≤ b → exec .loadBusmap s = .next (s.answered rest tag .badParam [])) ∧
       (b < 8 → (s.bus b).state ≠ .free → exec .loadBusmap s = .next (s.answered rest tag .inUse [])) ∧
       (b < 8 → (s.bus b).state = .free → exec .loadBusmap s = .next ((s.setBus b { s.bus b with
         reach := BitVec.ofNat 16 (x.toNat * 256 + y.toNat) }).answered rest tag .ok []))) ∧
     (s.Ready .clearStuck tag (n :: ps) rest →
       (8 ≤ b → exec .clearStuck s = .next (s.answered rest tag .badParam [])) ∧
       (b < 8 → (s.bus b).state ≠ .outOfService → (s.bus b).oosMark = false →
         exec .clearStuck s = .next (s.answered rest tag .notFound [])) ∧
       (b < 8 → (s.bus b).state = .outOfService →
         ∃ u : State, exec .clearStuck s = .next (u.settle.respond tag .ok []) ∧
           u.bus b = { s.bus b with
             state := .free, commanded := none, confirmed := none, stuckLine := none, oosMark := false } ∧
           u.sweep.attemptDue = true ∧ u.desk.commands = rest ∧ u.desk.reservations = s.desk.reservations + 1 ∧
           (∀ l, (s.bus b).stuckLine = some l → (s.line l).access = .stuck →
             (∀ c, c < 8 → c ≠ b → (s.bus c).stuckLine ≠ some l) → (u.line l).access = .free) ∧
           (∀ l c, (s.bus b).stuckLine = some l → c < 8 → c ≠ b → (s.bus c).stuckLine = some l →
             u.line l = s.line l)) ∧
       (b < 8 → (s.bus b).state ≠ .outOfService → (s.bus b).oosMark = true →
         Answers (exec .clearStuck s) fun t =>
           t.bus b = { s.bus b with stuckLine := none, oosMark := false } ∧ t.desk.commands = rest ∧
           t.desk.notices.getLast? = some ⟨tag, .response, 0, []⟩))) ∧
  (∀ (s : State) (tag n : Byte) (ps : Bytes) (rest : List Bytes),
     let b := n.toNat
     s.Ready .clearStuck tag (n :: ps) rest → b < 8 → ((s.bus b).state = .outOfService ∨ (s.bus b).oosMark = true) →
       ∃ u : State, u.tickets = (s.clearTicket .bus b .relayStuck).tickets ∧
         u.desk = (State.clearTicket { s with
           desk.commands := rest, desk.reservations := s.desk.reservations + 1 } .bus b .relayStuck).desk ∧
         (∀ l, (s.bus b).stuckLine = some l → (s.line l).access = .stuck →
           (∀ c, c < 8 → c ≠ b → (s.bus c).stuckLine ≠ some l) → (u.line l).access = .free) ∧
         (∀ l before out mark after, (s.bus b).stuckLine = some l → (s.line l).access = .flushing →
           (∀ c, c < 8 → c ≠ b → (s.bus c).stuckLine ≠ some l) →
           s.flushes = before ++ ⟨l, out, mark⟩ :: after → (∀ f ∈ before ++ after, f.line ≠ l) →
           u.flushes = before ++ ⟨l, out, false⟩ :: after ∧ u.lines = s.lines) ∧
         ((s.bus b).state = .outOfService → exec .clearStuck s = .next (u.settle.respond tag .ok [])) ∧
         ((s.bus b).state ≠ .outOfService → exec .clearStuck s = .next (u.respond tag .ok [])))

/-- LOAD_STEP: a step in use is IN_USE; otherwise the record is stored with every value brought within its range, the level 0 for a step
that is not RES, answered CLAMPED when a value was changed, with the stored fields. A step index above 127, a name, slot, flag, class
or link outside its set, or a repeat above 7 is BAD_PARAM. LOAD_PLAN: a plan in use is IN_USE; otherwise the entry is replaced and the
answer tells whether the plan is valid and how long its chain is.
A plan is valid when its chain visits loaded steps only, each linked to the next, none twice, and meets END by its 16th step. A plan is
in use by a test on a channel or a context on the suspend list; a step is in use in the chain of a valid plan in use. -/
def Obligations.LoadStepAndPlan : Prop :=
  (∀ (s : State) (tag i ar kd rg l1 l0 k b1 b0 dw mx sl se fc rp sf nt lk : Byte) (extra : Bytes) (rest : List Bytes)
    (arr : Arrangement) (kind : StepKind) (range : Range) (slot : Option Nat) (sense : Sense) (cls : FaultClass)
    (stop note : Bool) (link : Option Nat),
    s.Ready .loadStep tag (i :: ar :: kd :: rg :: l1 :: l0 :: k :: b1 :: b0 :: dw :: mx :: sl :: se :: fc :: rp :: sf ::
      nt :: lk :: extra) rest →
    arrangementOf ar.toNat = some arr → stepKindOf kd.toNat = some kind → rangeOf rg.toNat = some range →
    slotOf sl.toNat = some slot → senseOf se.toNat = some sense → stepClassOf fc.toNat = some cls →
    flagOf sf.toNat = some stop → flagOf nt.toNat = some note → linkOf lk.toNat = some link →
    (127 < i.toNat ∨ 7 < rp.toNat → exec .loadStep s = .next (s.answered rest tag .badParam [])) ∧
    (i.toNat ≤ 127 → rp.toNat ≤ 7 → s.stepInUse i.toNat = true →
      exec .loadStep s = .next (s.answered rest tag .inUse [])) ∧
    (i.toNat ≤ 127 → rp.toNat ≤ 7 → s.stepInUse i.toNat = false →
      let level := (BitVec.ofNat 16 (l1.toNat * 256 + l0.toNat)).toInt
      let band := b1.toNat * 256 + b0.toNat
      let r : StepRec := ⟨arr, kind, if kind = .res then max (-150) (min 150 level) else 0, range,
        max 4 (min 10 k.toNat), max 1 (min 1023 band), max 1 (min 15 dw.toNat), max 1 (min 255 mx.toNat), slot, sense,
        cls, rp.toNat, stop, note, link⟩
      let kept := r.level = level ∧ r.window = k.toNat ∧ r.band = band ∧ r.dwell = dw.toNat ∧ r.maxBlocks = mx.toNat
      (kept → exec .loadStep s = .next ((s.setStepRec i.toNat (some r)).answered rest tag .ok (byte1 i.toNat ++ r.bytes))) ∧
      (¬ kept → exec .loadStep s =
        .next ((s.setStepRec i.toNat (some r)).answered rest tag .clamped (byte1 i.toNat ++ r.bytes))))) ∧
  (∀ (s : State) (tag p f : Byte) (extra : Bytes) (rest : List Bytes),
    s.Ready .loadPlan tag (p :: f :: extra) rest →
    (15 < p.toNat ∨ (127 < f.toNat ∧ f.toNat < 255) → exec .loadPlan s = .next (s.answered rest tag .badParam [])) ∧
    (p.toNat ≤ 15 → (f.toNat ≤ 127 ∨ f.toNat = 255) →
      (s.planInUse p.toNat = true → exec .loadPlan s = .next (s.answered rest tag .inUse [])) ∧
      (s.planInUse p.toNat = false →
        let u := s.setPlan p.toNat (if f.toNat ≤ 127 then some f.toNat else none)
        exec .loadPlan s = .next (u.answered rest tag .ok
          (byte1 p.toNat ++ flagByte (u.planSteps p.toNat).isSome ++ byte1 ((u.planSteps p.toNat).getD []).length))))) ∧
  -- a name, a slot, a flag or a link outside its set
  (∀ (s : State) (tag i ar kd rg l1 l0 k b1 b0 dw mx sl se fc rp sf nt lk : Byte) (extra : Bytes) (rest : List Bytes),
    s.Ready .loadStep tag (i :: ar :: kd :: rg :: l1 :: l0 :: k :: b1 :: b0 :: dw :: mx :: sl :: se :: fc :: rp :: sf ::
      nt :: lk :: extra) rest →
    (127 < i.toNat ∨ 2 < ar.toNat ∨ 2 < kd.toNat ∨ 1 < rg.toNat ∨ (7 < sl.toNat ∧ sl.toNat < 255) ∨ 1 < se.toNat ∨
      fc.toNat = 0 ∨ 6 < fc.toNat ∨ 7 < rp.toNat ∨ 1 < sf.toNat ∨ 1 < nt.toNat ∨
      (127 < lk.toNat ∧ lk.toNat < 255)) →
    exec .loadStep s = .next (s.answered rest tag .badParam [])) ∧
  ((∀ n a, arrangementOf n = some a ↔ (n, a) ∈ [(0, Arrangement.tr), (1, .tg), (2, .rg)]) ∧
    (∀ n a, stepKindOf n = some a ↔ (n, a) ∈ [(0, StepKind.vdc), (1, .vac), (2, .res)]) ∧
    (∀ n a, rangeOf n = some a ↔ (n, a) ∈ [(0, Range.high), (1, .low)]) ∧
    (∀ n a, senseOf n = some a ↔ (n, a) ∈ [(0, Sense.above), (1, .below)]) ∧
    (∀ n a, stepClassOf n = some a ↔ (n, a) ∈ [(1, FaultClass.lowInsulationTg), (2, .lowInsulationRg),
      (3, .lowInsulationTr), (4, .loopResistance), (5, .foreignDc), (6, .foreignAc)]) ∧
    (∀ n a, flagOf n = some a ↔ (n, a) ∈ [(0, false), (1, true)]) ∧
    (∀ n a, slotOf n = some a ↔ (n < 8 ∧ a = some n) ∨ (n = 255 ∧ a = none)) ∧
    (∀ n a, linkOf n = some a ↔ (n < 128 ∧ a = some n) ∨ (n = 255 ∧ a = none))) ∧
  -- a valid plan: loaded steps, none twice, each linked to the next, END at the last, 1 to 16 of them
  (∀ (s : State) (p : Nat) (steps : List Nat), s.planSteps p = some steps ↔
      steps ≠ [] ∧ steps.length ≤ 16 ∧ steps.Nodup ∧ s.plan p = steps.head? ∧
        ∀ i x, steps[i]? = some x → ∃ r, s.stepRec x = some r ∧ r.link = steps[i + 1]?) ∧
  -- what is in use
  (∀ (s : State) (p : Nat), s.planInUse p = true ↔
      (∃ h t, h < 4 ∧ (s.chan h).test = some t ∧ t.plan = p) ∨ ∃ c ∈ s.sweep.suspended, c.plan = p) ∧
  (∀ (s : State) (i : Nat), s.stepInUse i = true ↔
      ∃ p steps, s.planInUse p = true ∧ s.planSteps p = some steps ∧ i ∈ steps)

/-- TEST: parameters out of range are BAD_PARAM; a request that admission refuses is answered with its result and changes nothing else;
an admitted one begins TAPPING on the lowest IDLE channel and the lowest free bus that reaches the line, answered OK with the
channel. The rows of admission, from the top: a class-0 line, an inhibited one for ROUTINE, a hazard without OVERRIDE, a line not FREE
or RINGING or CARD_DOWN or, without BREAK_IN, OFF_HOOK or UNKNOWN, an invalid plan, no channel and, for URGENT, no victim either, no
bus.
Pre-emption: with no IDLE channel an admitted URGENT request takes the channel of the victim, the ROUTINE test in TAPPING to
MEASURING started last, on the lowest channel among equals, and is answered OK with it after the act is settled (log entries 12 and
32): the victim's context goes to the tail of the suspend list (in DRAINING it is discarded), the urgent test is the channel's test
with a handover pending and no exposure, its line is TAP_PENDING, and the release of the victim's line begins. The context's step of
a victim in TAPPING is its first (log entry 26).
The start times of victims are compared as numbers (log entry 9). Where a pre-emption ends a drain, PASS_STOPPED stands before the
response (log entry 28).
The IDLE channel found is the lowest one. -/
def Obligations.TestOnDemandAndPreemption : Prop :=
  (∀ (s : State) (tag a b p pr bi ov o : Byte) (extra : Bytes) (rest : List Bytes),
      let l := a.toNat * 256 + b.toNat
      let q : Request := ⟨l, p.toNat, true, bi == 1, ov == 1⟩
      s.Ready .test tag (a :: b :: p :: pr :: bi :: ov :: o :: extra) rest →
      (4096 ≤ l ∨ 15 < p.toNat ∨ pr ≠ 1 ∨ 1 < bi.toNat ∨ 1 < ov.toNat ∨ 8 < o.toNat →
        exec .test s = .next (s.answered rest tag .badParam [])) ∧
      (l < 4096 → p.toNat ≤ 15 → pr = 1 → bi.toNat ≤ 1 → ov.toNat ≤ 1 → o.toNat ≤ 8 →
        (∀ r, s.refusal q = some r → exec .test s = .next (s.answered rest tag r [])) ∧
        (∀ h bus, s.refusal q = none → s.idleChannel = some h → s.freeBus l = some bus →
          Answers (exec .test s) fun t =>
            (t.chan h).stage = .tapping ∧ (t.chan h).bus = some bus ∧ (t.chan h).exposure = 0 ∧ (t.chan h).peak = 0 ∧
            (t.chan h).test = some
              { line := l, plan := p.toNat, priority := .urgent, originator := .asked o.toNat, breakIn := bi == 1
                overrideHazard := ov == 1, startTime := s.now, startMinute := s.minute, pass := 0
                startedInPass := false, resumed := false, savedRep := 0, startStep := (s.plan p.toNat).getD 0
                results := [], outcome := none } ∧
            (t.line l).access = .tapPending h ∧
            t.bus bus = { s.bus bus with
              state := .claimed h, commanded := some l, confirm := .tied s.link.serial } ∧
            t.ownFrames = s.ownFrames ++ [⟨tapConnectFrame l bus, s.link.serial, .confirm bus⟩] ∧
            t.desk = { s.desk with
              commands := rest, notices := s.desk.notices ++ [⟨tag, .response, 0, byte1 h⟩] }))) ∧
  (∀ (s : State) (h b : Nat) (t v : TestRec), (s.chan h).test = some v → (s.chan h).bus = some b → v.line ≠ t.line →
      let u := s.preempt h t
      let c := s.chan h
      u.chan h = { c with
        stage := .releasing, test := some t, step := none, epoch := c.epoch + 1, releaseLine := some v.line
        handover := true, exposure := 0, peak := 0, origin := .unset, restartEnded := false, intake := Intake.cold } ∧
      (u.line v.line).access = .releasePending (some h) ∧ (u.line t.line).access = .tapPending h ∧
      u.bus b = { s.bus b with confirm := .tied (s.link.serial + 1) } ∧
      u.ownFrames = s.ownFrames ++ [⟨idleDirective h (c.epoch + 1), s.link.serial, .untied⟩,
        ⟨tapReleaseFrame v.line b, s.link.serial + 1, .confirm b⟩] ∧
      (s.sweep.state ≠ .draining → u.sweep.suspended = s.sweep.suspended ++
        [⟨v.line, v.plan, (c.step.map Progress.step).getD v.startStep, (c.step.map Progress.rep).getD 0, v.results, v.pass,
          v.startedInPass, c.origin⟩]) ∧
      (s.sweep.state = .draining → u.sweep.suspended = s.sweep.suspended)) ∧
  -- the rows of admission, from the top
  (∀ (s : State) (q : Request),
      let r := s.line q.line
      let open_ := fun b : Nat => b < 8 ∧ (s.bus b).state = .free ∧ (s.bus b).stray = none ∧
        (s.bus b).reach.getLsbD (q.line / 256) = true
      let eligible := fun g : Nat => g < 4 ∧ (s.chan g).stage.active = true ∧
        (∃ v, (s.chan g).test = some v ∧ v.priority = .routine) ∧
        ((∃ b, open_ b) ∨ ∃ b, (s.chan g).bus = some b ∧ (s.bus b).reach.getLsbD (q.line / 256) = true)
      let inhibited := q.urgent = false ∧ r.inhibit = true
      let hazardous := r.hazard = true ∧ ¬ (q.urgent = true ∧ q.overrideHazard = true)
      let busy := r.access ≠ .free ∨ r.condition = .ringing ∨ r.condition = .cardDown ∨
        ((r.condition = .offHook ∨ r.condition = .unknown) ∧ ¬ (q.urgent = true ∧ q.breakIn = true))
      (r.cls = 0 → s.refusal q = some .lineUnequipped) ∧
      (r.cls ≠ 0 → inhibited → s.refusal q = some .lineInhibited) ∧
      (r.cls ≠ 0 → ¬ inhibited → hazardous → s.refusal q = some .lineHazard) ∧
      (r.cls ≠ 0 → ¬ inhibited → ¬ hazardous → busy → s.refusal q = some .lineBusy) ∧
      (r.cls ≠ 0 → ¬ inhibited → ¬ hazardous → ¬ busy →
        (s.planSteps q.plan = none → s.refusal q = some .planInvalid) ∧
        (s.planSteps q.plan ≠ none → (∀ h, h < 4 → (s.chan h).stage ≠ .idle) →
          ((q.urgent = false ∨ ∀ g, ¬ eligible g) → s.refusal q = some .noChannel) ∧
          (q.urgent = true → (∃ g, eligible g) → s.refusal q = none)) ∧
        (s.planSteps q.plan ≠ none → (∃ h, h < 4 ∧ (s.chan h).stage = .idle) →
          ((∀ b, ¬ open_ b) → s.refusal q = some .noBus) ∧ ((∃ b, open_ b) → s.refusal q = none)))) ∧
  -- TEST with no IDLE channel pre-empts the victim
  (∀ (s : State) (tag a b p bi ov o : Byte) (extra : Bytes) (rest : List Bytes) (h : Nat),
      let l := a.toNat * 256 + b.toNat
      let eligible := fun g : Nat => g < 4 ∧ (s.chan g).stage.active = true ∧
        (∃ v, (s.chan g).test = some v ∧ v.priority = .routine) ∧
        ((∃ x, x < 8 ∧ (s.bus x).state = .free ∧ (s.bus x).stray = none ∧
            (s.bus x).reach.getLsbD (l / 256) = true) ∨
          ∃ x, (s.chan g).bus = some x ∧ (s.bus x).reach.getLsbD (l / 256) = true)
      s.Ready .test tag (a :: b :: p :: 1 :: bi :: ov :: o :: extra) rest →
      l < 4096 → p.toNat ≤ 15 → bi.toNat ≤ 1 → ov.toNat ≤ 1 → o.toNat ≤ 8 →
      s.refusal ⟨l, p.toNat, true, bi == 1, ov == 1⟩ = none → (∀ g, g < 4 → (s.chan g).stage ≠ .idle) →
      eligible h →
      (∀ g x y, eligible g → (s.chan g).test = some x → (s.chan h).test = some y →
        x.startTime.toNat < y.startTime.toNat ∨ (x.startTime = y.startTime ∧ h ≤ g)) →
      exec .test s = .next (((s.taking rest).preempt h
        { line := l, plan := p.toNat, priority := .urgent, originator := .asked o.toNat, breakIn := bi == 1
          overrideHazard := ov == 1, startTime := s.now, startMinute := s.minute, pass := 0
          startedInPass := false, resumed := false, savedRep := 0, startStep := (s.plan p.toNat).getD 0
          results := [], outcome := none }).settle.respond tag .ok (byte1 h))) ∧
  -- the lowest IDLE channel
  (∀ (s : State) (h : Nat), s.idleChannel = some h ↔
    h < 4 ∧ (s.chan h).stage = .idle ∧ ∀ g, g < h → (s.chan g).stage ≠ .idle)

/-- ABORT: nothing found is NOT_FOUND, a calibration run is BUSY, a test in TAPPING to MEASURING ends ABORTED with its release begun and
its response kept for the end, and a channel in RELEASING keeps the outcome it has, but for a pending handover, whose outcome
becomes ABORTED. A selector above 1, a channel above 3, a line above 4095 and a line without its second byte are BAD_PARAM. -/
def Obligations.AbortCommand : Prop :=
  (∀ (s : State) (tag x n : Byte) (extra : Bytes) (rest : List Bytes), s.Ready .abort tag (x :: n :: extra) rest →
     (1 < x.toNat ∨ (x = 0 ∧ 4 ≤ n.toNat) → exec .abort s = .next (s.answered rest tag .badParam [])) ∧
     (∀ m more, x = 1 → extra = m :: more →
       (4096 ≤ n.toNat * 256 + m.toNat → exec .abort s = .next (s.answered rest tag .badParam [])) ∧
       (n.toNat * 256 + m.toNat < 4096 → (s.line (n.toNat * 256 + m.toNat)).access.channel = none →
         exec .abort s = .next (s.answered rest tag .notFound []))) ∧
     (∀ h, ((x = 0 ∧ n.toNat = h ∧ h < 4) ∨ ∃ m more, x = 1 ∧ extra = m :: more ∧ n.toNat * 256 + m.toNat < 4096 ∧
         (s.line (n.toNat * 256 + m.toNat)).access.channel = some h) →
       ((s.chan h).stage ∈ [Stage.idle, .outOfService] → exec .abort s = .next (s.answered rest tag .notFound [])) ∧
       ((s.chan h).stage = .calibrating → exec .abort s = .next (s.answered rest tag .busy [])) ∧
       (∀ t b, (s.chan h).stage.active = true → (s.chan h).test = some t → (s.chan h).bus = some b →
         Answers (exec .abort s) fun u =>
           (u.chan h).stage = .releasing ∧ (u.chan h).test = some { t with outcome := some .aborted } ∧
           (u.chan h).pendingAbort = some tag ∧ (u.line t.line).access = .releasePending (some h) ∧
           u.desk = { s.desk with commands := rest, reservations := s.desk.reservations + 1 }) ∧
       (∀ t, (s.chan h).stage = .releasing → (s.chan h).test = some t →
         exec .abort s = .next (({ s with
           desk.commands := rest, desk.reservations := s.desk.reservations + 1 } : State).setChan h { s.chan h with
             pendingAbort := some tag, handover := false
             test := some (if (s.chan h).handover then { t with outcome := some .aborted } else t) })))) ∧
  -- a line without its second byte
  (∀ (s : State) (tag n : Byte) (rest : List Bytes), s.Ready .abort tag [1, n] rest →
      exec .abort s = .next (s.answered rest tag .badParam []))

/-- RETURN_HEAD brings a head back into service, an OUT_OF_SERVICE channel becoming IDLE, and clears HEAD_SILENT; the act is settled before
the response (log entries 12 and 32); a head in service is NOT_FOUND. CALIBRATE begins a run on a channel at rest, with its response
owed, and is BUSY on any other. A head above 3 is BAD_PARAM.
What clearing HEAD_SILENT gives, its notice CLEARED last, stands before both. -/
def Obligations.HeadCommands : Prop :=
  (∀ (s : State) (tag n : Byte) (extra : Bytes) (rest : List Bytes),
     let h := n.toNat
     (s.Ready .returnHead tag (n :: extra) rest →
       (4 ≤ h → exec .returnHead s = .next (s.answered rest tag .badParam [])) ∧
       (h < 4 → (s.chan h).headOut = false → exec .returnHead s = .next (s.answered rest tag .notFound [])) ∧
       (h < 4 → (s.chan h).headOut = true →
         ∃ u : State, exec .returnHead s = .next (u.settle.respond tag .ok []) ∧
           u.chan h = { s.chan h with
             headOut := false
             stage := if (s.chan h).stage = .outOfService then .idle else (s.chan h).stage } ∧
           u.cal = s.cal ∧ ((s.chan h).stage = .outOfService → u.sweep.attemptDue = true))) ∧
     (s.Ready .calibrate tag (n :: extra) rest →
       (4 ≤ h → exec .calibrate s = .next (s.answered rest tag .badParam [])) ∧
       (h < 4 → (s.chan h).stage ∉ [Stage.idle, .outOfService] →
         exec .calibrate s = .next (s.answered rest tag .busy [])) ∧
       (h < 4 → (s.chan h).stage ∈ [Stage.idle, .outOfService] →
         Answers (exec .calibrate s) fun t =>
           t.chan h = { s.chan h with
             stage := .calibrating, calPhase := some .zHigh, epoch := (s.chan h).epoch + 1
             run := some ⟨tag, none, none, none, none, none, none, none, none, none⟩
             intake := { Intake.cold with tie := some s.link.serial } } ∧
           t.ownFrames = s.ownFrames ++ [⟨calDirective h ((s.chan h).epoch + 1) .zHigh, s.link.serial,
             .head h ((s.chan h).epoch + 1)⟩] ∧
           t.desk = { s.desk with commands := rest, reservations := s.desk.reservations + 1 } ∧
           t.cal = s.cal ∧ t.lines = s.lines ∧ t.buses = s.buses))) ∧
  (∀ (s : State) (tag n : Byte) (extra : Bytes) (rest : List Bytes),
     s.Ready .returnHead tag (n :: extra) rest → n.toNat < 4 → (s.chan n.toNat).headOut = true →
       ∃ u : State, exec .returnHead s = .next (u.settle.respond tag .ok []) ∧
         u.tickets = (s.clearTicket .head n.toNat .headSilent).tickets ∧
         u.desk = (State.clearTicket { s with
           desk.commands := rest, desk.reservations := s.desk.reservations + 1 } .head n.toNat .headSilent).desk)

/-- LOAD_PROFILE writes its limits and no other, and is BAD_PARAM with fewer values than it counts; SET_CAL_COEF writes the three
coefficients of one scale of one head and keeps the rest of the record, its due standing with it; the uncertainty in its answer is
without the temperature's term for a head that has sent none (log entry 24).
Each field of an answer has the width it has
in the command (log entry 42). -/
def Obligations.ProfileAndCoefficients : Prop :=
  (∀ (s : State) (tag p f n : Byte) (vs : List Nat) (extra : Bytes) (rest : List Bytes),
    (∀ ps, s.Ready .loadProfile tag (p :: f :: n :: ps) rest →
      (7 < p.toNat ∨ 7 < f.toNat ∨ n.toNat = 0 ∨ 8 < f.toNat + n.toNat) →
      exec .loadProfile s = .next (s.answered rest tag .badParam [])) ∧
    (s.Ready .loadProfile tag (p :: f :: n :: (vs.flatMap byte4 ++ extra)) rest →
      p.toNat ≤ 7 → f.toNat ≤ 7 → 1 ≤ n.toNat → f.toNat + n.toNat ≤ 8 → vs.length = n.toNat →
      (∀ v ∈ vs, v < 4294967296) →
      Answers (exec .loadProfile s) fun t =>
        (∀ k, k < vs.length → some (t.limit p.toNat (f.toNat + k)) = vs[k]?) ∧
        (∀ q j, j < 8 → ¬ (q = p.toNat ∧ f.toNat ≤ j ∧ j < f.toNat + vs.length) → t.limit q j = s.limit q j) ∧
        t = ({ s with limits := t.limits } : State).answered rest tag .ok
          (byte1 p.toNat ++ (List.range 8).flatMap fun j => byte4 (t.limit p.toNat j)))) ∧
  (∀ (s : State) (tag n x u1 u0 kt ka : Byte) (extra : Bytes) (rest : List Bytes),
    s.Ready .setCalCoef tag (n :: x :: u1 :: u0 :: kt :: ka :: extra) rest →
    (4 ≤ n.toNat ∨ 2 < x.toNat ∨ 100 < u1.toNat * 256 + u0.toNat →
      exec .setCalCoef s = .next (s.answered rest tag .badParam [])) ∧
    (∀ scale, n.toNat < 4 → scaleOf x.toNat = some scale → u1.toNat * 256 + u0.toNat ≤ 100 →
      let r : CalRec := { (s.headCal n.toNat).scale scale with
        u0 := u1.toNat * 256 + u0.toNat, kT := kt.toNat, kA := ka.toNat }
      exec .setCalCoef s = .next ((s.setHeadCal n.toNat ((s.headCal n.toNat).setScale scale r)).answered rest tag .ok
        (byte1 n.toNat ++ byte1 x.toNat ++ flagByte r.valid ++ signed4 r.offset ++ signed4 r.gain ++ signed1 r.tcal ++
          byte2 r.age ++ byte2 r.u0 ++ byte1 r.kT ++ byte1 r.kA ++
          byte2 (r.uncertainty (s.chan n.toNat).lastTemp) ++ flagByte r.due)))) ∧
  (∀ (s : State) (tag p f n : Byte) (ps : Bytes) (rest : List Bytes), ps.length < 4 * n.toNat →
    s.Ready .loadProfile tag (p :: f :: n :: ps) rest → exec .loadProfile s = .next (s.answered rest tag .badParam []))

/-- SWEEP_LOAD replaces the sweep list and leaves the latched configuration, and is BAD_PARAM with fewer ranges than it counts; SWEEP_MARK
sets or clears the mark; SUSPECT puts an entry at the tail of the suspect queue and answers its position, and is refused BUSY in
STOPPED and DRAINING or with the queue full (which counts SUSPECT_DROPPED in a pass), and IN_USE for a line the queue holds. Its act
is settled before the response (log entries 12 and 32).
The position is one byte (log entry 42). -/
def Obligations.SweepListMarkAndSuspects : Prop :=
  (∀ (s : State) (tag n : Byte) (rs : List SweepRange) (ps extra : Bytes) (rest : List Bytes),
    (s.Ready .sweepLoad tag (n :: ps) rest → 32 < n.toNat →
      exec .sweepLoad s = .next (s.answered rest tag .badParam [])) ∧
    (s.Ready .sweepLoad tag (n :: (rs.flatMap SweepRange.bytes ++ extra)) rest → rs.length = n.toNat → n.toNat ≤ 32 →
      (∀ r ∈ rs, r.first < 65536 ∧ r.last < 65536 ∧ r.plan < 256) →
      ((∀ r ∈ rs, r.first ≤ r.last ∧ r.last < 4096 ∧ r.plan ≤ 15) →
        exec .sweepLoad s = .next (({ s with sweep.ranges := rs } : State).answered rest tag .ok (byte1 n.toNat))) ∧
      ((∃ r ∈ rs, ¬ (r.first ≤ r.last ∧ r.last < 4096 ∧ r.plan ≤ 15)) →
        exec .sweepLoad s = .next (s.answered rest tag .badParam [])))) ∧
  (∀ (s : State) (tag r a b : Byte) (extra : Bytes) (rest : List Bytes),
    s.Ready .sweepMark tag (r :: a :: b :: extra) rest →
    (r.toNat = 255 → exec .sweepMark s = .next (({ s with sweep.mark := none } : State).answered rest tag .ok [])) ∧
    (r.toNat ≤ 31 → a.toNat * 256 + b.toNat < 4096 → exec .sweepMark s =
      .next (({ s with sweep.mark := some (r.toNat, a.toNat * 256 + b.toNat) } : State).answered rest tag .ok [])) ∧
    (r.toNat ≠ 255 → (31 < r.toNat ∨ 4096 ≤ a.toNat * 256 + b.toNat) →
      exec .sweepMark s = .next (s.answered rest tag .badParam []))) ∧
  (∀ (s : State) (tag a b p : Byte) (extra : Bytes) (rest : List Bytes),
    let l := a.toNat * 256 + b.toNat
    let held := ∃ e ∈ s.sweep.suspects, e.line = l
    s.Ready .suspect tag (a :: b :: p :: extra) rest →
    (4096 ≤ l ∨ 15 < p.toNat → exec .suspect s = .next (s.answered rest tag .badParam [])) ∧
    (l < 4096 → p.toNat ≤ 15 →
      (s.sweep.state = .stopped → s.sweep.attemptDue = false →
        exec .suspect s = .next (s.answered rest tag .busy [])) ∧
      (s.sweep.state ∉ [SweepState.stopped, .draining] → held →
        exec .suspect s = .next ((s.taking rest).settle.respond tag .inUse [])) ∧
      (s.sweep.state ∉ [SweepState.stopped, .draining] → ¬ held → 16 ≤ s.sweep.suspects.length →
        exec .suspect s = .next (({ s.taking rest with sweep := { s.sweep with counts :=
          if s.sweep.underWay then { s.sweep.counts with dropped := min 65535 (s.sweep.counts.dropped + 1) }
          else s.sweep.counts } } : State).settle.respond tag .busy [])) ∧
      (s.sweep.state ∉ [SweepState.stopped, .draining] → ¬ held → s.sweep.suspects.length < 16 →
        exec .suspect s = .next (({ s.taking rest with sweep := { s.sweep with
          suspects := s.sweep.suspects ++ [⟨l, p.toNat, .desk, false⟩], attemptDue := true } } : State).settle.respond
            tag .ok (byte1 (s.sweep.suspects.length + 1)))))) ∧
  (∀ (s : State) (tag a b p : Byte) (extra : Bytes) (rest : List Bytes),
    let l := a.toNat * 256 + b.toNat
    s.Ready .suspect tag (a :: b :: p :: extra) rest →
    (l < 4096 → p.toNat ≤ 15 →
      (s.sweep.state ∈ [SweepState.stopped, .draining] →
        exec .suspect s = .next ((s.taking rest).settle.respond tag .busy [])) ∧
      (∀ h t, s.sweep.state = .draining → s.sweep.attemptDue = false → h < 4 → (s.chan h).test = some t →
        t.priority = .routine → exec .suspect s = .next (s.answered rest tag .busy [])))) ∧
  (∀ (s : State) (tag n : Byte) (ps : Bytes) (rest : List Bytes), ps.length < 5 * n.toNat →
    s.Ready .sweepLoad tag (n :: ps) rest → exec .sweepLoad s = .next (s.answered rest tag .badParam []))

/-- The commands of the sweep's state: each is taken in the states its rule allows and BUSY in every other. SWEEP_START starts a pass in
STOPPED; SWEEP_PAUSE keeps the state it left; SWEEP_RESUME goes back to it, with no start attempt back in WAITING (log entry 44), or
starts the pass that has waited; SWEEP_STOP empties the collections and drains. An OK carries the sweep's state after the command
(log entry 30), in one byte (log entry 39), and stands behind every notice of the act that SWEEP_START, SWEEP_RESUME or SWEEP_STOP
begins, which is settled first (log entries 12 and 32).
Every context that SWEEP_STOP discards from the suspend list and that belongs to the pass under way counts MISSED, and its line's
record says so with the pass; the others leave no trace.
A pass that either command starts: its number, its configuration, its counts at 0, its walk, the audits of its cards in ascending
order, PASS_START (log entries 14, 39 and 42), RUNNING, and its start attempt, made before its end is judged (log entry 45); then it
is settled as one just started (log entry 11). -/
def Obligations.SweepStateCommands : Prop :=
  (∀ (s : State) (tag : Byte) (ps : Bytes) (rest : List Bytes),
     (s.Ready .sweepStart tag ps rest →
       (s.sweep.state ≠ .stopped → exec .sweepStart s = .next (s.answered rest tag .busy [])) ∧
       (s.sweep.state = .stopped → ∃ u : State,
         exec .sweepStart s = .next (u.respond tag .ok (byte1 u.sweep.state.code)) ∧
         ∃ v : State, u = State.settleWith 256 (some s.backlog)
             (State.attempt 5 [] { v with sweep := { v.sweep with attemptDue := false } }) ∧
           v.sweep.state = .running ∧ v.sweep.underWay = true ∧
           v.sweep.passNumber = (s.sweep.passNumber + 1) % 256 ∧ v.sweep.counts = ⟨0, 0, 0, 0, 0, 0, 0, 0, 0, 0, 0⟩ ∧
           v.sweep.config = ⟨s.sweep.ranges, s.params.concurrency, s.params.policy, s.params.interval,
             s.params.suspectPlan⟩ ∧ v.sweep.attemptDue = true ∧ v.desk.commands = rest)) ∧
     (s.Ready .sweepPause tag ps rest →
       (s.sweep.state = .running → exec .sweepPause s = .next (({ s with
         sweep.state := .paused, sweep.left := some .running } : State).answered rest tag .ok (byte1 3))) ∧
       (s.sweep.state = .waiting → exec .sweepPause s = .next (({ s with
         sweep.state := .paused, sweep.left := some .waiting } : State).answered rest tag .ok (byte1 3))) ∧
       (s.sweep.state ∉ [SweepState.running, .waiting] → exec .sweepPause s = .next (s.answered rest tag .busy []))) ∧
     (s.Ready .sweepResume tag ps rest →
       (s.sweep.state ≠ .paused → exec .sweepResume s = .next (s.answered rest tag .busy [])) ∧
       (s.sweep.state = .paused → s.sweep.startWaits = false → s.sweep.left = some .waiting →
         exec .sweepResume s = .next (({ s with sweep.state := .waiting, sweep.left := none } : State).answered rest tag
           .ok (byte1 2))) ∧
       (s.sweep.state = .paused → s.sweep.startWaits = false → s.sweep.left = some .running →
         ∃ u : State, exec .sweepResume s = .next (u.respond tag .ok (byte1 u.sweep.state.code)) ∧
           u = ({ s.taking rest with sweep := { s.sweep with
             state := .running, left := none, attemptDue := true } } : State).settle) ∧
       (s.sweep.state = .paused → s.sweep.startWaits = true →
         ∃ u v : State, exec .sweepResume s = .next (u.respond tag .ok (byte1 u.sweep.state.code)) ∧
           u = State.settleWith 256 (some s.backlog)
             (State.attempt 5 [] { v with sweep := { v.sweep with attemptDue := false } }) ∧
           v.sweep.state = .running ∧ v.sweep.left = none ∧ v.sweep.startWaits = false ∧
           v.sweep.passNumber = (s.sweep.passNumber + 1) % 256)) ∧
     (s.Ready .sweepStop tag ps rest →
       (s.sweep.state = .stopped → exec .sweepStop s = .next (s.answered rest tag .busy [])) ∧
       (s.sweep.state = .draining → exec .sweepStop s = .next (s.answered rest tag .ok (byte1 4))) ∧
       (s.sweep.state ∈ [SweepState.running, .waiting, .paused] →
         ∃ u v : State, exec .sweepStop s = .next (u.respond tag .ok (byte1 u.sweep.state.code)) ∧ u = v.settle ∧
           v.sweep.state = .draining ∧ v.sweep.left = none ∧ v.sweep.timer = none ∧ v.sweep.startWaits = false ∧
           v.sweep.revisits = [] ∧ v.sweep.suspects = [] ∧ v.sweep.suspended = [] ∧ v.sweep.walk = .unset ∧
           v.chans = s.chans ∧
           (s.sweep.suspended = [] → v.lines = s.lines ∧ v.sweep.counts = s.sweep.counts)))) ∧
  -- the contexts that a stop discards
  (∀ (s : State) (tag : Byte) (ps : Bytes) (rest : List Bytes), s.Ready .sweepStop tag ps rest →
    s.sweep.state ∈ [SweepState.running, .waiting, .paused] →
    let mine := s.sweep.suspended.filter fun c =>
      s.sweep.underWay && c.startedInPass && c.pass == s.sweep.passNumber
    ∃ u v : State, exec .sweepStop s = .next (u.respond tag .ok (byte1 u.sweep.state.code)) ∧ u = v.settle ∧
      v.sweep = { s.sweep with
        state := .draining, left := none, timer := none, startWaits := false, revisits := [], suspects := []
        suspended := [], walk := .unset
        counts := if mine = [] then s.sweep.counts
          else { s.sweep.counts with missed := min 65535 (s.sweep.counts.missed + mine.length) } } ∧
      (∀ m, ((∃ c ∈ mine, c.line = m) → v.line m = { s.line m with
          lastPass := s.sweep.passNumber, lastOutcome := .missed }) ∧
        ((∀ c ∈ mine, c.line ≠ m) → v.line m = s.line m)) ∧
      v = { s.taking rest with sweep := v.sweep, lines := v.lines }) ∧
  -- the pass that SWEEP_START, or a waiting SWEEP_RESUME, starts
  (∀ (s : State) (c : Instr) (tag : Byte) (ps : Bytes) (rest : List Bytes), s.Ready c tag ps rest →
    (c = .sweepStart ∧ s.sweep.state = .stopped) ∨
      (c = .sweepResume ∧ s.sweep.state = .paused ∧ s.sweep.startWaits = true) →
    let s0 : State := { s with desk.commands := rest, desk.reservations := s.desk.reservations + 1 }
    let pass := (s.sweep.passNumber + 1) % 256
    let v := s0.startPass
    let u := State.settleWith 256 (some s.backlog) (State.attempt 5 [] { v with sweep := { v.sweep with attemptDue := false } })
    exec c s = .next (u.respond tag .ok (byte1 u.sweep.state.code)) ∧
    v.sweep = { s.sweep with
      config := ⟨s.sweep.ranges, s.params.concurrency, s.params.policy, s.params.interval, s.params.suspectPlan⟩
      passNumber := pass, underWay := true, counts := ⟨0, 0, 0, 0, 0, 0, 0, 0, 0, 0, 0⟩
      walk := match s.sweep.ranges with
        | [] => .done
        | r :: _ => .onLine 0 r.first
      state := .running, left := none, timer := none, startWaits := false, attemptDue := true } ∧
    v.desk = (s0.notify .sweep (byte1 1 ++ (byte1 pass ++ byte1 s.sweep.ranges.length ++ byte1 s.params.concurrency ++
      byte1 s.params.policy.code ++ byte2 s.params.interval ++ byte1 s.params.suspectPlan))).desk ∧
    v.lines = s.lines ∧ v.chans = s.chans ∧ v.buses = s.buses ∧ v.tickets = s.tickets ∧ v.link.down = s.link.down ∧
    (∀ l, (s.line l).cls ≠ 0 → (s.line l).condition = .unknown → (v.audit (l / 16)).flag = true) ∧
    (Table.wf LineRec.cold s.lines = true → ∃ cards : List Nat, cards.Pairwise (· < ·) ∧
      (∀ k, k ∈ cards ↔ ∃ l, l / 16 = k ∧ (s.line l).cls ≠ 0 ∧ (s.line l).condition = .unknown) ∧
      v.audits = (cards.foldl State.requestAudit s).audits ∧
      v.ownFrames = (cards.foldl State.requestAudit s).ownFrames))

/-- TICKET_ACK: an OPEN entry becomes CONFIRMED; a CONFIRMED one is answered OK and a CLEARED one BUSY, both as they are; a number that no
entry holds is NOT_FOUND. The answer carries the entry after the command. -/
def Obligations.TicketAcknowledged : Prop :=
  ∀ (s : State) (tag a b : Byte) (extra : Bytes) (rest : List Bytes),
    let n := a.toNat * 256 + b.toNat
    s.Ready .ticketAck tag (a :: b :: extra) rest →
    ((∀ t ∈ s.tickets.entries, t.number ≠ n) → exec .ticketAck s = .next (s.answered rest tag .notFound [])) ∧
    (∀ before t after, s.tickets.entries = before ++ t :: after → t.number = n →
      (∀ x ∈ before ++ after, x.number ≠ n) →
      (t.state = .opened → exec .ticketAck s =
        .next (({ s with tickets.entries := before ++ { t with state := .confirmed } :: after } : State).answered rest tag
          .ok ({ t with state := .confirmed } : Ticket).bytes)) ∧
      (t.state = .confirmed → exec .ticketAck s = .next (s.answered rest tag .ok t.bytes)) ∧
      (t.state = .cleared → exec .ticketAck s = .next (s.answered rest tag .busy t.bytes)))

/-- TICKET_READ answers with the entry of a number, or with the one of the smallest greater number; TICKET_NOTE writes a note of at most
24 characters, and fewer characters than its count is BAD_PARAM; TICKET_CLOSE removes the entry, lowers its line's open-ticket count,
clears the line's hazard flag for FOREIGN_VOLTAGE, and sets the TABLE_FULL arm. A number that no entry holds is NOT_FOUND. -/
def Obligations.TicketCommands : Prop :=
  (∀ (s : State) (tag x a b : Byte) (extra : Bytes) (rest : List Bytes),
    let n := a.toNat * 256 + b.toNat
    s.Ready .ticketRead tag (x :: a :: b :: extra) rest →
    (1 < x.toNat → exec .ticketRead s = .next (s.answered rest tag .badParam [])) ∧
    (x = 0 → (∀ t ∈ s.tickets.entries, t.number ≠ n) →
      exec .ticketRead s = .next (s.answered rest tag .notFound [])) ∧
    (x = 1 → (∀ t ∈ s.tickets.entries, t.number ≤ n) →
      exec .ticketRead s = .next (s.answered rest tag .notFound [])) ∧
    (s.tickets.entries.Pairwise (fun t u => t.number ≠ u.number) → ∀ t ∈ s.tickets.entries,
      (x = 0 → t.number = n → exec .ticketRead s = .next (s.answered rest tag .ok t.bytes)) ∧
      (x = 1 → n < t.number → (∀ u ∈ s.tickets.entries, n < u.number → t.number ≤ u.number) →
        exec .ticketRead s = .next (s.answered rest tag .ok t.bytes)))) ∧
  (∀ (s : State) (tag a b k : Byte) (note extra : Bytes) (rest : List Bytes),
    let n := a.toNat * 256 + b.toNat
    s.Ready .ticketNote tag (a :: b :: k :: (note ++ extra)) rest → note.length = k.toNat →
    (24 < k.toNat → exec .ticketNote s = .next (s.answered rest tag .badParam [])) ∧
    (k.toNat ≤ 24 →
      ((∀ t ∈ s.tickets.entries, t.number ≠ n) → exec .ticketNote s = .next (s.answered rest tag .notFound [])) ∧
      (∀ before t after, s.tickets.entries = before ++ t :: after → t.number = n →
        (∀ x ∈ before ++ after, x.number ≠ n) → exec .ticketNote s =
          .next (({ s with tickets.entries := before ++ { t with note := note } :: after } : State).answered rest tag
            .ok ({ t with note := note } : Ticket).bytes)))) ∧
  (∀ (s : State) (tag a b : Byte) (extra : Bytes) (rest : List Bytes),
    let n := a.toNat * 256 + b.toNat
    s.Ready .ticketClose tag (a :: b :: extra) rest →
    ((∀ t ∈ s.tickets.entries, t.number ≠ n) → exec .ticketClose s = .next (s.answered rest tag .notFound [])) ∧
    (∀ before t after, s.tickets.entries = before ++ t :: after → t.number = n →
      (∀ x ∈ before ++ after, x.number ≠ n) →
      Answers (exec .ticketClose s) fun u =>
        u = ({ s with
          lines := u.lines
          tickets := { s.tickets with entries := before ++ after, armed := true } } : State).answered rest tag .ok
            t.bytes ∧
        (t.kind = .line → u.line t.subject = { s.line t.subject with
          ticketCount := (s.line t.subject).ticketCount - 1
          hazard := if t.cls = .foreignVoltage then false else (s.line t.subject).hazard }) ∧
        (∀ m, m ≠ t.subject → u.line m = s.line m) ∧
        (t.kind ≠ .line → t.cls ≠ .foreignVoltage → u.lines = s.lines))) ∧
  -- fewer characters than counted
  (∀ (s : State) (tag a b k : Byte) (note : Bytes) (rest : List Bytes),
      s.Ready .ticketNote tag (a :: b :: k :: note) rest → note.length < k.toNat →
      exec .ticketNote s = .next (s.answered rest tag .badParam []))

/-- SET_PARAM: a number outside 1 to 14 or a value outside the parameter's range is BAD_PARAM; the parameters of relays, heads and
protection are BUSY unless every channel is IDLE or OUT_OF_SERVICE, and t_hold is BUSY while an order is held; otherwise that
parameter alone takes the value. Its answer gives the number in one byte (log entry 42).
STATUS changes nothing: its answer carries the minute counter, the discard counts, the four channels, the eight buses, the hold
queue, the sweep, the tickets, the notice queue with this response, the lost count, the restart releases and the 14 parameters. The
channel stage, bus state and sweep state are one byte each (log entry 39), and so is an epoch (log entry 42); the head service mark
and the peak are of log entries 16 and 17. -/
def Obligations.ParametersAndStatus : Prop :=
  (∀ (s : State) (tag n a b c d : Byte) (extra : Bytes) (rest : List Bytes),
      let v := ((a.toNat * 256 + b.toNat) * 256 + c.toNat) * 256 + d.toNat
      let k := n.toNat
      let inRange := (k = 1 ∧ 10 ≤ v ∧ v ≤ 2000) ∨ (k = 2 ∧ 5 ≤ v ∧ v ≤ 255) ∨ (k = 3 ∧ 100 ≤ v ∧ v ≤ 60000) ∨
        (k = 4 ∧ (v = 16 ∨ v = 32)) ∨ (k = 5 ∧ 1 ≤ v ∧ v ≤ 254) ∨ (k = 6 ∧ 2 ≤ v ∧ v ≤ 15) ∨
        (k = 7 ∧ 1 ≤ v ∧ v ≤ 32767) ∨ (k = 8 ∧ 1 ≤ v ∧ v ≤ 4294967295) ∨ (k = 9 ∧ 1 ≤ v ∧ v ≤ 255) ∨
        (k = 10 ∧ 10 ≤ v ∧ v ≤ 500) ∨ (k = 11 ∧ v ≤ 4) ∨ (k = 12 ∧ v ≤ 1) ∨ (k = 13 ∧ v ≤ 1440) ∨ (k = 14 ∧ v ≤ 15)
      let quiet := ∀ h, h < 4 → (s.chan h).stage = .idle ∨ (s.chan h).stage = .outOfService
      let free := (k ∈ [1, 2, 7, 8] → quiet) ∧ (k = 3 → s.hold = [])
      s.Ready .setParam tag (n :: a :: b :: c :: d :: extra) rest →
      (¬ inRange → exec .setParam s = .next (s.answered rest tag .badParam [])) ∧
      (inRange → ¬ free → exec .setParam s = .next (s.answered rest tag .busy [])) ∧
      (inRange → free → exec .setParam s = .next (({ s with params :=
        { tTap := if k = 1 then v else s.params.tTap, tHead := if k = 2 then v else s.params.tHead
          tHold := if k = 3 then v else s.params.tHold, flapUnit := if k = 4 then v else s.params.flapUnit
          flapThreshold := if k = 5 then v else s.params.flapThreshold
          flapLimit := if k = 6 then v else s.params.flapLimit, vprot := if k = 7 then v else s.params.vprot
          elim := if k = 8 then v else s.params.elim, lockout := if k = 9 then v else s.params.lockout
          umax := if k = 10 then v else s.params.umax, concurrency := if k = 11 then v else s.params.concurrency
          policy := if k = 12 then (if v = 0 then .all else .exceptions) else s.params.policy
          interval := if k = 13 then v else s.params.interval
          suspectPlan := if k = 14 then v else s.params.suspectPlan } } : State).answered rest tag .ok
            (byte1 k ++ byte4 v)))) ∧
  (∀ (s : State) (tag : Byte) (ps : Bytes) (rest : List Bytes), s.Ready .status tag ps rest →
      let chan := fun h : Nat => byte1 (s.chan h).stage.code ++ flagByte (s.chan h).headOut ++
        byte1 (s.chan h).epoch.toNat ++ byte4 (s.chan h).exposure ++ byte4 (s.chan h).peak
      let bus := fun b : Nat => byte1 (s.bus b).state.code ++ byte1 (s.bus b).state.claimant ++
        flagByte (s.bus b).stray.isSome
      exec .status s = .next (s.answered rest tag .ok
        (byte4 s.minute.toNat ++ byte2 s.link.portU.discards ++ byte2 s.link.portS.discards ++
          (chan 0 ++ chan 1 ++ chan 2 ++ chan 3) ++
          (bus 0 ++ bus 1 ++ bus 2 ++ bus 3 ++ bus 4 ++ bus 5 ++ bus 6 ++ bus 7) ++ byte1 s.hold.length ++
          byte1 s.sweep.state.code ++ byte1 s.sweep.passNumber ++ byte1 s.sweep.revisits.length ++
          byte1 s.sweep.suspects.length ++ byte1 s.sweep.suspended.length ++ byte2 s.tickets.entries.length ++
          byte2 s.tickets.overflow ++ byte1 (s.desk.notices.length + 1) ++ byte2 s.desk.lost ++
          byte1 (([0, 1, 2, 3, 4, 5, 6, 7] : List Nat).countP fun b => (s.bus b).state == .claimedRestart) ++
          s.params.bytes)) ∧
      s.params.bytes = byte4 s.params.tTap ++ byte4 s.params.tHead ++ byte4 s.params.tHold ++ byte4 s.params.flapUnit ++
        byte4 s.params.flapThreshold ++ byte4 s.params.flapLimit ++ byte4 s.params.vprot ++ byte4 s.params.elim ++
        byte4 s.params.lockout ++ byte4 s.params.umax ++ byte4 s.params.concurrency ++ byte4 s.params.policy.code ++
        byte4 s.params.interval ++ byte4 s.params.suspectPlan) ∧
  -- the codes of R185
  ([Stage.idle, .tapping, .sourcing, .settling, .measuring, .releasing, .calibrating, .outOfService].map Stage.code =
      [0, 1, 2, 3, 4, 5, 6, 7] ∧
    (∀ h e, [BusState.free, .claimed h, .claimedRestart, .lockout e, .outOfService].map BusState.code =
        [0, 1, 1, 2, 3] ∧
      [BusState.free, .claimed h, .claimedRestart, .lockout e, .outOfService].map BusState.claimant =
        [0xFF, h, 0xFE, 0xFF, 0xFF]) ∧
    [SweepState.stopped, .running, .waiting, .paused, .draining].map SweepState.code = [0, 1, 2, 3, 4])

/-- RESTART is refused STARTING while a bus is still CLAIMED(RESTART). Otherwise every channel in TAPPING to MEASURING and every
calibration run ends, a channel in RELEASING goes on without a handover, its end no longer reported (log entry 33), the sweep is
STOPPED and emptied, unsolicited notices go but for one whose sending has begun, and what the spec keeps is kept.
Its acts: each of the four channels, and then a flush, begun as FLUSH_OFFER goes on with one, for each line with held records and no
flush, both in an order left open (log entry 5). A channel with a tap: DIRECTIVE IDLE and then TAP_RELEASE are offered, its bus is
CLAIMED(RESTART) with its confirm timer tied to the TAP_RELEASE, and its line is RELEASE_PENDING with no channel. A calibration run:
CALIBRATE is answered CAL_FAILED with cause RESTART, with no record changed and no ticket raised.
The notice queue: an unsolicited head, if Port U is sending it; then the responses, in their order; then RESTART's own; then those of
the calibration runs. Nothing else stays. The reservations go down by one for each calibration run answered, and a frame that Port U
was sending is still the one it sends. -/
def Obligations.WarmRestart : Prop :=
  (∀ (s : State) (tag : Byte) (ps : Bytes) (rest : List Bytes), s.Ready .restart tag ps rest →
     ((∃ b, b < 8 ∧ (s.bus b).state = .claimedRestart) →
       exec .restart s = .next (s.answered rest tag .starting [])) ∧
     ((∀ b, b < 8 → (s.bus b).state ≠ .claimedRestart) →
       Answers (exec .restart s) fun t =>
         t.sweep = { Sweep.cold with
           ranges := s.sweep.ranges, config := s.sweep.config, passNumber := s.sweep.passNumber } ∧
         t.desk.commands = rest ∧ t.desk.lost = 0 ∧
         (∀ n ∈ t.desk.notices.tail, n.kind = .response) ∧
         (∀ n ∈ s.desk.notices, n.kind = .response → n ∈ t.desk.notices) ∧
         (∀ n, s.desk.notices.head? = some n → s.link.portU.sending = some .own → t.desk.notices.head? = some n) ∧
         (∃ n ∈ t.desk.notices, n = ⟨tag, .response, 0,
           byte1 (([0, 1, 2, 3] : List Nat).countP fun h => (s.chan h).stage.active)⟩) ∧
         (∀ h, h < 4 →
           ((s.chan h).stage.active = true → (t.chan h).test = none ∧ (t.chan h).step = none ∧
             (t.chan h).stage = (if (s.chan h).headOut then .outOfService else .idle) ∧
             (t.chan h).epoch = (s.chan h).epoch + 1) ∧
           ((s.chan h).stage = .calibrating → (t.chan h).run = none ∧
             (t.chan h).stage = (if (s.chan h).headOut then .outOfService else .idle)) ∧
           ((s.chan h).stage = .releasing → t.chan h = { s.chan h with
             handover := false, restartEnded := true, origin := .unset }) ∧
           ((s.chan h).stage ∈ [Stage.idle, .outOfService] → t.chan h = s.chan h)) ∧
         (∀ l, { t.line l with access := .free, condition := .unknown } =
           { s.line l with access := .free, condition := .unknown }) ∧
         t.audits = s.audits ∧ t.steps = s.steps ∧ t.plans = s.plans ∧ t.cal = s.cal ∧ t.limits = s.limits ∧
         t.params = s.params ∧ t.tickets = s.tickets ∧ t.link.down = s.link.down ∧ t.link.up = s.link.up ∧
         t.now = s.now ∧ t.minute = s.minute)) ∧
  -- the restart's acts: every channel, then every line with held records and no flush, each in a free order
  (∀ (s : State) (tag : Byte) (ps : Bytes) (rest : List Bytes), s.Ready .restart tag ps rest →
      (∀ b, b < 8 → (s.bus b).state ≠ .claimedRestart) →
      ∃ (t : State) (channels lines : List Nat) (m n : Nat), exec .restart s = .next t ∧
        channels.Perm [0, 1, 2, 3] ∧ lines.Nodup ∧
        (∀ l, l ∈ lines ↔ (∃ q ∈ s.hold, q.line = l) ∧ ∀ f ∈ s.flushes, f.line ≠ l) ∧
        let s0 : State := { s.answered rest tag .ok
          (byte1 (([0, 1, 2, 3] : List Nat).countP fun h => (s.chan h).stage.active)) with choice := m }
        let u : State := { channels.foldl State.restartChannel s0 with choice := n }
        let v := lines.foldl (fun w l => w.beginFlush l false) u
        t = { v with sweep := t.sweep, desk := t.desk }) ∧
  (∀ (s : State) (l : Nat),
      exec (.flushOffer l) { s with flushes := s.flushes ++ [⟨l, none, false⟩] } = .next (s.beginFlush l false)) ∧
  -- a channel with a tap
  (∀ (s : State) (h b l : Nat), (s.chan h).stage.active = true → (s.chan h).bus = some b →
      (s.bus b).commanded = some l →
      let u := s.restartChannel h
      let e := (s.chan h).epoch + 1
      u.bus b = { s.bus b with state := .claimedRestart, confirm := .tied (s.link.serial + 1) } ∧
      (∀ c, c ≠ b → u.bus c = s.bus c) ∧
      u.line l = { s.line l with access := .releasePending none } ∧ (∀ m, m ≠ l → u.line m = s.line m) ∧
      u.ownFrames = s.ownFrames ++ [⟨idleDirective h e, s.link.serial, .untied⟩,
        ⟨tapReleaseFrame l b, s.link.serial + 1, .confirm b⟩] ∧
      u.desk = s.desk ∧ u.tickets = s.tickets) ∧
  -- a calibration run
  (∀ (s : State) (h : Nat) (run : CalRun) (p : CalPhase), (s.chan h).stage = .calibrating →
      (s.chan h).run = some run → (s.chan h).calPhase = some p →
      let u := s.restartChannel h
      u.desk.notices = s.desk.notices ++ [⟨run.tag, .response, 0x31, byte1 h ++ byte1 p.code ++ byte1 6⟩] ∧
      u.ownFrames = s.ownFrames ++ [⟨idleDirective h ((s.chan h).epoch + 1), s.link.serial, .untied⟩] ∧
      u.cal = s.cal ∧ u.tickets = s.tickets ∧ u.buses = s.buses ∧ u.lines = s.lines) ∧
  -- the Command Unit after the restart: the notice whose sending has begun, the responses in their order, the reservations
  (∀ (s : State) (tag : Byte) (ps : Bytes) (rest : List Bytes), s.Ready .restart tag ps rest →
      (∀ b, b < 8 → (s.bus b).state ≠ .claimedRestart) →
      ∃ (t : State) (runs : List Notice), exec .restart s = .next t ∧
        runs.Perm (([0, 1, 2, 3] : List Nat).filterMap fun h =>
          if (s.chan h).stage = .calibrating then
            (s.chan h).run.bind fun run => (s.chan h).calPhase.map fun p =>
              ⟨run.tag, .response, 0x31, byte1 h ++ byte1 p.code ++ byte1 6⟩
          else none) ∧
        (s.link.portU.sending ≠ none → t.link.portU = s.link.portU) ∧
        t.desk = {
          commands := rest
          notices := s.desk.notices.head?.toList.filter
              (fun n => n.kind != .response && t.link.portU.sending == some .own) ++
            (s.desk.notices.filter (fun n => n.kind == .response) ++ ⟨tag, .response, 0,
              byte1 (([0, 1, 2, 3] : List Nat).countP fun h => (s.chan h).stage.active)⟩ :: runs)
          reservations := s.desk.reservations - runs.length
          lost := 0 } ∧
        ∀ n ∈ t.desk.notices, n.kind = .response ∨
          (t.desk.notices.head? = some n ∧ t.link.portU.sending = some .own))
end

