-- ==== Sys2Proof/Laws/State.lean ====
section
/-! SUPPORT. What each update of the state leaves and what it writes, one lemma for each field: all true by definition. -/

namespace Sys2Proof.Machine

variable (s : State)

/-! ## setLine -/

@[simp] theorem State.setLine_phase (l : Nat) (r : LineRec) : (s.setLine l r).phase = s.phase := rfl
@[simp] theorem State.setLine_now (l : Nat) (r : LineRec) : (s.setLine l r).now = s.now := rfl
@[simp] theorem State.setLine_minute (l : Nat) (r : LineRec) : (s.setLine l r).minute = s.minute := rfl
@[simp] theorem State.setLine_nextFlap (l : Nat) (r : LineRec) : (s.setLine l r).nextFlap = s.nextFlap := rfl
@[simp] theorem State.setLine_nextMinute (l : Nat) (r : LineRec) : (s.setLine l r).nextMinute = s.nextMinute := rfl
@[simp] theorem State.setLine_hourDue (l : Nat) (r : LineRec) : (s.setLine l r).hourDue = s.hourDue := rfl
@[simp] theorem State.setLine_lines (l : Nat) (r : LineRec) : (s.setLine l r).lines = Table.set .cold s.lines l r := rfl
@[simp] theorem State.setLine_audits (l : Nat) (r : LineRec) : (s.setLine l r).audits = s.audits := rfl
@[simp] theorem State.setLine_link (l : Nat) (r : LineRec) : (s.setLine l r).link = s.link := rfl
@[simp] theorem State.setLine_desk (l : Nat) (r : LineRec) : (s.setLine l r).desk = s.desk := rfl
@[simp] theorem State.setLine_params (l : Nat) (r : LineRec) : (s.setLine l r).params = s.params := rfl
@[simp] theorem State.setLine_hold (l : Nat) (r : LineRec) : (s.setLine l r).hold = s.hold := rfl
@[simp] theorem State.setLine_flushes (l : Nat) (r : LineRec) : (s.setLine l r).flushes = s.flushes := rfl
@[simp] theorem State.setLine_buses (l : Nat) (r : LineRec) : (s.setLine l r).buses = s.buses := rfl
@[simp] theorem State.setLine_steps (l : Nat) (r : LineRec) : (s.setLine l r).steps = s.steps := rfl
@[simp] theorem State.setLine_plans (l : Nat) (r : LineRec) : (s.setLine l r).plans = s.plans := rfl
@[simp] theorem State.setLine_chans (l : Nat) (r : LineRec) : (s.setLine l r).chans = s.chans := rfl
@[simp] theorem State.setLine_cal (l : Nat) (r : LineRec) : (s.setLine l r).cal = s.cal := rfl
@[simp] theorem State.setLine_limits (l : Nat) (r : LineRec) : (s.setLine l r).limits = s.limits := rfl
@[simp] theorem State.setLine_sweep (l : Nat) (r : LineRec) : (s.setLine l r).sweep = s.sweep := rfl
@[simp] theorem State.setLine_tickets (l : Nat) (r : LineRec) : (s.setLine l r).tickets = s.tickets := rfl
@[simp] theorem State.setLine_choice (l : Nat) (r : LineRec) : (s.setLine l r).choice = s.choice := rfl
@[simp] theorem State.setLine_pending (l : Nat) (r : LineRec) : (s.setLine l r).pending = s.pending := rfl

@[simp] theorem State.setLine_audit (l : Nat) (r : LineRec) (m : Nat) : (s.setLine l r).audit m = s.audit m := rfl
@[simp] theorem State.setLine_bus (l : Nat) (r : LineRec) (m : Nat) : (s.setLine l r).bus m = s.bus m := rfl
@[simp] theorem State.setLine_chan (l : Nat) (r : LineRec) (m : Nat) : (s.setLine l r).chan m = s.chan m := rfl
@[simp] theorem State.setLine_stepRec (l : Nat) (r : LineRec) (m : Nat) : (s.setLine l r).stepRec m = s.stepRec m := rfl
@[simp] theorem State.setLine_plan (l : Nat) (r : LineRec) (m : Nat) : (s.setLine l r).plan m = s.plan m := rfl
@[simp] theorem State.setLine_headCal (l : Nat) (r : LineRec) (m : Nat) : (s.setLine l r).headCal m = s.headCal m := rfl
@[simp] theorem State.setLine_limit (l : Nat) (r : LineRec) (m j : Nat) : (s.setLine l r).limit m j = s.limit m j := rfl

/-! ## setAudit -/

@[simp] theorem State.setAudit_phase (c : Nat) (a : Audit) : (s.setAudit c a).phase = s.phase := rfl
@[simp] theorem State.setAudit_now (c : Nat) (a : Audit) : (s.setAudit c a).now = s.now := rfl
@[simp] theorem State.setAudit_minute (c : Nat) (a : Audit) : (s.setAudit c a).minute = s.minute := rfl
@[simp] theorem State.setAudit_nextFlap (c : Nat) (a : Audit) : (s.setAudit c a).nextFlap = s.nextFlap := rfl
@[simp] theorem State.setAudit_nextMinute (c : Nat) (a : Audit) : (s.setAudit c a).nextMinute = s.nextMinute := rfl
@[simp] theorem State.setAudit_hourDue (c : Nat) (a : Audit) : (s.setAudit c a).hourDue = s.hourDue := rfl
@[simp] theorem State.setAudit_lines (c : Nat) (a : Audit) : (s.setAudit c a).lines = s.lines := rfl
@[simp] theorem State.setAudit_audits (c : Nat) (a : Audit) : (s.setAudit c a).audits = Table.set .cold s.audits c a := rfl
@[simp] theorem State.setAudit_link (c : Nat) (a : Audit) : (s.setAudit c a).link = s.link := rfl
@[simp] theorem State.setAudit_desk (c : Nat) (a : Audit) : (s.setAudit c a).desk = s.desk := rfl
@[simp] theorem State.setAudit_params (c : Nat) (a : Audit) : (s.setAudit c a).params = s.params := rfl
@[simp] theorem State.setAudit_hold (c : Nat) (a : Audit) : (s.setAudit c a).hold = s.hold := rfl
@[simp] theorem State.setAudit_flushes (c : Nat) (a : Audit) : (s.setAudit c a).flushes = s.flushes := rfl
@[simp] theorem State.setAudit_buses (c : Nat) (a : Audit) : (s.setAudit c a).buses = s.buses := rfl
@[simp] theorem State.setAudit_steps (c : Nat) (a : Audit) : (s.setAudit c a).steps = s.steps := rfl
@[simp] theorem State.setAudit_plans (c : Nat) (a : Audit) : (s.setAudit c a).plans = s.plans := rfl
@[simp] theorem State.setAudit_chans (c : Nat) (a : Audit) : (s.setAudit c a).chans = s.chans := rfl
@[simp] theorem State.setAudit_cal (c : Nat) (a : Audit) : (s.setAudit c a).cal = s.cal := rfl
@[simp] theorem State.setAudit_limits (c : Nat) (a : Audit) : (s.setAudit c a).limits = s.limits := rfl
@[simp] theorem State.setAudit_sweep (c : Nat) (a : Audit) : (s.setAudit c a).sweep = s.sweep := rfl
@[simp] theorem State.setAudit_tickets (c : Nat) (a : Audit) : (s.setAudit c a).tickets = s.tickets := rfl
@[simp] theorem State.setAudit_choice (c : Nat) (a : Audit) : (s.setAudit c a).choice = s.choice := rfl
@[simp] theorem State.setAudit_pending (c : Nat) (a : Audit) : (s.setAudit c a).pending = s.pending := rfl

@[simp] theorem State.setAudit_line (c : Nat) (a : Audit) (m : Nat) : (s.setAudit c a).line m = s.line m := rfl
@[simp] theorem State.setAudit_bus (c : Nat) (a : Audit) (m : Nat) : (s.setAudit c a).bus m = s.bus m := rfl
@[simp] theorem State.setAudit_chan (c : Nat) (a : Audit) (m : Nat) : (s.setAudit c a).chan m = s.chan m := rfl
@[simp] theorem State.setAudit_stepRec (c : Nat) (a : Audit) (m : Nat) : (s.setAudit c a).stepRec m = s.stepRec m := rfl
@[simp] theorem State.setAudit_plan (c : Nat) (a : Audit) (m : Nat) : (s.setAudit c a).plan m = s.plan m := rfl
@[simp] theorem State.setAudit_headCal (c : Nat) (a : Audit) (m : Nat) : (s.setAudit c a).headCal m = s.headCal m := rfl
@[simp] theorem State.setAudit_limit (c : Nat) (a : Audit) (m j : Nat) : (s.setAudit c a).limit m j = s.limit m j := rfl

/-! ## setBus -/

@[simp] theorem State.setBus_phase (b : Nat) (r : Bus) : (s.setBus b r).phase = s.phase := rfl
@[simp] theorem State.setBus_now (b : Nat) (r : Bus) : (s.setBus b r).now = s.now := rfl
@[simp] theorem State.setBus_minute (b : Nat) (r : Bus) : (s.setBus b r).minute = s.minute := rfl
@[simp] theorem State.setBus_nextFlap (b : Nat) (r : Bus) : (s.setBus b r).nextFlap = s.nextFlap := rfl
@[simp] theorem State.setBus_nextMinute (b : Nat) (r : Bus) : (s.setBus b r).nextMinute = s.nextMinute := rfl
@[simp] theorem State.setBus_hourDue (b : Nat) (r : Bus) : (s.setBus b r).hourDue = s.hourDue := rfl
@[simp] theorem State.setBus_lines (b : Nat) (r : Bus) : (s.setBus b r).lines = s.lines := rfl
@[simp] theorem State.setBus_audits (b : Nat) (r : Bus) : (s.setBus b r).audits = s.audits := rfl
@[simp] theorem State.setBus_link (b : Nat) (r : Bus) : (s.setBus b r).link = s.link := rfl
@[simp] theorem State.setBus_desk (b : Nat) (r : Bus) : (s.setBus b r).desk = s.desk := rfl
@[simp] theorem State.setBus_params (b : Nat) (r : Bus) : (s.setBus b r).params = s.params := rfl
@[simp] theorem State.setBus_hold (b : Nat) (r : Bus) : (s.setBus b r).hold = s.hold := rfl
@[simp] theorem State.setBus_flushes (b : Nat) (r : Bus) : (s.setBus b r).flushes = s.flushes := rfl
@[simp] theorem State.setBus_buses (b : Nat) (r : Bus) : (s.setBus b r).buses = Table.set .cold s.buses b r := rfl
@[simp] theorem State.setBus_steps (b : Nat) (r : Bus) : (s.setBus b r).steps = s.steps := rfl
@[simp] theorem State.setBus_plans (b : Nat) (r : Bus) : (s.setBus b r).plans = s.plans := rfl
@[simp] theorem State.setBus_chans (b : Nat) (r : Bus) : (s.setBus b r).chans = s.chans := rfl
@[simp] theorem State.setBus_cal (b : Nat) (r : Bus) : (s.setBus b r).cal = s.cal := rfl
@[simp] theorem State.setBus_limits (b : Nat) (r : Bus) : (s.setBus b r).limits = s.limits := rfl
@[simp] theorem State.setBus_sweep (b : Nat) (r : Bus) : (s.setBus b r).sweep = s.sweep := rfl
@[simp] theorem State.setBus_tickets (b : Nat) (r : Bus) : (s.setBus b r).tickets = s.tickets := rfl
@[simp] theorem State.setBus_choice (b : Nat) (r : Bus) : (s.setBus b r).choice = s.choice := rfl
@[simp] theorem State.setBus_pending (b : Nat) (r : Bus) : (s.setBus b r).pending = s.pending := rfl

@[simp] theorem State.setBus_line (b : Nat) (r : Bus) (m : Nat) : (s.setBus b r).line m = s.line m := rfl
@[simp] theorem State.setBus_audit (b : Nat) (r : Bus) (m : Nat) : (s.setBus b r).audit m = s.audit m := rfl
@[simp] theorem State.setBus_chan (b : Nat) (r : Bus) (m : Nat) : (s.setBus b r).chan m = s.chan m := rfl
@[simp] theorem State.setBus_stepRec (b : Nat) (r : Bus) (m : Nat) : (s.setBus b r).stepRec m = s.stepRec m := rfl
@[simp] theorem State.setBus_plan (b : Nat) (r : Bus) (m : Nat) : (s.setBus b r).plan m = s.plan m := rfl
@[simp] theorem State.setBus_headCal (b : Nat) (r : Bus) (m : Nat) : (s.setBus b r).headCal m = s.headCal m := rfl
@[simp] theorem State.setBus_limit (b : Nat) (r : Bus) (m j : Nat) : (s.setBus b r).limit m j = s.limit m j := rfl

/-! ## setChan -/

@[simp] theorem State.setChan_phase (h : Nat) (c : Channel) : (s.setChan h c).phase = s.phase := rfl
@[simp] theorem State.setChan_now (h : Nat) (c : Channel) : (s.setChan h c).now = s.now := rfl
@[simp] theorem State.setChan_minute (h : Nat) (c : Channel) : (s.setChan h c).minute = s.minute := rfl
@[simp] theorem State.setChan_nextFlap (h : Nat) (c : Channel) : (s.setChan h c).nextFlap = s.nextFlap := rfl
@[simp] theorem State.setChan_nextMinute (h : Nat) (c : Channel) : (s.setChan h c).nextMinute = s.nextMinute := rfl
@[simp] theorem State.setChan_hourDue (h : Nat) (c : Channel) : (s.setChan h c).hourDue = s.hourDue := rfl
@[simp] theorem State.setChan_lines (h : Nat) (c : Channel) : (s.setChan h c).lines = s.lines := rfl
@[simp] theorem State.setChan_audits (h : Nat) (c : Channel) : (s.setChan h c).audits = s.audits := rfl
@[simp] theorem State.setChan_link (h : Nat) (c : Channel) : (s.setChan h c).link = s.link := rfl
@[simp] theorem State.setChan_desk (h : Nat) (c : Channel) : (s.setChan h c).desk = s.desk := rfl
@[simp] theorem State.setChan_params (h : Nat) (c : Channel) : (s.setChan h c).params = s.params := rfl
@[simp] theorem State.setChan_hold (h : Nat) (c : Channel) : (s.setChan h c).hold = s.hold := rfl
@[simp] theorem State.setChan_flushes (h : Nat) (c : Channel) : (s.setChan h c).flushes = s.flushes := rfl
@[simp] theorem State.setChan_buses (h : Nat) (c : Channel) : (s.setChan h c).buses = s.buses := rfl
@[simp] theorem State.setChan_steps (h : Nat) (c : Channel) : (s.setChan h c).steps = s.steps := rfl
@[simp] theorem State.setChan_plans (h : Nat) (c : Channel) : (s.setChan h c).plans = s.plans := rfl
@[simp] theorem State.setChan_chans (h : Nat) (c : Channel) : (s.setChan h c).chans = Table.set .cold s.chans h c := rfl
@[simp] theorem State.setChan_cal (h : Nat) (c : Channel) : (s.setChan h c).cal = s.cal := rfl
@[simp] theorem State.setChan_limits (h : Nat) (c : Channel) : (s.setChan h c).limits = s.limits := rfl
@[simp] theorem State.setChan_sweep (h : Nat) (c : Channel) : (s.setChan h c).sweep = s.sweep := rfl
@[simp] theorem State.setChan_tickets (h : Nat) (c : Channel) : (s.setChan h c).tickets = s.tickets := rfl
@[simp] theorem State.setChan_choice (h : Nat) (c : Channel) : (s.setChan h c).choice = s.choice := rfl
@[simp] theorem State.setChan_pending (h : Nat) (c : Channel) : (s.setChan h c).pending = s.pending := rfl

@[simp] theorem State.setChan_line (h : Nat) (c : Channel) (m : Nat) : (s.setChan h c).line m = s.line m := rfl
@[simp] theorem State.setChan_audit (h : Nat) (c : Channel) (m : Nat) : (s.setChan h c).audit m = s.audit m := rfl
@[simp] theorem State.setChan_bus (h : Nat) (c : Channel) (m : Nat) : (s.setChan h c).bus m = s.bus m := rfl
@[simp] theorem State.setChan_stepRec (h : Nat) (c : Channel) (m : Nat) : (s.setChan h c).stepRec m = s.stepRec m := rfl
@[simp] theorem State.setChan_plan (h : Nat) (c : Channel) (m : Nat) : (s.setChan h c).plan m = s.plan m := rfl
@[simp] theorem State.setChan_headCal (h : Nat) (c : Channel) (m : Nat) : (s.setChan h c).headCal m = s.headCal m := rfl
@[simp] theorem State.setChan_limit (h : Nat) (c : Channel) (m j : Nat) : (s.setChan h c).limit m j = s.limit m j := rfl

/-! ## setStepRec -/

@[simp] theorem State.setStepRec_phase (i : Nat) (r : Option StepRec) : (s.setStepRec i r).phase = s.phase := rfl
@[simp] theorem State.setStepRec_now (i : Nat) (r : Option StepRec) : (s.setStepRec i r).now = s.now := rfl
@[simp] theorem State.setStepRec_minute (i : Nat) (r : Option StepRec) : (s.setStepRec i r).minute = s.minute := rfl
@[simp] theorem State.setStepRec_nextFlap (i : Nat) (r : Option StepRec) : (s.setStepRec i r).nextFlap = s.nextFlap := rfl
@[simp] theorem State.setStepRec_nextMinute (i : Nat) (r : Option StepRec) : (s.setStepRec i r).nextMinute = s.nextMinute := rfl
@[simp] theorem State.setStepRec_hourDue (i : Nat) (r : Option StepRec) : (s.setStepRec i r).hourDue = s.hourDue := rfl
@[simp] theorem State.setStepRec_lines (i : Nat) (r : Option StepRec) : (s.setStepRec i r).lines = s.lines := rfl
@[simp] theorem State.setStepRec_audits (i : Nat) (r : Option StepRec) : (s.setStepRec i r).audits = s.audits := rfl
@[simp] theorem State.setStepRec_link (i : Nat) (r : Option StepRec) : (s.setStepRec i r).link = s.link := rfl
@[simp] theorem State.setStepRec_desk (i : Nat) (r : Option StepRec) : (s.setStepRec i r).desk = s.desk := rfl
@[simp] theorem State.setStepRec_params (i : Nat) (r : Option StepRec) : (s.setStepRec i r).params = s.params := rfl
@[simp] theorem State.setStepRec_hold (i : Nat) (r : Option StepRec) : (s.setStepRec i r).hold = s.hold := rfl
@[simp] theorem State.setStepRec_flushes (i : Nat) (r : Option StepRec) : (s.setStepRec i r).flushes = s.flushes := rfl
@[simp] theorem State.setStepRec_buses (i : Nat) (r : Option StepRec) : (s.setStepRec i r).buses = s.buses := rfl
@[simp] theorem State.setStepRec_steps (i : Nat) (r : Option StepRec) : (s.setStepRec i r).steps = Table.set none s.steps i r := rfl
@[simp] theorem State.setStepRec_plans (i : Nat) (r : Option StepRec) : (s.setStepRec i r).plans = s.plans := rfl
@[simp] theorem State.setStepRec_chans (i : Nat) (r : Option StepRec) : (s.setStepRec i r).chans = s.chans := rfl
@[simp] theorem State.setStepRec_cal (i : Nat) (r : Option StepRec) : (s.setStepRec i r).cal = s.cal := rfl
@[simp] theorem State.setStepRec_limits (i : Nat) (r : Option StepRec) : (s.setStepRec i r).limits = s.limits := rfl
@[simp] theorem State.setStepRec_sweep (i : Nat) (r : Option StepRec) : (s.setStepRec i r).sweep = s.sweep := rfl
@[simp] theorem State.setStepRec_tickets (i : Nat) (r : Option StepRec) : (s.setStepRec i r).tickets = s.tickets := rfl
@[simp] theorem State.setStepRec_choice (i : Nat) (r : Option StepRec) : (s.setStepRec i r).choice = s.choice := rfl
@[simp] theorem State.setStepRec_pending (i : Nat) (r : Option StepRec) : (s.setStepRec i r).pending = s.pending := rfl

@[simp] theorem State.setStepRec_line (i : Nat) (r : Option StepRec) (m : Nat) : (s.setStepRec i r).line m = s.line m := rfl
@[simp] theorem State.setStepRec_audit (i : Nat) (r : Option StepRec) (m : Nat) : (s.setStepRec i r).audit m = s.audit m := rfl
@[simp] theorem State.setStepRec_bus (i : Nat) (r : Option StepRec) (m : Nat) : (s.setStepRec i r).bus m = s.bus m := rfl
@[simp] theorem State.setStepRec_chan (i : Nat) (r : Option StepRec) (m : Nat) : (s.setStepRec i r).chan m = s.chan m := rfl
@[simp] theorem State.setStepRec_plan (i : Nat) (r : Option StepRec) (m : Nat) : (s.setStepRec i r).plan m = s.plan m := rfl
@[simp] theorem State.setStepRec_headCal (i : Nat) (r : Option StepRec) (m : Nat) : (s.setStepRec i r).headCal m = s.headCal m := rfl
@[simp] theorem State.setStepRec_limit (i : Nat) (r : Option StepRec) (m j : Nat) : (s.setStepRec i r).limit m j = s.limit m j := rfl

/-! ## setPlan -/

@[simp] theorem State.setPlan_phase (p : Nat) (f : Option Nat) : (s.setPlan p f).phase = s.phase := rfl
@[simp] theorem State.setPlan_now (p : Nat) (f : Option Nat) : (s.setPlan p f).now = s.now := rfl
@[simp] theorem State.setPlan_minute (p : Nat) (f : Option Nat) : (s.setPlan p f).minute = s.minute := rfl
@[simp] theorem State.setPlan_nextFlap (p : Nat) (f : Option Nat) : (s.setPlan p f).nextFlap = s.nextFlap := rfl
@[simp] theorem State.setPlan_nextMinute (p : Nat) (f : Option Nat) : (s.setPlan p f).nextMinute = s.nextMinute := rfl
@[simp] theorem State.setPlan_hourDue (p : Nat) (f : Option Nat) : (s.setPlan p f).hourDue = s.hourDue := rfl
@[simp] theorem State.setPlan_lines (p : Nat) (f : Option Nat) : (s.setPlan p f).lines = s.lines := rfl
@[simp] theorem State.setPlan_audits (p : Nat) (f : Option Nat) : (s.setPlan p f).audits = s.audits := rfl
@[simp] theorem State.setPlan_link (p : Nat) (f : Option Nat) : (s.setPlan p f).link = s.link := rfl
@[simp] theorem State.setPlan_desk (p : Nat) (f : Option Nat) : (s.setPlan p f).desk = s.desk := rfl
@[simp] theorem State.setPlan_params (p : Nat) (f : Option Nat) : (s.setPlan p f).params = s.params := rfl
@[simp] theorem State.setPlan_hold (p : Nat) (f : Option Nat) : (s.setPlan p f).hold = s.hold := rfl
@[simp] theorem State.setPlan_flushes (p : Nat) (f : Option Nat) : (s.setPlan p f).flushes = s.flushes := rfl
@[simp] theorem State.setPlan_buses (p : Nat) (f : Option Nat) : (s.setPlan p f).buses = s.buses := rfl
@[simp] theorem State.setPlan_steps (p : Nat) (f : Option Nat) : (s.setPlan p f).steps = s.steps := rfl
@[simp] theorem State.setPlan_plans (p : Nat) (f : Option Nat) : (s.setPlan p f).plans = Table.set none s.plans p f := rfl
@[simp] theorem State.setPlan_chans (p : Nat) (f : Option Nat) : (s.setPlan p f).chans = s.chans := rfl
@[simp] theorem State.setPlan_cal (p : Nat) (f : Option Nat) : (s.setPlan p f).cal = s.cal := rfl
@[simp] theorem State.setPlan_limits (p : Nat) (f : Option Nat) : (s.setPlan p f).limits = s.limits := rfl
@[simp] theorem State.setPlan_sweep (p : Nat) (f : Option Nat) : (s.setPlan p f).sweep = s.sweep := rfl
@[simp] theorem State.setPlan_tickets (p : Nat) (f : Option Nat) : (s.setPlan p f).tickets = s.tickets := rfl
@[simp] theorem State.setPlan_choice (p : Nat) (f : Option Nat) : (s.setPlan p f).choice = s.choice := rfl
@[simp] theorem State.setPlan_pending (p : Nat) (f : Option Nat) : (s.setPlan p f).pending = s.pending := rfl

@[simp] theorem State.setPlan_line (p : Nat) (f : Option Nat) (m : Nat) : (s.setPlan p f).line m = s.line m := rfl
@[simp] theorem State.setPlan_audit (p : Nat) (f : Option Nat) (m : Nat) : (s.setPlan p f).audit m = s.audit m := rfl
@[simp] theorem State.setPlan_bus (p : Nat) (f : Option Nat) (m : Nat) : (s.setPlan p f).bus m = s.bus m := rfl
@[simp] theorem State.setPlan_chan (p : Nat) (f : Option Nat) (m : Nat) : (s.setPlan p f).chan m = s.chan m := rfl
@[simp] theorem State.setPlan_stepRec (p : Nat) (f : Option Nat) (m : Nat) : (s.setPlan p f).stepRec m = s.stepRec m := rfl
@[simp] theorem State.setPlan_headCal (p : Nat) (f : Option Nat) (m : Nat) : (s.setPlan p f).headCal m = s.headCal m := rfl
@[simp] theorem State.setPlan_limit (p : Nat) (f : Option Nat) (m j : Nat) : (s.setPlan p f).limit m j = s.limit m j := rfl

/-! ## setHeadCal -/

@[simp] theorem State.setHeadCal_phase (h : Nat) (c : HeadCal) : (s.setHeadCal h c).phase = s.phase := rfl
@[simp] theorem State.setHeadCal_now (h : Nat) (c : HeadCal) : (s.setHeadCal h c).now = s.now := rfl
@[simp] theorem State.setHeadCal_minute (h : Nat) (c : HeadCal) : (s.setHeadCal h c).minute = s.minute := rfl
@[simp] theorem State.setHeadCal_nextFlap (h : Nat) (c : HeadCal) : (s.setHeadCal h c).nextFlap = s.nextFlap := rfl
@[simp] theorem State.setHeadCal_nextMinute (h : Nat) (c : HeadCal) : (s.setHeadCal h c).nextMinute = s.nextMinute := rfl
@[simp] theorem State.setHeadCal_hourDue (h : Nat) (c : HeadCal) : (s.setHeadCal h c).hourDue = s.hourDue := rfl
@[simp] theorem State.setHeadCal_lines (h : Nat) (c : HeadCal) : (s.setHeadCal h c).lines = s.lines := rfl
@[simp] theorem State.setHeadCal_audits (h : Nat) (c : HeadCal) : (s.setHeadCal h c).audits = s.audits := rfl
@[simp] theorem State.setHeadCal_link (h : Nat) (c : HeadCal) : (s.setHeadCal h c).link = s.link := rfl
@[simp] theorem State.setHeadCal_desk (h : Nat) (c : HeadCal) : (s.setHeadCal h c).desk = s.desk := rfl
@[simp] theorem State.setHeadCal_params (h : Nat) (c : HeadCal) : (s.setHeadCal h c).params = s.params := rfl
@[simp] theorem State.setHeadCal_hold (h : Nat) (c : HeadCal) : (s.setHeadCal h c).hold = s.hold := rfl
@[simp] theorem State.setHeadCal_flushes (h : Nat) (c : HeadCal) : (s.setHeadCal h c).flushes = s.flushes := rfl
@[simp] theorem State.setHeadCal_buses (h : Nat) (c : HeadCal) : (s.setHeadCal h c).buses = s.buses := rfl
@[simp] theorem State.setHeadCal_steps (h : Nat) (c : HeadCal) : (s.setHeadCal h c).steps = s.steps := rfl
@[simp] theorem State.setHeadCal_plans (h : Nat) (c : HeadCal) : (s.setHeadCal h c).plans = s.plans := rfl
@[simp] theorem State.setHeadCal_chans (h : Nat) (c : HeadCal) : (s.setHeadCal h c).chans = s.chans := rfl
@[simp] theorem State.setHeadCal_cal (h : Nat) (c : HeadCal) : (s.setHeadCal h c).cal = Table.set .cold s.cal h c := rfl
@[simp] theorem State.setHeadCal_limits (h : Nat) (c : HeadCal) : (s.setHeadCal h c).limits = s.limits := rfl
@[simp] theorem State.setHeadCal_sweep (h : Nat) (c : HeadCal) : (s.setHeadCal h c).sweep = s.sweep := rfl
@[simp] theorem State.setHeadCal_tickets (h : Nat) (c : HeadCal) : (s.setHeadCal h c).tickets = s.tickets := rfl
@[simp] theorem State.setHeadCal_choice (h : Nat) (c : HeadCal) : (s.setHeadCal h c).choice = s.choice := rfl
@[simp] theorem State.setHeadCal_pending (h : Nat) (c : HeadCal) : (s.setHeadCal h c).pending = s.pending := rfl

@[simp] theorem State.setHeadCal_line (h : Nat) (c : HeadCal) (m : Nat) : (s.setHeadCal h c).line m = s.line m := rfl
@[simp] theorem State.setHeadCal_audit (h : Nat) (c : HeadCal) (m : Nat) : (s.setHeadCal h c).audit m = s.audit m := rfl
@[simp] theorem State.setHeadCal_bus (h : Nat) (c : HeadCal) (m : Nat) : (s.setHeadCal h c).bus m = s.bus m := rfl
@[simp] theorem State.setHeadCal_chan (h : Nat) (c : HeadCal) (m : Nat) : (s.setHeadCal h c).chan m = s.chan m := rfl
@[simp] theorem State.setHeadCal_stepRec (h : Nat) (c : HeadCal) (m : Nat) : (s.setHeadCal h c).stepRec m = s.stepRec m := rfl
@[simp] theorem State.setHeadCal_plan (h : Nat) (c : HeadCal) (m : Nat) : (s.setHeadCal h c).plan m = s.plan m := rfl
@[simp] theorem State.setHeadCal_limit (h : Nat) (c : HeadCal) (m j : Nat) : (s.setHeadCal h c).limit m j = s.limit m j := rfl

/-! ## setLimit -/

@[simp] theorem State.setLimit_phase (p i v : Nat) : (s.setLimit p i v).phase = s.phase := rfl
@[simp] theorem State.setLimit_now (p i v : Nat) : (s.setLimit p i v).now = s.now := rfl
@[simp] theorem State.setLimit_minute (p i v : Nat) : (s.setLimit p i v).minute = s.minute := rfl
@[simp] theorem State.setLimit_nextFlap (p i v : Nat) : (s.setLimit p i v).nextFlap = s.nextFlap := rfl
@[simp] theorem State.setLimit_nextMinute (p i v : Nat) : (s.setLimit p i v).nextMinute = s.nextMinute := rfl
@[simp] theorem State.setLimit_hourDue (p i v : Nat) : (s.setLimit p i v).hourDue = s.hourDue := rfl
@[simp] theorem State.setLimit_lines (p i v : Nat) : (s.setLimit p i v).lines = s.lines := rfl
@[simp] theorem State.setLimit_audits (p i v : Nat) : (s.setLimit p i v).audits = s.audits := rfl
@[simp] theorem State.setLimit_link (p i v : Nat) : (s.setLimit p i v).link = s.link := rfl
@[simp] theorem State.setLimit_desk (p i v : Nat) : (s.setLimit p i v).desk = s.desk := rfl
@[simp] theorem State.setLimit_params (p i v : Nat) : (s.setLimit p i v).params = s.params := rfl
@[simp] theorem State.setLimit_hold (p i v : Nat) : (s.setLimit p i v).hold = s.hold := rfl
@[simp] theorem State.setLimit_flushes (p i v : Nat) : (s.setLimit p i v).flushes = s.flushes := rfl
@[simp] theorem State.setLimit_buses (p i v : Nat) : (s.setLimit p i v).buses = s.buses := rfl
@[simp] theorem State.setLimit_steps (p i v : Nat) : (s.setLimit p i v).steps = s.steps := rfl
@[simp] theorem State.setLimit_plans (p i v : Nat) : (s.setLimit p i v).plans = s.plans := rfl
@[simp] theorem State.setLimit_chans (p i v : Nat) : (s.setLimit p i v).chans = s.chans := rfl
@[simp] theorem State.setLimit_cal (p i v : Nat) : (s.setLimit p i v).cal = s.cal := rfl
@[simp] theorem State.setLimit_limits (p i v : Nat) : (s.setLimit p i v).limits = Table.set 0 s.limits (p * 8 + i) v := rfl
@[simp] theorem State.setLimit_sweep (p i v : Nat) : (s.setLimit p i v).sweep = s.sweep := rfl
@[simp] theorem State.setLimit_tickets (p i v : Nat) : (s.setLimit p i v).tickets = s.tickets := rfl
@[simp] theorem State.setLimit_choice (p i v : Nat) : (s.setLimit p i v).choice = s.choice := rfl
@[simp] theorem State.setLimit_pending (p i v : Nat) : (s.setLimit p i v).pending = s.pending := rfl

@[simp] theorem State.setLimit_line (p i v : Nat) (m : Nat) : (s.setLimit p i v).line m = s.line m := rfl
@[simp] theorem State.setLimit_audit (p i v : Nat) (m : Nat) : (s.setLimit p i v).audit m = s.audit m := rfl
@[simp] theorem State.setLimit_bus (p i v : Nat) (m : Nat) : (s.setLimit p i v).bus m = s.bus m := rfl
@[simp] theorem State.setLimit_chan (p i v : Nat) (m : Nat) : (s.setLimit p i v).chan m = s.chan m := rfl
@[simp] theorem State.setLimit_stepRec (p i v : Nat) (m : Nat) : (s.setLimit p i v).stepRec m = s.stepRec m := rfl
@[simp] theorem State.setLimit_plan (p i v : Nat) (m : Nat) : (s.setLimit p i v).plan m = s.plan m := rfl
@[simp] theorem State.setLimit_headCal (p i v : Nat) (m : Nat) : (s.setLimit p i v).headCal m = s.headCal m := rfl

/-! ## The mark of a due start attempt -/

@[simp] theorem State.wantAttempt_phase : s.wantAttempt.phase = s.phase := rfl
@[simp] theorem State.wantAttempt_now : s.wantAttempt.now = s.now := rfl
@[simp] theorem State.wantAttempt_minute : s.wantAttempt.minute = s.minute := rfl
@[simp] theorem State.wantAttempt_nextFlap : s.wantAttempt.nextFlap = s.nextFlap := rfl
@[simp] theorem State.wantAttempt_nextMinute : s.wantAttempt.nextMinute = s.nextMinute := rfl
@[simp] theorem State.wantAttempt_hourDue : s.wantAttempt.hourDue = s.hourDue := rfl
@[simp] theorem State.wantAttempt_lines : s.wantAttempt.lines = s.lines := rfl
@[simp] theorem State.wantAttempt_audits : s.wantAttempt.audits = s.audits := rfl
@[simp] theorem State.wantAttempt_link : s.wantAttempt.link = s.link := rfl
@[simp] theorem State.wantAttempt_desk : s.wantAttempt.desk = s.desk := rfl
@[simp] theorem State.wantAttempt_params : s.wantAttempt.params = s.params := rfl
@[simp] theorem State.wantAttempt_hold : s.wantAttempt.hold = s.hold := rfl
@[simp] theorem State.wantAttempt_flushes : s.wantAttempt.flushes = s.flushes := rfl
@[simp] theorem State.wantAttempt_buses : s.wantAttempt.buses = s.buses := rfl
@[simp] theorem State.wantAttempt_steps : s.wantAttempt.steps = s.steps := rfl
@[simp] theorem State.wantAttempt_plans : s.wantAttempt.plans = s.plans := rfl
@[simp] theorem State.wantAttempt_chans : s.wantAttempt.chans = s.chans := rfl
@[simp] theorem State.wantAttempt_cal : s.wantAttempt.cal = s.cal := rfl
@[simp] theorem State.wantAttempt_limits : s.wantAttempt.limits = s.limits := rfl
@[simp] theorem State.wantAttempt_sweep : s.wantAttempt.sweep = { s.sweep with attemptDue := true } := rfl
@[simp] theorem State.wantAttempt_tickets : s.wantAttempt.tickets = s.tickets := rfl
@[simp] theorem State.wantAttempt_choice : s.wantAttempt.choice = s.choice := rfl
@[simp] theorem State.wantAttempt_pending : s.wantAttempt.pending = s.pending := rfl

end Sys2Proof.Machine
end

