-- ==== Sys2Proof/Laws/Tables.lean ====
section
/-! SUPPORT. The laws of the numbered stores: a record read after a write, and the canonical form that every write keeps. -/

namespace Sys2Proof.Machine

variable {α : Type} [DecidableEq α] {cold : α}

/-! ## Reading after writing -/

omit [DecidableEq α] in
theorem Table.get_erase (t : Table α) (n m : Nat) :
    Table.get cold (t.erase n) m = if m = n then cold else Table.get cold t m := by
  induction t with
  | nil => simp [Table.erase, Table.get]
  | cons p t ih =>
    obtain ⟨k, v⟩ := p
    by_cases hk : k = n <;> by_cases hm : m = n <;> by_cases hkm : k = m <;>
      simp_all [Table.erase, Table.get]

omit [DecidableEq α] in
theorem Table.get_insert (t : Table α) (n m : Nat) (v : α) (hn : Table.get cold t n = cold)
    (hfree : ∀ p ∈ t, p.1 ≠ n) :
    Table.get cold (t.insert n v) m = if m = n then v else Table.get cold t m := by
  induction t with
  | nil => by_cases h : n = m <;> simp [Table.insert, Table.get, h, eq_comm]
  | cons p t ih =>
    obtain ⟨k, w⟩ := p
    have hk : k ≠ n := hfree (k, w) (by simp)
    have ih' := ih (by simpa [Table.get, hk] using hn) (fun p hp => hfree p (by simp [hp]))
    by_cases hlt : n < k
    · simp only [Table.insert, hlt, if_true, Table.get]
      by_cases hm : m = n
      · simp [hm]
      · simp [hm, Ne.symm hm]
    · simp only [Table.insert, hlt, if_false, Table.get, ih']
      by_cases hm : m = n
      · simp [hm, hk]
      · simp [hm]

omit [DecidableEq α] in
theorem Table.erase_free (t : Table α) (n : Nat) : ∀ p ∈ t.erase n, p.1 ≠ n := by
  induction t with
  | nil => simp [Table.erase]
  | cons p t ih =>
    obtain ⟨k, v⟩ := p
    by_cases hk : k = n
    · simpa [Table.erase, hk] using ih
    · simpa [Table.erase, hk] using ih

/-- A record reads as what was last written under its number; every other number reads as before. -/
@[simp] theorem Table.get_set (t : Table α) (n m : Nat) (v : α) :
    Table.get cold (Table.set cold t n v) m = if m = n then v else Table.get cold t m := by
  unfold Table.set
  split
  · rename_i h; rw [get_erase]; simp [h]
  · rw [get_insert _ _ _ _ (by simp [get_erase]) (erase_free t n), get_erase]
    split <;> rfl

omit [DecidableEq α] in
theorem Table.erase_eq_self {t : Table α} {n : Nat} (h : ∀ p ∈ t, p.1 ≠ n) : t.erase n = t := by
  induction t with
  | nil => rfl
  | cons p t ih =>
    have hp : p.1 ≠ n := h p (by simp)
    simp [Table.erase, hp, ih fun q hq => h q (by simp [hq])]

omit [DecidableEq α] in
theorem Table.erase_insert {t : Table α} {n : Nat} (h : ∀ p ∈ t, p.1 ≠ n) (v : α) : (t.insert n v).erase n = t := by
  induction t with
  | nil => simp [Table.insert, Table.erase]
  | cons p t ih =>
    have hp : p.1 ≠ n := h p (by simp)
    have ht : ∀ q ∈ t, q.1 ≠ n := fun q hq => h q (by simp [hq])
    by_cases hlt : n < p.1
    · simp [Table.insert, hlt, Table.erase, hp, Table.erase_eq_self ht]
    · simp [Table.insert, hlt, Table.erase, hp, ih ht]

/-- Of two writes under one number the later stands. -/
@[simp] theorem Table.set_set (t : Table α) (n : Nat) (v w : α) :
    Table.set cold (Table.set cold t n v) n w = Table.set cold t n w := by
  have he : (Table.set cold t n v).erase n = t.erase n := by
    unfold Table.set
    split
    · exact Table.erase_eq_self (Table.erase_free t n)
    · exact Table.erase_insert (Table.erase_free t n) v
  unfold Table.set at he ⊢
  rw [he]

/-! ## The canonical form -/

omit [DecidableEq α] in
/-- A rising store lists only numbers above the bound, and is rising above any smaller bound. -/
theorem Table.rising_iff (lo : Nat) (t : Table α) :
    Table.rising lo t = true ↔ t.Pairwise (fun p q => p.1 < q.1) ∧ ∀ p ∈ t, lo < p.1 := by
  induction t generalizing lo with
  | nil => simp [Table.rising]
  | cons p t ih =>
    obtain ⟨k, v⟩ := p
    simp only [Table.rising, Bool.and_eq_true, decide_eq_true_eq, ih, List.pairwise_cons, List.mem_cons,
      forall_eq_or_imp]
    constructor
    · rintro ⟨h1, h2, h3⟩
      exact ⟨⟨h3, h2⟩, h1, fun p hp => Nat.lt_trans h1 (h3 p hp)⟩
    · rintro ⟨⟨h1, h2⟩, h3, -⟩
      exact ⟨h3, h2, h1⟩

/-- The canonical form in words: numbers strictly rising, no cold record listed. -/
theorem Table.wf_iff (t : Table α) :
    Table.wf cold t = true ↔ t.Pairwise (fun p q => p.1 < q.1) ∧ ∀ p ∈ t, p.2 ≠ cold := by
  cases t with
  | nil => simp [Table.wf]
  | cons p t =>
    obtain ⟨k, v⟩ := p
    simp only [Table.wf, Table.rising_iff, List.pairwise_cons, List.mem_cons, forall_eq_or_imp, Bool.and_eq_true,
      decide_eq_true_eq, List.all_eq_true]
    grind

theorem Table.erase_wf {t : Table α} (h : Table.wf cold t = true) (n : Nat) :
    Table.wf cold (t.erase n) = true := by
  have key : t.erase n = t.filter fun p => p.1 != n := by
    clear h
    induction t with
    | nil => rfl
    | cons p t ih => obtain ⟨k, v⟩ := p; by_cases hk : k = n <;> simp [Table.erase, hk, ih]
  rw [Table.wf_iff] at h ⊢
  rw [key]
  exact ⟨h.1.filter _, fun p hp => h.2 p (List.mem_filter.1 hp).1⟩

omit [DecidableEq α] in
theorem Table.mem_insert (t : Table α) (n : Nat) (v : α) (p : Nat × α) :
    p ∈ t.insert n v ↔ p = (n, v) ∨ p ∈ t := by
  induction t with
  | nil => simp [Table.insert]
  | cons q t ih =>
    obtain ⟨k, w⟩ := q
    by_cases h : n < k <;> simp [Table.insert, h, ih]
    grind

theorem Table.insert_wf {t : Table α} (h : Table.wf cold t = true) (n : Nat) {v : α} (hv : v ≠ cold)
    (hfree : ∀ p ∈ t, p.1 ≠ n) : Table.wf cold (t.insert n v) = true := by
  rw [Table.wf_iff] at h ⊢
  obtain ⟨h1, h2⟩ := h
  refine ⟨?_, fun p hp => ?_⟩
  · induction t with
    | nil => simp [Table.insert]
    | cons q t ih =>
      obtain ⟨k, w⟩ := q
      have hk : k ≠ n := hfree (k, w) (by simp)
      rw [List.pairwise_cons] at h1
      by_cases hlt : n < k
      · rw [show Table.insert ((k, w) :: t) n v = (n, v) :: (k, w) :: t by simp [Table.insert, hlt]]
        simp only [List.pairwise_cons, List.mem_cons, forall_eq_or_imp]
        exact ⟨⟨hlt, fun p hp => Nat.lt_trans hlt (h1.1 p hp)⟩, h1⟩
      · simp only [Table.insert, hlt, if_false, List.pairwise_cons]
        refine ⟨fun p hp => ?_, ih (fun p hp => hfree p (by simp [hp])) h1.2 fun p hp => h2 p (by simp [hp])⟩
        rcases (Table.mem_insert t n v p).1 hp with rfl | hp
        · exact Nat.lt_of_le_of_ne (Nat.le_of_not_lt hlt) hk
        · exact h1.1 p hp
  · rcases (Table.mem_insert t n v p).1 hp with rfl | hp
    · exact hv
    · exact h2 p hp

/-- The one write keeps the canonical form. -/
@[simp] theorem Table.set_wf {t : Table α} (h : Table.wf cold t = true) (n : Nat) (v : α) :
    Table.wf cold (Table.set cold t n v) = true := by
  unfold Table.set
  split
  · exact erase_wf h n
  · exact insert_wf (erase_wf h n) n ‹_› (erase_free t n)

theorem Table.mapListed_eq (g : α → α) (t : Table α) :
    Table.mapListed cold g t = (t.map fun p => (p.1, g p.2)).filter fun p => decide (p.2 ≠ cold) := by
  induction t with
  | nil => rfl
  | cons p t ih => obtain ⟨k, v⟩ := p; by_cases h : g v = cold <;> simp [Table.mapListed, h, ih]

/-- A change of every listed record keeps the canonical form. -/
theorem Table.mapListed_wf {t : Table α} (h : Table.wf cold t = true) (g : α → α) :
    Table.wf cold (Table.mapListed cold g t) = true := by
  rw [Table.wf_iff] at h ⊢
  rw [Table.mapListed_eq]
  refine ⟨List.Pairwise.filter _ (List.pairwise_map.2 (by simpa using h.1)), fun p hp => ?_⟩
  simpa using (List.mem_filter.1 hp).2

omit [DecidableEq α] in
/-- A number below every listed one reads as the cold record. -/
theorem Table.get_of_forall_ne (t : Table α) (n : Nat) (h : ∀ p ∈ t, p.1 ≠ n) : Table.get cold t n = cold := by
  induction t with
  | nil => rfl
  | cons p t ih =>
    obtain ⟨k, v⟩ := p
    simp only [List.mem_cons, forall_eq_or_imp] at h
    simp [Table.get, h.1, ih h.2]

/-- After a change of every listed record that leaves the cold record cold, every number reads as its changed record. -/
theorem Table.get_mapListed {t : Table α} (h : Table.wf cold t = true) {g : α → α} (hg : g cold = cold) (n : Nat) :
    Table.get cold (Table.mapListed cold g t) n = g (Table.get cold t n) := by
  rw [Table.wf_iff] at h
  obtain ⟨h, -⟩ := h
  induction t with
  | nil => simp [Table.mapListed, Table.get, hg]
  | cons p t ih =>
    obtain ⟨k, v⟩ := p
    rw [List.pairwise_cons] at h
    have ih' := ih h.2
    by_cases hk : k = n
    · subst hk
      by_cases hv : g v = cold
      · simp only [Table.mapListed, hv, if_true, Table.get, ih']
        rw [Table.get_of_forall_ne t k fun p hp => Nat.ne_of_gt (h.1 p hp), hg]
      · simp [Table.mapListed, hv, Table.get]
    · by_cases hv : g v = cold <;> simp [Table.mapListed, hv, Table.get, hk, ih']

/-! ## Reading one store after a write -/

@[simp] theorem State.setLine_line (s : State) (l m : Nat) (r : LineRec) :
    (s.setLine l r).line m = if m = l then r else s.line m := Table.get_set ..
@[simp] theorem State.setAudit_audit (s : State) (c m : Nat) (a : Audit) :
    (s.setAudit c a).audit m = if m = c then a else s.audit m := Table.get_set ..
@[simp] theorem State.setBus_bus (s : State) (b m : Nat) (r : Bus) :
    (s.setBus b r).bus m = if m = b then r else s.bus m := Table.get_set ..
@[simp] theorem State.setChan_chan (s : State) (h m : Nat) (c : Channel) :
    (s.setChan h c).chan m = if m = h then c else s.chan m := Table.get_set ..
@[simp] theorem State.setStepRec_stepRec (s : State) (i m : Nat) (r : Option StepRec) :
    (s.setStepRec i r).stepRec m = if m = i then r else s.stepRec m := Table.get_set ..
@[simp] theorem State.setPlan_plan (s : State) (p m : Nat) (f : Option Nat) :
    (s.setPlan p f).plan m = if m = p then f else s.plan m := Table.get_set ..
@[simp] theorem State.setHeadCal_headCal (s : State) (h m : Nat) (c : HeadCal) :
    (s.setHeadCal h c).headCal m = if m = h then c else s.headCal m := Table.get_set ..

@[simp] theorem State.setLine_setLine (s : State) (l : Nat) (r q : LineRec) :
    (s.setLine l r).setLine l q = s.setLine l q := by simp [State.setLine]
@[simp] theorem State.setBus_setBus (s : State) (b : Nat) (r q : Bus) :
    (s.setBus b r).setBus b q = s.setBus b q := by simp [State.setBus]
@[simp] theorem State.setChan_setChan (s : State) (h : Nat) (c d : Channel) :
    (s.setChan h c).setChan h d = s.setChan h d := by simp [State.setChan]

/-- A limit reads as what was last written in its slot; the slots of other profiles are not touched. -/
theorem State.setLimit_limit (s : State) (p i v q j : Nat) (hi : i < 8) (hj : j < 8) :
    (s.setLimit p i v).limit q j = if q = p ∧ j = i then v else s.limit q j := by
  have : (q * 8 + j = p * 8 + i) ↔ (q = p ∧ j = i) := by omega
  simp [State.setLimit, State.limit, Table.get_set, this]

end Sys2Proof.Machine
end

