-- ==== Sys2Proof/Laws/Ops.lean ====
section
/-! SUPPORT. What each shared operation over queues and notices can do. -/

namespace Sys2Proof.Machine

/-! ## Queues and notices -/

@[simp] theorem State.setAccess_keeps (s : State) (l : Nat) (a : Access) :
    (s.setAccess l a).phase = s.phase ∧ (s.setAccess l a).now = s.now ∧ (s.setAccess l a).minute = s.minute ∧
      (s.setAccess l a).nextFlap = s.nextFlap ∧ (s.setAccess l a).nextMinute = s.nextMinute ∧
      (s.setAccess l a).hourDue = s.hourDue ∧ (s.setAccess l a).audits = s.audits ∧ (s.setAccess l a).link = s.link ∧
      (s.setAccess l a).desk = s.desk ∧ (s.setAccess l a).params = s.params ∧ (s.setAccess l a).hold = s.hold ∧
      (s.setAccess l a).flushes = s.flushes ∧ (s.setAccess l a).buses = s.buses ∧ (s.setAccess l a).steps = s.steps ∧
      (s.setAccess l a).plans = s.plans ∧ (s.setAccess l a).chans = s.chans ∧ (s.setAccess l a).cal = s.cal ∧
      (s.setAccess l a).limits = s.limits ∧ (s.setAccess l a).sweep = s.sweep ∧ (s.setAccess l a).tickets = s.tickets ∧
      (s.setAccess l a).choice = s.choice ∧ (s.setAccess l a).pending = s.pending := by
  simp [State.setAccess]

@[simp] theorem State.setCondition_keeps (s : State) (l : Nat) (c : Condition) :
    (s.setCondition l c).phase = s.phase ∧ (s.setCondition l c).now = s.now ∧ (s.setCondition l c).minute = s.minute ∧
      (s.setCondition l c).nextFlap = s.nextFlap ∧ (s.setCondition l c).nextMinute = s.nextMinute ∧
      (s.setCondition l c).hourDue = s.hourDue ∧ (s.setCondition l c).audits = s.audits ∧
      (s.setCondition l c).link = s.link ∧ (s.setCondition l c).desk = s.desk ∧ (s.setCondition l c).params = s.params ∧
      (s.setCondition l c).hold = s.hold ∧ (s.setCondition l c).flushes = s.flushes ∧
      (s.setCondition l c).buses = s.buses ∧ (s.setCondition l c).steps = s.steps ∧
      (s.setCondition l c).plans = s.plans ∧ (s.setCondition l c).chans = s.chans ∧ (s.setCondition l c).cal = s.cal ∧
      (s.setCondition l c).limits = s.limits ∧ (s.setCondition l c).sweep = s.sweep ∧
      (s.setCondition l c).tickets = s.tickets ∧ (s.setCondition l c).choice = s.choice ∧
      (s.setCondition l c).pending = s.pending := by
  simp [State.setCondition]

@[simp] theorem State.fillS_keeps (s : State) :
    (s.fillS).phase = s.phase ∧ (s.fillS).now = s.now ∧ (s.fillS).minute = s.minute ∧ (s.fillS).nextFlap = s.nextFlap ∧
      (s.fillS).nextMinute = s.nextMinute ∧ (s.fillS).hourDue = s.hourDue ∧ (s.fillS).lines = s.lines ∧
      (s.fillS).audits = s.audits ∧ (s.fillS).desk = s.desk ∧ (s.fillS).params = s.params ∧ (s.fillS).hold = s.hold ∧
      (s.fillS).flushes = s.flushes ∧ (s.fillS).buses = s.buses ∧ (s.fillS).steps = s.steps ∧
      (s.fillS).plans = s.plans ∧ (s.fillS).chans = s.chans ∧ (s.fillS).cal = s.cal ∧ (s.fillS).limits = s.limits ∧
      (s.fillS).sweep = s.sweep ∧ (s.fillS).tickets = s.tickets ∧ (s.fillS).choice = s.choice ∧
      (s.fillS).pending = s.pending ∧ (s.fillS).link.down = s.link.down ∧ (s.fillS).link.up = s.link.up ∧
      (s.fillS).link.sOwn = s.link.sOwn ∧ (s.fillS).link.offers = s.link.offers ∧
      (s.fillS).link.serial = s.link.serial ∧ (s.fillS).link.portU = s.link.portU := by
  dsimp only [State.fillS]
  (repeat' split) <;> simp

@[simp] theorem State.fillU_keeps (s : State) :
    (s.fillU).phase = s.phase ∧ (s.fillU).now = s.now ∧ (s.fillU).minute = s.minute ∧ (s.fillU).nextFlap = s.nextFlap ∧
      (s.fillU).nextMinute = s.nextMinute ∧ (s.fillU).hourDue = s.hourDue ∧ (s.fillU).lines = s.lines ∧
      (s.fillU).audits = s.audits ∧ (s.fillU).desk = s.desk ∧ (s.fillU).params = s.params ∧ (s.fillU).hold = s.hold ∧
      (s.fillU).flushes = s.flushes ∧ (s.fillU).buses = s.buses ∧ (s.fillU).steps = s.steps ∧
      (s.fillU).plans = s.plans ∧ (s.fillU).chans = s.chans ∧ (s.fillU).cal = s.cal ∧ (s.fillU).limits = s.limits ∧
      (s.fillU).sweep = s.sweep ∧ (s.fillU).tickets = s.tickets ∧ (s.fillU).choice = s.choice ∧
      (s.fillU).pending = s.pending ∧ (s.fillU).link.down = s.link.down ∧ (s.fillU).link.up = s.link.up ∧
      (s.fillU).link.sOwn = s.link.sOwn ∧ (s.fillU).link.offers = s.link.offers ∧
      (s.fillU).link.serial = s.link.serial ∧ (s.fillU).link.portS = s.link.portS := by
  dsimp only [State.fillU]
  (repeat' split) <;> simp

@[simp] theorem State.enterDown_keeps (s : State) (f : Bytes) :
    (s.enterDown f).phase = s.phase ∧ (s.enterDown f).now = s.now ∧ (s.enterDown f).minute = s.minute ∧
      (s.enterDown f).nextFlap = s.nextFlap ∧ (s.enterDown f).nextMinute = s.nextMinute ∧
      (s.enterDown f).hourDue = s.hourDue ∧ (s.enterDown f).lines = s.lines ∧ (s.enterDown f).audits = s.audits ∧
      (s.enterDown f).desk = s.desk ∧ (s.enterDown f).params = s.params ∧ (s.enterDown f).hold = s.hold ∧
      (s.enterDown f).flushes = s.flushes ∧ (s.enterDown f).buses = s.buses ∧ (s.enterDown f).steps = s.steps ∧
      (s.enterDown f).plans = s.plans ∧ (s.enterDown f).chans = s.chans ∧ (s.enterDown f).cal = s.cal ∧
      (s.enterDown f).limits = s.limits ∧ (s.enterDown f).sweep = s.sweep ∧ (s.enterDown f).tickets = s.tickets ∧
      (s.enterDown f).choice = s.choice ∧ (s.enterDown f).pending = s.pending ∧ (s.enterDown f).link.up = s.link.up ∧
      (s.enterDown f).link.sOwn = s.link.sOwn ∧ (s.enterDown f).link.offers = s.link.offers ∧
      (s.enterDown f).link.serial = s.link.serial ∧ (s.enterDown f).link.portU = s.link.portU := by
  simp [State.enterDown]

@[simp] theorem State.enterDown_down (s : State) (f : Bytes) : (s.enterDown f).link.down = s.link.down ++ [f] := by
  simp [State.enterDown]

@[simp] theorem State.enterUp_keeps (s : State) (f : Bytes) :
    (s.enterUp f).phase = s.phase ∧ (s.enterUp f).now = s.now ∧ (s.enterUp f).minute = s.minute ∧
      (s.enterUp f).nextFlap = s.nextFlap ∧ (s.enterUp f).nextMinute = s.nextMinute ∧
      (s.enterUp f).hourDue = s.hourDue ∧ (s.enterUp f).lines = s.lines ∧ (s.enterUp f).audits = s.audits ∧
      (s.enterUp f).desk = s.desk ∧ (s.enterUp f).params = s.params ∧ (s.enterUp f).hold = s.hold ∧
      (s.enterUp f).flushes = s.flushes ∧ (s.enterUp f).buses = s.buses ∧ (s.enterUp f).steps = s.steps ∧
      (s.enterUp f).plans = s.plans ∧ (s.enterUp f).chans = s.chans ∧ (s.enterUp f).cal = s.cal ∧
      (s.enterUp f).limits = s.limits ∧ (s.enterUp f).sweep = s.sweep ∧ (s.enterUp f).tickets = s.tickets ∧
      (s.enterUp f).choice = s.choice ∧ (s.enterUp f).pending = s.pending ∧ (s.enterUp f).link.down = s.link.down ∧
      (s.enterUp f).link.sOwn = s.link.sOwn ∧ (s.enterUp f).link.offers = s.link.offers ∧
      (s.enterUp f).link.serial = s.link.serial ∧ (s.enterUp f).link.portS = s.link.portS := by
  simp [State.enterUp]

@[simp] theorem State.enterUp_up (s : State) (f : Bytes) : (s.enterUp f).link.up = s.link.up ++ [f] := by
  simp [State.enterUp]

@[simp] theorem State.enterSOwn_keeps (s : State) (f : OwnFrame) :
    (s.enterSOwn f).phase = s.phase ∧ (s.enterSOwn f).now = s.now ∧ (s.enterSOwn f).minute = s.minute ∧
      (s.enterSOwn f).nextFlap = s.nextFlap ∧ (s.enterSOwn f).nextMinute = s.nextMinute ∧
      (s.enterSOwn f).hourDue = s.hourDue ∧ (s.enterSOwn f).lines = s.lines ∧ (s.enterSOwn f).audits = s.audits ∧
      (s.enterSOwn f).desk = s.desk ∧ (s.enterSOwn f).params = s.params ∧ (s.enterSOwn f).hold = s.hold ∧
      (s.enterSOwn f).flushes = s.flushes ∧ (s.enterSOwn f).buses = s.buses ∧ (s.enterSOwn f).steps = s.steps ∧
      (s.enterSOwn f).plans = s.plans ∧ (s.enterSOwn f).chans = s.chans ∧ (s.enterSOwn f).cal = s.cal ∧
      (s.enterSOwn f).limits = s.limits ∧ (s.enterSOwn f).sweep = s.sweep ∧ (s.enterSOwn f).tickets = s.tickets ∧
      (s.enterSOwn f).choice = s.choice ∧ (s.enterSOwn f).pending = s.pending ∧
      (s.enterSOwn f).link.down = s.link.down ∧ (s.enterSOwn f).link.up = s.link.up ∧
      (s.enterSOwn f).link.offers = s.link.offers ∧ (s.enterSOwn f).link.serial = s.link.serial ∧
      (s.enterSOwn f).link.portU = s.link.portU := by
  simp [State.enterSOwn]

@[simp] theorem State.enterSOwn_sOwn (s : State) (f : OwnFrame) : (s.enterSOwn f).link.sOwn = s.link.sOwn ++ [f] := by
  simp [State.enterSOwn]

@[simp] theorem State.offer_keeps (s : State) (b : Bytes) (t : Tie) :
    (s.offer b t).phase = s.phase ∧ (s.offer b t).now = s.now ∧ (s.offer b t).minute = s.minute ∧
      (s.offer b t).nextFlap = s.nextFlap ∧ (s.offer b t).nextMinute = s.nextMinute ∧
      (s.offer b t).hourDue = s.hourDue ∧ (s.offer b t).lines = s.lines ∧ (s.offer b t).audits = s.audits ∧
      (s.offer b t).desk = s.desk ∧ (s.offer b t).params = s.params ∧ (s.offer b t).hold = s.hold ∧
      (s.offer b t).flushes = s.flushes ∧ (s.offer b t).buses = s.buses ∧ (s.offer b t).steps = s.steps ∧
      (s.offer b t).plans = s.plans ∧ (s.offer b t).chans = s.chans ∧ (s.offer b t).cal = s.cal ∧
      (s.offer b t).limits = s.limits ∧ (s.offer b t).sweep = s.sweep ∧ (s.offer b t).tickets = s.tickets ∧
      (s.offer b t).choice = s.choice ∧ (s.offer b t).pending = s.pending ∧ (s.offer b t).link.down = s.link.down ∧
      (s.offer b t).link.up = s.link.up ∧ (s.offer b t).link.portU = s.link.portU := by
  dsimp only [State.offer]
  (repeat' split) <;> simp

/-- An offered frame stands behind every frame of the S-own queue and every waiting offer (R29), under the next serial number. -/
@[simp] theorem State.offer_own (s : State) (b : Bytes) (t : Tie) :
    (s.offer b t).link.sOwn ++ (s.offer b t).link.offers = s.link.sOwn ++ s.link.offers ++ [⟨b, s.link.serial, t⟩] ∧
      (s.offer b t).link.serial = s.link.serial + 1 := by
  unfold State.offer State.sOwnOpen
  split
  · rename_i h
    simp only [Bool.and_eq_true, List.isEmpty_iff] at h
    simp [h.1]
  · simp

/-- The S-own queue never takes more than its room (R29). -/
theorem State.offer_room (s : State) (b : Bytes) (t : Tie) (h : s.link.sOwn.length ≤ 16) :
    (s.offer b t).link.sOwn.length ≤ 16 := by
  unfold State.offer State.sOwnOpen Config.sOwnRoom
  split
  · rename_i h1
    simp only [Bool.and_eq_true, decide_eq_true_eq] at h1
    simp only [State.enterSOwn_sOwn, List.length_append, List.length_singleton]
    exact h1.2
  · simpa using h

@[simp] theorem State.placeNotice_keeps (s : State) (n : Notice) :
    (s.placeNotice n).phase = s.phase ∧ (s.placeNotice n).now = s.now ∧ (s.placeNotice n).minute = s.minute ∧
      (s.placeNotice n).nextFlap = s.nextFlap ∧ (s.placeNotice n).nextMinute = s.nextMinute ∧
      (s.placeNotice n).hourDue = s.hourDue ∧ (s.placeNotice n).lines = s.lines ∧ (s.placeNotice n).audits = s.audits ∧
      (s.placeNotice n).params = s.params ∧ (s.placeNotice n).hold = s.hold ∧ (s.placeNotice n).flushes = s.flushes ∧
      (s.placeNotice n).buses = s.buses ∧ (s.placeNotice n).steps = s.steps ∧ (s.placeNotice n).plans = s.plans ∧
      (s.placeNotice n).chans = s.chans ∧ (s.placeNotice n).cal = s.cal ∧ (s.placeNotice n).limits = s.limits ∧
      (s.placeNotice n).sweep = s.sweep ∧ (s.placeNotice n).tickets = s.tickets ∧ (s.placeNotice n).choice = s.choice ∧
      (s.placeNotice n).pending = s.pending ∧ (s.placeNotice n).link.down = s.link.down ∧
      (s.placeNotice n).link.up = s.link.up ∧ (s.placeNotice n).link.sOwn = s.link.sOwn ∧
      (s.placeNotice n).link.offers = s.link.offers ∧ (s.placeNotice n).link.serial = s.link.serial ∧
      (s.placeNotice n).link.portS = s.link.portS ∧ (s.placeNotice n).desk.commands = s.desk.commands ∧
      (s.placeNotice n).desk.reservations = s.desk.reservations ∧ (s.placeNotice n).desk.lost = s.desk.lost := by
  simp [State.placeNotice]

@[simp] theorem State.placeNotice_notices (s : State) (n : Notice) :
    (s.placeNotice n).desk.notices = s.desk.notices ++ [n] := by
  simp [State.placeNotice]

@[simp] theorem State.notify_keeps (s : State) (k : NoticeKind) (b : Bytes) :
    (s.notify k b).phase = s.phase ∧ (s.notify k b).now = s.now ∧ (s.notify k b).minute = s.minute ∧
      (s.notify k b).nextFlap = s.nextFlap ∧ (s.notify k b).nextMinute = s.nextMinute ∧
      (s.notify k b).hourDue = s.hourDue ∧ (s.notify k b).lines = s.lines ∧ (s.notify k b).audits = s.audits ∧
      (s.notify k b).params = s.params ∧ (s.notify k b).hold = s.hold ∧ (s.notify k b).flushes = s.flushes ∧
      (s.notify k b).buses = s.buses ∧ (s.notify k b).steps = s.steps ∧ (s.notify k b).plans = s.plans ∧
      (s.notify k b).chans = s.chans ∧ (s.notify k b).cal = s.cal ∧ (s.notify k b).limits = s.limits ∧
      (s.notify k b).sweep = s.sweep ∧ (s.notify k b).tickets = s.tickets ∧ (s.notify k b).choice = s.choice ∧
      (s.notify k b).pending = s.pending ∧ (s.notify k b).link.down = s.link.down ∧ (s.notify k b).link.up = s.link.up ∧
      (s.notify k b).link.sOwn = s.link.sOwn ∧ (s.notify k b).link.offers = s.link.offers ∧
      (s.notify k b).link.serial = s.link.serial ∧ (s.notify k b).link.portS = s.link.portS ∧
      (s.notify k b).desk.commands = s.desk.commands ∧ (s.notify k b).desk.reservations = s.desk.reservations := by
  dsimp only [State.notify]
  (repeat' split) <;> simp

/-- An unsolicited notice enters the notice queue while its part and the whole have room, and is lost and counted otherwise
(R181). -/
theorem State.notify_notices (s : State) (k : NoticeKind) (b : Bytes) :
    (s.unsolicitedCount < 56 ∧ s.desk.notices.length + s.desk.reservations < 64 ∧
        (s.notify k b).desk.notices = s.desk.notices ++ [⟨0, k, 0, b⟩] ∧ (s.notify k b).desk.lost = s.desk.lost) ∨
      (¬ (s.unsolicitedCount < 56 ∧ s.desk.notices.length + s.desk.reservations < 64) ∧
        (s.notify k b).desk.notices = s.desk.notices ∧ (s.notify k b).desk.lost = min 65535 (s.desk.lost + 1)) := by
  unfold State.notify State.noticesFull Config.unsolicitedRoom Config.noticeRoom
  split
  · rename_i h
    simp only [decide_eq_false_iff_not, Nat.not_le] at h
    exact .inl ⟨h.1, h.2, by simp, by simp⟩
  · rename_i h
    simp only [decide_eq_false_iff_not, Nat.not_le] at h
    exact .inr ⟨h, rfl, rfl⟩

@[simp] theorem State.respond_keeps (s : State) (t : Byte) (r : Result) (b : Bytes) :
    (s.respond t r b).phase = s.phase ∧ (s.respond t r b).now = s.now ∧ (s.respond t r b).minute = s.minute ∧
      (s.respond t r b).nextFlap = s.nextFlap ∧ (s.respond t r b).nextMinute = s.nextMinute ∧
      (s.respond t r b).hourDue = s.hourDue ∧ (s.respond t r b).lines = s.lines ∧ (s.respond t r b).audits = s.audits ∧
      (s.respond t r b).params = s.params ∧ (s.respond t r b).hold = s.hold ∧ (s.respond t r b).flushes = s.flushes ∧
      (s.respond t r b).buses = s.buses ∧ (s.respond t r b).steps = s.steps ∧ (s.respond t r b).plans = s.plans ∧
      (s.respond t r b).chans = s.chans ∧ (s.respond t r b).cal = s.cal ∧ (s.respond t r b).limits = s.limits ∧
      (s.respond t r b).sweep = s.sweep ∧ (s.respond t r b).tickets = s.tickets ∧ (s.respond t r b).choice = s.choice ∧
      (s.respond t r b).pending = s.pending ∧ (s.respond t r b).link.down = s.link.down ∧
      (s.respond t r b).link.up = s.link.up ∧ (s.respond t r b).link.sOwn = s.link.sOwn ∧
      (s.respond t r b).link.offers = s.link.offers ∧ (s.respond t r b).link.serial = s.link.serial ∧
      (s.respond t r b).link.portS = s.link.portS ∧ (s.respond t r b).desk.commands = s.desk.commands ∧
      (s.respond t r b).desk.lost = s.desk.lost := by
  simp [State.respond]

/-- A response stands at the tail of the notice queue and uses one reservation (R181). -/
@[simp] theorem State.respond_notices (s : State) (t : Byte) (r : Result) (b : Bytes) :
    (s.respond t r b).desk.notices = s.desk.notices ++ [⟨t, .response, r.code, b⟩] ∧
      (s.respond t r b).desk.reservations = s.desk.reservations - 1 := by
  simp [State.respond]

@[simp] theorem State.inFreeOrder_keeps (s : State) {α : Type} (l : List α) :
    ((s.inFreeOrder l).2).phase = s.phase ∧ ((s.inFreeOrder l).2).now = s.now ∧
      ((s.inFreeOrder l).2).minute = s.minute ∧ ((s.inFreeOrder l).2).nextFlap = s.nextFlap ∧
      ((s.inFreeOrder l).2).nextMinute = s.nextMinute ∧ ((s.inFreeOrder l).2).hourDue = s.hourDue ∧
      ((s.inFreeOrder l).2).lines = s.lines ∧ ((s.inFreeOrder l).2).audits = s.audits ∧
      ((s.inFreeOrder l).2).link = s.link ∧ ((s.inFreeOrder l).2).desk = s.desk ∧
      ((s.inFreeOrder l).2).params = s.params ∧ ((s.inFreeOrder l).2).hold = s.hold ∧
      ((s.inFreeOrder l).2).flushes = s.flushes ∧ ((s.inFreeOrder l).2).buses = s.buses ∧
      ((s.inFreeOrder l).2).steps = s.steps ∧ ((s.inFreeOrder l).2).plans = s.plans ∧
      ((s.inFreeOrder l).2).chans = s.chans ∧ ((s.inFreeOrder l).2).cal = s.cal ∧
      ((s.inFreeOrder l).2).limits = s.limits ∧ ((s.inFreeOrder l).2).sweep = s.sweep ∧
      ((s.inFreeOrder l).2).tickets = s.tickets ∧ ((s.inFreeOrder l).2).pending = s.pending := by
  simp [State.inFreeOrder]

end Sys2Proof.Machine
end

