-- ==== Sys2Proof/Laws/Orders.lean ====
section
/-! SUPPORT. What the operations of the Order Screen leave. -/

namespace Sys2Proof.Machine

@[simp] theorem State.commit_keeps (s : State) (f : Bytes) :
    (s.commit f).phase = s.phase ∧ (s.commit f).now = s.now ∧ (s.commit f).minute = s.minute ∧
      (s.commit f).nextFlap = s.nextFlap ∧ (s.commit f).nextMinute = s.nextMinute ∧ (s.commit f).hourDue = s.hourDue ∧
      (s.commit f).audits = s.audits ∧ (s.commit f).link = s.link ∧ (s.commit f).desk = s.desk ∧
      (s.commit f).params = s.params ∧ (s.commit f).hold = s.hold ∧ (s.commit f).flushes = s.flushes ∧
      (s.commit f).buses = s.buses ∧ (s.commit f).steps = s.steps ∧ (s.commit f).plans = s.plans ∧
      (s.commit f).chans = s.chans ∧ (s.commit f).cal = s.cal ∧ (s.commit f).limits = s.limits ∧
      (s.commit f).sweep = s.sweep ∧ (s.commit f).tickets = s.tickets ∧ (s.commit f).choice = s.choice ∧
      (s.commit f).pending = s.pending := by
  dsimp only [State.commit]
  (repeat' split) <;> simp

@[simp] theorem State.setFlush_keeps (s : State) (f : Flush) :
    (s.setFlush f).phase = s.phase ∧ (s.setFlush f).now = s.now ∧ (s.setFlush f).minute = s.minute ∧
      (s.setFlush f).nextFlap = s.nextFlap ∧ (s.setFlush f).nextMinute = s.nextMinute ∧
      (s.setFlush f).hourDue = s.hourDue ∧ (s.setFlush f).lines = s.lines ∧ (s.setFlush f).audits = s.audits ∧
      (s.setFlush f).link = s.link ∧ (s.setFlush f).desk = s.desk ∧ (s.setFlush f).params = s.params ∧
      (s.setFlush f).hold = s.hold ∧ (s.setFlush f).buses = s.buses ∧ (s.setFlush f).steps = s.steps ∧
      (s.setFlush f).plans = s.plans ∧ (s.setFlush f).chans = s.chans ∧ (s.setFlush f).cal = s.cal ∧
      (s.setFlush f).limits = s.limits ∧ (s.setFlush f).sweep = s.sweep ∧ (s.setFlush f).tickets = s.tickets ∧
      (s.setFlush f).choice = s.choice ∧ (s.setFlush f).pending = s.pending := by
  simp [State.setFlush]

@[simp] theorem State.endFlush_keeps (s : State) (f : Flush) :
    (s.endFlush f).phase = s.phase ∧ (s.endFlush f).now = s.now ∧ (s.endFlush f).minute = s.minute ∧
      (s.endFlush f).nextFlap = s.nextFlap ∧ (s.endFlush f).nextMinute = s.nextMinute ∧
      (s.endFlush f).hourDue = s.hourDue ∧ (s.endFlush f).audits = s.audits ∧ (s.endFlush f).link = s.link ∧
      (s.endFlush f).desk = s.desk ∧ (s.endFlush f).params = s.params ∧ (s.endFlush f).hold = s.hold ∧
      (s.endFlush f).buses = s.buses ∧ (s.endFlush f).steps = s.steps ∧ (s.endFlush f).plans = s.plans ∧
      (s.endFlush f).chans = s.chans ∧ (s.endFlush f).cal = s.cal ∧ (s.endFlush f).limits = s.limits ∧
      (s.endFlush f).sweep = s.sweep ∧ (s.endFlush f).tickets = s.tickets ∧ (s.endFlush f).choice = s.choice ∧
      (s.endFlush f).pending = s.pending := by
  dsimp only [State.endFlush]
  (repeat' split) <;> simp

@[simp] theorem State.runFlush_keeps (s : State) (n l : Nat) :
    (State.runFlush n l s).phase = s.phase ∧ (State.runFlush n l s).now = s.now ∧ (State.runFlush n l s).minute = s.minute ∧
      (State.runFlush n l s).nextFlap = s.nextFlap ∧ (State.runFlush n l s).nextMinute = s.nextMinute ∧ (State.runFlush n l s).hourDue = s.hourDue ∧
      (State.runFlush n l s).audits = s.audits ∧ (State.runFlush n l s).desk = s.desk ∧ (State.runFlush n l s).params = s.params ∧
      (State.runFlush n l s).buses = s.buses ∧ (State.runFlush n l s).steps = s.steps ∧ (State.runFlush n l s).plans = s.plans ∧
      (State.runFlush n l s).chans = s.chans ∧ (State.runFlush n l s).cal = s.cal ∧ (State.runFlush n l s).limits = s.limits ∧
      (State.runFlush n l s).sweep = s.sweep ∧ (State.runFlush n l s).tickets = s.tickets ∧ (State.runFlush n l s).choice = s.choice ∧
      (State.runFlush n l s).pending = s.pending ∧ (State.runFlush n l s).link.down = s.link.down ∧ (State.runFlush n l s).link.up = s.link.up ∧
      (State.runFlush n l s).link.portU = s.link.portU := by
  induction n generalizing s with
  | zero => simp [State.runFlush]
  | succ n ih => dsimp only [State.runFlush]; (repeat' split) <;> simp [ih]

@[simp] theorem State.flushOn_keeps (s : State) (l : Nat) :
    (s.flushOn l).phase = s.phase ∧ (s.flushOn l).now = s.now ∧ (s.flushOn l).minute = s.minute ∧
      (s.flushOn l).nextFlap = s.nextFlap ∧ (s.flushOn l).nextMinute = s.nextMinute ∧
      (s.flushOn l).hourDue = s.hourDue ∧ (s.flushOn l).audits = s.audits ∧ (s.flushOn l).desk = s.desk ∧
      (s.flushOn l).params = s.params ∧ (s.flushOn l).buses = s.buses ∧ (s.flushOn l).steps = s.steps ∧
      (s.flushOn l).plans = s.plans ∧ (s.flushOn l).chans = s.chans ∧ (s.flushOn l).cal = s.cal ∧
      (s.flushOn l).limits = s.limits ∧ (s.flushOn l).sweep = s.sweep ∧ (s.flushOn l).tickets = s.tickets ∧
      (s.flushOn l).choice = s.choice ∧ (s.flushOn l).pending = s.pending ∧ (s.flushOn l).link.down = s.link.down ∧
      (s.flushOn l).link.up = s.link.up ∧ (s.flushOn l).link.portU = s.link.portU := by
  simp [State.flushOn]

@[simp] theorem State.beginFlush_keeps (s : State) (l : Nat) (b : Bool) :
    (s.beginFlush l b).phase = s.phase ∧ (s.beginFlush l b).now = s.now ∧ (s.beginFlush l b).minute = s.minute ∧
      (s.beginFlush l b).nextFlap = s.nextFlap ∧ (s.beginFlush l b).nextMinute = s.nextMinute ∧
      (s.beginFlush l b).hourDue = s.hourDue ∧ (s.beginFlush l b).audits = s.audits ∧ (s.beginFlush l b).desk = s.desk ∧
      (s.beginFlush l b).params = s.params ∧ (s.beginFlush l b).buses = s.buses ∧ (s.beginFlush l b).steps = s.steps ∧
      (s.beginFlush l b).plans = s.plans ∧ (s.beginFlush l b).chans = s.chans ∧ (s.beginFlush l b).cal = s.cal ∧
      (s.beginFlush l b).limits = s.limits ∧ (s.beginFlush l b).sweep = s.sweep ∧
      (s.beginFlush l b).tickets = s.tickets ∧ (s.beginFlush l b).choice = s.choice ∧
      (s.beginFlush l b).pending = s.pending ∧ (s.beginFlush l b).link.down = s.link.down ∧
      (s.beginFlush l b).link.up = s.link.up ∧ (s.beginFlush l b).link.portU = s.link.portU := by
  simp [State.beginFlush]

@[simp] theorem State.releasePath_keeps (s : State) (l : Nat) (b : Bool) :
    (s.releasePath l b).phase = s.phase ∧ (s.releasePath l b).now = s.now ∧ (s.releasePath l b).minute = s.minute ∧
      (s.releasePath l b).nextFlap = s.nextFlap ∧ (s.releasePath l b).nextMinute = s.nextMinute ∧
      (s.releasePath l b).hourDue = s.hourDue ∧ (s.releasePath l b).audits = s.audits ∧
      (s.releasePath l b).desk = s.desk ∧ (s.releasePath l b).params = s.params ∧ (s.releasePath l b).buses = s.buses ∧
      (s.releasePath l b).steps = s.steps ∧ (s.releasePath l b).plans = s.plans ∧ (s.releasePath l b).chans = s.chans ∧
      (s.releasePath l b).cal = s.cal ∧ (s.releasePath l b).limits = s.limits ∧ (s.releasePath l b).sweep = s.sweep ∧
      (s.releasePath l b).tickets = s.tickets ∧ (s.releasePath l b).choice = s.choice ∧
      (s.releasePath l b).pending = s.pending ∧ (s.releasePath l b).link.down = s.link.down ∧
      (s.releasePath l b).link.up = s.link.up ∧ (s.releasePath l b).link.portU = s.link.portU := by
  dsimp only [State.releasePath]
  (repeat' split) <;> simp

@[simp] theorem State.holdOrder_keeps (s : State) (f : Bytes) (l : Nat) :
    (s.holdOrder f l).phase = s.phase ∧ (s.holdOrder f l).now = s.now ∧ (s.holdOrder f l).minute = s.minute ∧
      (s.holdOrder f l).nextFlap = s.nextFlap ∧ (s.holdOrder f l).nextMinute = s.nextMinute ∧
      (s.holdOrder f l).hourDue = s.hourDue ∧ (s.holdOrder f l).lines = s.lines ∧ (s.holdOrder f l).audits = s.audits ∧
      (s.holdOrder f l).params = s.params ∧ (s.holdOrder f l).flushes = s.flushes ∧ (s.holdOrder f l).buses = s.buses ∧
      (s.holdOrder f l).steps = s.steps ∧ (s.holdOrder f l).plans = s.plans ∧ (s.holdOrder f l).chans = s.chans ∧
      (s.holdOrder f l).cal = s.cal ∧ (s.holdOrder f l).limits = s.limits ∧ (s.holdOrder f l).sweep = s.sweep ∧
      (s.holdOrder f l).tickets = s.tickets ∧ (s.holdOrder f l).choice = s.choice ∧
      (s.holdOrder f l).pending = s.pending ∧ (s.holdOrder f l).link.down = s.link.down ∧
      (s.holdOrder f l).link.up = s.link.up ∧ (s.holdOrder f l).link.sOwn = s.link.sOwn ∧
      (s.holdOrder f l).link.offers = s.link.offers ∧ (s.holdOrder f l).link.serial = s.link.serial ∧
      (s.holdOrder f l).link.portS = s.link.portS ∧ (s.holdOrder f l).desk.commands = s.desk.commands ∧
      (s.holdOrder f l).desk.reservations = s.desk.reservations := by
  dsimp only [State.holdOrder]
  (repeat' split) <;> simp

@[simp] theorem State.endIfDone_keeps (s : State) (l : Nat) :
    (s.endIfDone l).phase = s.phase ∧ (s.endIfDone l).now = s.now ∧ (s.endIfDone l).minute = s.minute ∧
      (s.endIfDone l).nextFlap = s.nextFlap ∧ (s.endIfDone l).nextMinute = s.nextMinute ∧
      (s.endIfDone l).hourDue = s.hourDue ∧ (s.endIfDone l).audits = s.audits ∧ (s.endIfDone l).link = s.link ∧
      (s.endIfDone l).desk = s.desk ∧ (s.endIfDone l).params = s.params ∧ (s.endIfDone l).hold = s.hold ∧
      (s.endIfDone l).buses = s.buses ∧ (s.endIfDone l).steps = s.steps ∧ (s.endIfDone l).plans = s.plans ∧
      (s.endIfDone l).chans = s.chans ∧ (s.endIfDone l).cal = s.cal ∧ (s.endIfDone l).limits = s.limits ∧
      (s.endIfDone l).sweep = s.sweep ∧ (s.endIfDone l).tickets = s.tickets ∧ (s.endIfDone l).choice = s.choice ∧
      (s.endIfDone l).pending = s.pending := by
  dsimp only [State.endIfDone]
  (repeat' split) <;> simp

@[simp] theorem State.lapse_keeps (s : State) (n : Nat) (r : HoldRec) :
    (s.lapse n r).phase = s.phase ∧ (s.lapse n r).now = s.now ∧ (s.lapse n r).minute = s.minute ∧
      (s.lapse n r).nextFlap = s.nextFlap ∧ (s.lapse n r).nextMinute = s.nextMinute ∧
      (s.lapse n r).hourDue = s.hourDue ∧ (s.lapse n r).audits = s.audits ∧ (s.lapse n r).params = s.params ∧
      (s.lapse n r).buses = s.buses ∧ (s.lapse n r).steps = s.steps ∧ (s.lapse n r).plans = s.plans ∧
      (s.lapse n r).chans = s.chans ∧ (s.lapse n r).cal = s.cal ∧ (s.lapse n r).limits = s.limits ∧
      (s.lapse n r).sweep = s.sweep ∧ (s.lapse n r).tickets = s.tickets ∧ (s.lapse n r).choice = s.choice ∧
      (s.lapse n r).pending = s.pending ∧ (s.lapse n r).link.down = s.link.down ∧ (s.lapse n r).link.up = s.link.up ∧
      (s.lapse n r).link.sOwn = s.link.sOwn ∧ (s.lapse n r).link.offers = s.link.offers ∧
      (s.lapse n r).link.serial = s.link.serial ∧ (s.lapse n r).link.portS = s.link.portS ∧
      (s.lapse n r).desk.commands = s.desk.commands ∧ (s.lapse n r).desk.reservations = s.desk.reservations := by
  simp [State.lapse]

@[simp] theorem State.offerEnters_keeps (s : State) (f : OwnFrame) (r : List OwnFrame) :
    (s.offerEnters f r).phase = s.phase ∧ (s.offerEnters f r).now = s.now ∧ (s.offerEnters f r).minute = s.minute ∧
      (s.offerEnters f r).nextFlap = s.nextFlap ∧ (s.offerEnters f r).nextMinute = s.nextMinute ∧
      (s.offerEnters f r).hourDue = s.hourDue ∧ (s.offerEnters f r).audits = s.audits ∧
      (s.offerEnters f r).desk = s.desk ∧ (s.offerEnters f r).params = s.params ∧ (s.offerEnters f r).buses = s.buses ∧
      (s.offerEnters f r).steps = s.steps ∧ (s.offerEnters f r).plans = s.plans ∧ (s.offerEnters f r).chans = s.chans ∧
      (s.offerEnters f r).cal = s.cal ∧ (s.offerEnters f r).limits = s.limits ∧ (s.offerEnters f r).sweep = s.sweep ∧
      (s.offerEnters f r).tickets = s.tickets ∧ (s.offerEnters f r).choice = s.choice ∧
      (s.offerEnters f r).pending = s.pending ∧ (s.offerEnters f r).link.down = s.link.down ∧
      (s.offerEnters f r).link.up = s.link.up ∧ (s.offerEnters f r).link.portU = s.link.portU := by
  dsimp only [State.offerEnters]
  (repeat' split) <;> simp

end Sys2Proof.Machine
end

