-- ==== Sys2Proof/Laws/Tickets.lean ====
section
/-! SUPPORT. What the operations of the Ticket Table leave. -/

namespace Sys2Proof.Machine

@[simp] theorem State.ticketNotice_keeps (s : State) (e : TicketEvent) (t : Ticket) :
    (s.ticketNotice e t).phase = s.phase ∧ (s.ticketNotice e t).now = s.now ∧ (s.ticketNotice e t).minute = s.minute ∧
      (s.ticketNotice e t).nextFlap = s.nextFlap ∧ (s.ticketNotice e t).nextMinute = s.nextMinute ∧
      (s.ticketNotice e t).hourDue = s.hourDue ∧ (s.ticketNotice e t).lines = s.lines ∧
      (s.ticketNotice e t).audits = s.audits ∧ (s.ticketNotice e t).params = s.params ∧
      (s.ticketNotice e t).hold = s.hold ∧ (s.ticketNotice e t).flushes = s.flushes ∧
      (s.ticketNotice e t).buses = s.buses ∧ (s.ticketNotice e t).steps = s.steps ∧
      (s.ticketNotice e t).plans = s.plans ∧ (s.ticketNotice e t).chans = s.chans ∧ (s.ticketNotice e t).cal = s.cal ∧
      (s.ticketNotice e t).limits = s.limits ∧ (s.ticketNotice e t).sweep = s.sweep ∧
      (s.ticketNotice e t).tickets = s.tickets ∧ (s.ticketNotice e t).choice = s.choice ∧
      (s.ticketNotice e t).pending = s.pending ∧ (s.ticketNotice e t).link.down = s.link.down ∧
      (s.ticketNotice e t).link.up = s.link.up ∧ (s.ticketNotice e t).link.sOwn = s.link.sOwn ∧
      (s.ticketNotice e t).link.offers = s.link.offers ∧ (s.ticketNotice e t).link.serial = s.link.serial ∧
      (s.ticketNotice e t).link.portS = s.link.portS ∧ (s.ticketNotice e t).desk.commands = s.desk.commands ∧
      (s.ticketNotice e t).desk.reservations = s.desk.reservations := by
  simp [State.ticketNotice]

@[simp] theorem State.putTicket_keeps (s : State) (n : Nat) (t : Ticket) :
    (s.putTicket n t).phase = s.phase ∧ (s.putTicket n t).now = s.now ∧ (s.putTicket n t).minute = s.minute ∧
      (s.putTicket n t).nextFlap = s.nextFlap ∧ (s.putTicket n t).nextMinute = s.nextMinute ∧
      (s.putTicket n t).hourDue = s.hourDue ∧ (s.putTicket n t).lines = s.lines ∧ (s.putTicket n t).audits = s.audits ∧
      (s.putTicket n t).link = s.link ∧ (s.putTicket n t).desk = s.desk ∧ (s.putTicket n t).params = s.params ∧
      (s.putTicket n t).hold = s.hold ∧ (s.putTicket n t).flushes = s.flushes ∧ (s.putTicket n t).buses = s.buses ∧
      (s.putTicket n t).steps = s.steps ∧ (s.putTicket n t).plans = s.plans ∧ (s.putTicket n t).chans = s.chans ∧
      (s.putTicket n t).cal = s.cal ∧ (s.putTicket n t).limits = s.limits ∧ (s.putTicket n t).sweep = s.sweep ∧
      (s.putTicket n t).choice = s.choice ∧ (s.putTicket n t).pending = s.pending := by
  simp [State.putTicket]

@[simp] theorem State.countUp_keeps (s : State) (k : SubjectKind) (n : Nat) :
    (s.countUp k n).phase = s.phase ∧ (s.countUp k n).now = s.now ∧ (s.countUp k n).minute = s.minute ∧
      (s.countUp k n).nextFlap = s.nextFlap ∧ (s.countUp k n).nextMinute = s.nextMinute ∧
      (s.countUp k n).hourDue = s.hourDue ∧ (s.countUp k n).audits = s.audits ∧ (s.countUp k n).link = s.link ∧
      (s.countUp k n).desk = s.desk ∧ (s.countUp k n).params = s.params ∧ (s.countUp k n).hold = s.hold ∧
      (s.countUp k n).flushes = s.flushes ∧ (s.countUp k n).buses = s.buses ∧ (s.countUp k n).steps = s.steps ∧
      (s.countUp k n).plans = s.plans ∧ (s.countUp k n).chans = s.chans ∧ (s.countUp k n).cal = s.cal ∧
      (s.countUp k n).limits = s.limits ∧ (s.countUp k n).sweep = s.sweep ∧ (s.countUp k n).tickets = s.tickets ∧
      (s.countUp k n).choice = s.choice ∧ (s.countUp k n).pending = s.pending := by
  dsimp only [State.countUp]
  (repeat' split) <;> simp

@[simp] theorem State.countDown_keeps (s : State) (k : SubjectKind) (n : Nat) :
    (s.countDown k n).phase = s.phase ∧ (s.countDown k n).now = s.now ∧ (s.countDown k n).minute = s.minute ∧
      (s.countDown k n).nextFlap = s.nextFlap ∧ (s.countDown k n).nextMinute = s.nextMinute ∧
      (s.countDown k n).hourDue = s.hourDue ∧ (s.countDown k n).audits = s.audits ∧ (s.countDown k n).link = s.link ∧
      (s.countDown k n).desk = s.desk ∧ (s.countDown k n).params = s.params ∧ (s.countDown k n).hold = s.hold ∧
      (s.countDown k n).flushes = s.flushes ∧ (s.countDown k n).buses = s.buses ∧ (s.countDown k n).steps = s.steps ∧
      (s.countDown k n).plans = s.plans ∧ (s.countDown k n).chans = s.chans ∧ (s.countDown k n).cal = s.cal ∧
      (s.countDown k n).limits = s.limits ∧ (s.countDown k n).sweep = s.sweep ∧ (s.countDown k n).tickets = s.tickets ∧
      (s.countDown k n).choice = s.choice ∧ (s.countDown k n).pending = s.pending := by
  dsimp only [State.countDown]
  (repeat' split) <;> simp

@[simp] theorem State.removeTicket_keeps (s : State) (t : Ticket) :
    (s.removeTicket t).phase = s.phase ∧ (s.removeTicket t).now = s.now ∧ (s.removeTicket t).minute = s.minute ∧
      (s.removeTicket t).nextFlap = s.nextFlap ∧ (s.removeTicket t).nextMinute = s.nextMinute ∧
      (s.removeTicket t).hourDue = s.hourDue ∧ (s.removeTicket t).audits = s.audits ∧ (s.removeTicket t).link = s.link ∧
      (s.removeTicket t).desk = s.desk ∧ (s.removeTicket t).params = s.params ∧ (s.removeTicket t).hold = s.hold ∧
      (s.removeTicket t).flushes = s.flushes ∧ (s.removeTicket t).buses = s.buses ∧ (s.removeTicket t).steps = s.steps ∧
      (s.removeTicket t).plans = s.plans ∧ (s.removeTicket t).chans = s.chans ∧ (s.removeTicket t).cal = s.cal ∧
      (s.removeTicket t).limits = s.limits ∧ (s.removeTicket t).sweep = s.sweep ∧ (s.removeTicket t).choice = s.choice ∧
      (s.removeTicket t).pending = s.pending := by
  simp [State.removeTicket]

@[simp] theorem State.updateTicket_keeps (s : State) (t : Ticket) (e : Option Evidence) :
    (s.updateTicket t e).phase = s.phase ∧ (s.updateTicket t e).now = s.now ∧ (s.updateTicket t e).minute = s.minute ∧
      (s.updateTicket t e).nextFlap = s.nextFlap ∧ (s.updateTicket t e).nextMinute = s.nextMinute ∧
      (s.updateTicket t e).hourDue = s.hourDue ∧ (s.updateTicket t e).lines = s.lines ∧
      (s.updateTicket t e).audits = s.audits ∧ (s.updateTicket t e).params = s.params ∧
      (s.updateTicket t e).hold = s.hold ∧ (s.updateTicket t e).flushes = s.flushes ∧
      (s.updateTicket t e).buses = s.buses ∧ (s.updateTicket t e).steps = s.steps ∧
      (s.updateTicket t e).plans = s.plans ∧ (s.updateTicket t e).chans = s.chans ∧ (s.updateTicket t e).cal = s.cal ∧
      (s.updateTicket t e).limits = s.limits ∧ (s.updateTicket t e).sweep = s.sweep ∧
      (s.updateTicket t e).choice = s.choice ∧ (s.updateTicket t e).pending = s.pending ∧
      (s.updateTicket t e).link.down = s.link.down ∧ (s.updateTicket t e).link.up = s.link.up ∧
      (s.updateTicket t e).link.sOwn = s.link.sOwn ∧ (s.updateTicket t e).link.offers = s.link.offers ∧
      (s.updateTicket t e).link.serial = s.link.serial ∧ (s.updateTicket t e).link.portS = s.link.portS ∧
      (s.updateTicket t e).desk.commands = s.desk.commands ∧
      (s.updateTicket t e).desk.reservations = s.desk.reservations := by
  simp [State.updateTicket]

@[simp] theorem State.createTicket_keeps (s : State) (k : SubjectKind) (n : Nat) (c : FaultClass) (e : Option Evidence) :
    (s.createTicket k n c e).phase = s.phase ∧ (s.createTicket k n c e).now = s.now ∧
      (s.createTicket k n c e).minute = s.minute ∧ (s.createTicket k n c e).nextFlap = s.nextFlap ∧
      (s.createTicket k n c e).nextMinute = s.nextMinute ∧ (s.createTicket k n c e).hourDue = s.hourDue ∧
      (s.createTicket k n c e).audits = s.audits ∧ (s.createTicket k n c e).params = s.params ∧
      (s.createTicket k n c e).hold = s.hold ∧ (s.createTicket k n c e).flushes = s.flushes ∧
      (s.createTicket k n c e).buses = s.buses ∧ (s.createTicket k n c e).steps = s.steps ∧
      (s.createTicket k n c e).plans = s.plans ∧ (s.createTicket k n c e).chans = s.chans ∧
      (s.createTicket k n c e).cal = s.cal ∧ (s.createTicket k n c e).limits = s.limits ∧
      (s.createTicket k n c e).sweep = s.sweep ∧ (s.createTicket k n c e).choice = s.choice ∧
      (s.createTicket k n c e).pending = s.pending ∧ (s.createTicket k n c e).link.down = s.link.down ∧
      (s.createTicket k n c e).link.up = s.link.up ∧ (s.createTicket k n c e).link.sOwn = s.link.sOwn ∧
      (s.createTicket k n c e).link.offers = s.link.offers ∧ (s.createTicket k n c e).link.serial = s.link.serial ∧
      (s.createTicket k n c e).link.portS = s.link.portS ∧ (s.createTicket k n c e).desk.commands = s.desk.commands ∧
      (s.createTicket k n c e).desk.reservations = s.desk.reservations := by
  simp [State.createTicket]

@[simp] theorem State.loseRaise_keeps (s : State) (k : SubjectKind) (n : Nat) (c : FaultClass) :
    (s.loseRaise k n c).phase = s.phase ∧ (s.loseRaise k n c).now = s.now ∧ (s.loseRaise k n c).minute = s.minute ∧
      (s.loseRaise k n c).nextFlap = s.nextFlap ∧ (s.loseRaise k n c).nextMinute = s.nextMinute ∧
      (s.loseRaise k n c).hourDue = s.hourDue ∧ (s.loseRaise k n c).lines = s.lines ∧
      (s.loseRaise k n c).audits = s.audits ∧ (s.loseRaise k n c).params = s.params ∧
      (s.loseRaise k n c).hold = s.hold ∧ (s.loseRaise k n c).flushes = s.flushes ∧
      (s.loseRaise k n c).buses = s.buses ∧ (s.loseRaise k n c).steps = s.steps ∧ (s.loseRaise k n c).plans = s.plans ∧
      (s.loseRaise k n c).chans = s.chans ∧ (s.loseRaise k n c).cal = s.cal ∧ (s.loseRaise k n c).limits = s.limits ∧
      (s.loseRaise k n c).sweep = s.sweep ∧ (s.loseRaise k n c).choice = s.choice ∧
      (s.loseRaise k n c).pending = s.pending ∧ (s.loseRaise k n c).link.down = s.link.down ∧
      (s.loseRaise k n c).link.up = s.link.up ∧ (s.loseRaise k n c).link.sOwn = s.link.sOwn ∧
      (s.loseRaise k n c).link.offers = s.link.offers ∧ (s.loseRaise k n c).link.serial = s.link.serial ∧
      (s.loseRaise k n c).link.portS = s.link.portS ∧ (s.loseRaise k n c).desk.commands = s.desk.commands ∧
      (s.loseRaise k n c).desk.reservations = s.desk.reservations := by
  dsimp only [State.loseRaise]
  (repeat' split) <;> simp

@[simp] theorem State.raise_keeps (s : State) (k : SubjectKind) (n : Nat) (c : FaultClass) (e : Option Evidence) :
    (s.raise k n c e).phase = s.phase ∧ (s.raise k n c e).now = s.now ∧ (s.raise k n c e).minute = s.minute ∧
      (s.raise k n c e).nextFlap = s.nextFlap ∧ (s.raise k n c e).nextMinute = s.nextMinute ∧
      (s.raise k n c e).hourDue = s.hourDue ∧ (s.raise k n c e).audits = s.audits ∧
      (s.raise k n c e).params = s.params ∧ (s.raise k n c e).hold = s.hold ∧ (s.raise k n c e).flushes = s.flushes ∧
      (s.raise k n c e).buses = s.buses ∧ (s.raise k n c e).steps = s.steps ∧ (s.raise k n c e).plans = s.plans ∧
      (s.raise k n c e).chans = s.chans ∧ (s.raise k n c e).cal = s.cal ∧ (s.raise k n c e).limits = s.limits ∧
      (s.raise k n c e).sweep = s.sweep ∧ (s.raise k n c e).choice = s.choice ∧ (s.raise k n c e).pending = s.pending ∧
      (s.raise k n c e).link.down = s.link.down ∧ (s.raise k n c e).link.up = s.link.up ∧
      (s.raise k n c e).link.sOwn = s.link.sOwn ∧ (s.raise k n c e).link.offers = s.link.offers ∧
      (s.raise k n c e).link.serial = s.link.serial ∧ (s.raise k n c e).link.portS = s.link.portS ∧
      (s.raise k n c e).desk.commands = s.desk.commands ∧ (s.raise k n c e).desk.reservations = s.desk.reservations := by
  dsimp only [State.raise]
  (repeat' split) <;> simp

@[simp] theorem State.clearTicket_keeps (s : State) (k : SubjectKind) (n : Nat) (c : FaultClass) :
    (s.clearTicket k n c).phase = s.phase ∧ (s.clearTicket k n c).now = s.now ∧
      (s.clearTicket k n c).minute = s.minute ∧ (s.clearTicket k n c).nextFlap = s.nextFlap ∧
      (s.clearTicket k n c).nextMinute = s.nextMinute ∧ (s.clearTicket k n c).hourDue = s.hourDue ∧
      (s.clearTicket k n c).lines = s.lines ∧ (s.clearTicket k n c).audits = s.audits ∧
      (s.clearTicket k n c).params = s.params ∧ (s.clearTicket k n c).hold = s.hold ∧
      (s.clearTicket k n c).flushes = s.flushes ∧ (s.clearTicket k n c).buses = s.buses ∧
      (s.clearTicket k n c).steps = s.steps ∧ (s.clearTicket k n c).plans = s.plans ∧
      (s.clearTicket k n c).chans = s.chans ∧ (s.clearTicket k n c).cal = s.cal ∧
      (s.clearTicket k n c).limits = s.limits ∧ (s.clearTicket k n c).sweep = s.sweep ∧
      (s.clearTicket k n c).choice = s.choice ∧ (s.clearTicket k n c).pending = s.pending ∧
      (s.clearTicket k n c).link.down = s.link.down ∧ (s.clearTicket k n c).link.up = s.link.up ∧
      (s.clearTicket k n c).link.sOwn = s.link.sOwn ∧ (s.clearTicket k n c).link.offers = s.link.offers ∧
      (s.clearTicket k n c).link.serial = s.link.serial ∧ (s.clearTicket k n c).link.portS = s.link.portS ∧
      (s.clearTicket k n c).desk.commands = s.desk.commands ∧
      (s.clearTicket k n c).desk.reservations = s.desk.reservations := by
  dsimp only [State.clearTicket]
  (repeat' split) <;> simp

end Sys2Proof.Machine
end

