-- ==== Sys2Proof/Laws/Access.lean ====
section
/-! SUPPORT. What the operations of test access leave. -/

namespace Sys2Proof.Machine

@[simp] theorem State.beginTapping_keeps (s : State) (h l b : Nat) :
    (s.beginTapping h l b).phase = s.phase ∧ (s.beginTapping h l b).now = s.now ∧
      (s.beginTapping h l b).minute = s.minute ∧ (s.beginTapping h l b).nextFlap = s.nextFlap ∧
      (s.beginTapping h l b).nextMinute = s.nextMinute ∧ (s.beginTapping h l b).hourDue = s.hourDue ∧
      (s.beginTapping h l b).audits = s.audits ∧ (s.beginTapping h l b).desk = s.desk ∧
      (s.beginTapping h l b).params = s.params ∧ (s.beginTapping h l b).hold = s.hold ∧
      (s.beginTapping h l b).flushes = s.flushes ∧ (s.beginTapping h l b).steps = s.steps ∧
      (s.beginTapping h l b).plans = s.plans ∧ (s.beginTapping h l b).cal = s.cal ∧
      (s.beginTapping h l b).limits = s.limits ∧ (s.beginTapping h l b).sweep = s.sweep ∧
      (s.beginTapping h l b).tickets = s.tickets ∧ (s.beginTapping h l b).choice = s.choice ∧
      (s.beginTapping h l b).pending = s.pending ∧ (s.beginTapping h l b).link.down = s.link.down ∧
      (s.beginTapping h l b).link.up = s.link.up ∧ (s.beginTapping h l b).link.portU = s.link.portU := by
  simp [State.beginTapping]

@[simp] theorem State.claimAndTap_keeps (s : State) (h l b : Nat) :
    (s.claimAndTap h l b).phase = s.phase ∧ (s.claimAndTap h l b).now = s.now ∧
      (s.claimAndTap h l b).minute = s.minute ∧ (s.claimAndTap h l b).nextFlap = s.nextFlap ∧
      (s.claimAndTap h l b).nextMinute = s.nextMinute ∧ (s.claimAndTap h l b).hourDue = s.hourDue ∧
      (s.claimAndTap h l b).audits = s.audits ∧ (s.claimAndTap h l b).desk = s.desk ∧
      (s.claimAndTap h l b).params = s.params ∧ (s.claimAndTap h l b).hold = s.hold ∧
      (s.claimAndTap h l b).flushes = s.flushes ∧ (s.claimAndTap h l b).steps = s.steps ∧
      (s.claimAndTap h l b).plans = s.plans ∧ (s.claimAndTap h l b).cal = s.cal ∧
      (s.claimAndTap h l b).limits = s.limits ∧ (s.claimAndTap h l b).sweep = s.sweep ∧
      (s.claimAndTap h l b).tickets = s.tickets ∧ (s.claimAndTap h l b).choice = s.choice ∧
      (s.claimAndTap h l b).pending = s.pending ∧ (s.claimAndTap h l b).link.down = s.link.down ∧
      (s.claimAndTap h l b).link.up = s.link.up ∧ (s.claimAndTap h l b).link.portU = s.link.portU := by
  simp [State.claimAndTap]

@[simp] theorem State.startTest_keeps (s : State) (h b : Nat) (t : TestRec) (o : Origin) :
    (s.startTest h b t o).phase = s.phase ∧ (s.startTest h b t o).now = s.now ∧
      (s.startTest h b t o).minute = s.minute ∧ (s.startTest h b t o).nextFlap = s.nextFlap ∧
      (s.startTest h b t o).nextMinute = s.nextMinute ∧ (s.startTest h b t o).hourDue = s.hourDue ∧
      (s.startTest h b t o).audits = s.audits ∧ (s.startTest h b t o).desk = s.desk ∧
      (s.startTest h b t o).params = s.params ∧ (s.startTest h b t o).hold = s.hold ∧
      (s.startTest h b t o).flushes = s.flushes ∧ (s.startTest h b t o).steps = s.steps ∧
      (s.startTest h b t o).plans = s.plans ∧ (s.startTest h b t o).cal = s.cal ∧
      (s.startTest h b t o).limits = s.limits ∧ (s.startTest h b t o).sweep = s.sweep ∧
      (s.startTest h b t o).tickets = s.tickets ∧ (s.startTest h b t o).choice = s.choice ∧
      (s.startTest h b t o).pending = s.pending ∧ (s.startTest h b t o).link.down = s.link.down ∧
      (s.startTest h b t o).link.up = s.link.up ∧ (s.startTest h b t o).link.portU = s.link.portU := by
  simp [State.startTest]

@[simp] theorem State.release_keeps (s : State) (h l b : Nat) :
    (s.release h l b).phase = s.phase ∧ (s.release h l b).now = s.now ∧ (s.release h l b).minute = s.minute ∧
      (s.release h l b).nextFlap = s.nextFlap ∧ (s.release h l b).nextMinute = s.nextMinute ∧
      (s.release h l b).hourDue = s.hourDue ∧ (s.release h l b).audits = s.audits ∧ (s.release h l b).desk = s.desk ∧
      (s.release h l b).params = s.params ∧ (s.release h l b).hold = s.hold ∧ (s.release h l b).flushes = s.flushes ∧
      (s.release h l b).steps = s.steps ∧ (s.release h l b).plans = s.plans ∧ (s.release h l b).cal = s.cal ∧
      (s.release h l b).limits = s.limits ∧ (s.release h l b).sweep = s.sweep ∧ (s.release h l b).tickets = s.tickets ∧
      (s.release h l b).choice = s.choice ∧ (s.release h l b).pending = s.pending ∧
      (s.release h l b).link.down = s.link.down ∧ (s.release h l b).link.up = s.link.up ∧
      (s.release h l b).link.portU = s.link.portU := by
  simp [State.release]

@[simp] theorem State.endByCause_keeps (s : State) (h : Nat) (o : TestOutcome) :
    (s.endByCause h o).phase = s.phase ∧ (s.endByCause h o).now = s.now ∧ (s.endByCause h o).minute = s.minute ∧
      (s.endByCause h o).nextFlap = s.nextFlap ∧ (s.endByCause h o).nextMinute = s.nextMinute ∧
      (s.endByCause h o).hourDue = s.hourDue ∧ (s.endByCause h o).audits = s.audits ∧ (s.endByCause h o).desk = s.desk ∧
      (s.endByCause h o).params = s.params ∧ (s.endByCause h o).hold = s.hold ∧ (s.endByCause h o).flushes = s.flushes ∧
      (s.endByCause h o).steps = s.steps ∧ (s.endByCause h o).plans = s.plans ∧ (s.endByCause h o).cal = s.cal ∧
      (s.endByCause h o).limits = s.limits ∧ (s.endByCause h o).sweep = s.sweep ∧
      (s.endByCause h o).tickets = s.tickets ∧ (s.endByCause h o).choice = s.choice ∧
      (s.endByCause h o).pending = s.pending ∧ (s.endByCause h o).link.down = s.link.down ∧
      (s.endByCause h o).link.up = s.link.up ∧ (s.endByCause h o).link.portU = s.link.portU := by
  dsimp only [State.endByCause]
  (repeat' split) <;> simp

@[simp] theorem State.yieldTrigger_keeps (s : State) (l : Nat) :
    (s.yieldTrigger l).phase = s.phase ∧ (s.yieldTrigger l).now = s.now ∧ (s.yieldTrigger l).minute = s.minute ∧
      (s.yieldTrigger l).nextFlap = s.nextFlap ∧ (s.yieldTrigger l).nextMinute = s.nextMinute ∧
      (s.yieldTrigger l).hourDue = s.hourDue ∧ (s.yieldTrigger l).audits = s.audits ∧ (s.yieldTrigger l).desk = s.desk ∧
      (s.yieldTrigger l).params = s.params ∧ (s.yieldTrigger l).hold = s.hold ∧ (s.yieldTrigger l).flushes = s.flushes ∧
      (s.yieldTrigger l).steps = s.steps ∧ (s.yieldTrigger l).plans = s.plans ∧ (s.yieldTrigger l).cal = s.cal ∧
      (s.yieldTrigger l).limits = s.limits ∧ (s.yieldTrigger l).sweep = s.sweep ∧
      (s.yieldTrigger l).tickets = s.tickets ∧ (s.yieldTrigger l).choice = s.choice ∧
      (s.yieldTrigger l).pending = s.pending ∧ (s.yieldTrigger l).link.down = s.link.down ∧
      (s.yieldTrigger l).link.up = s.link.up ∧ (s.yieldTrigger l).link.portU = s.link.portU := by
  dsimp only [State.yieldTrigger]
  (repeat' split) <;> simp

@[simp] theorem State.screen_keeps (s : State) (f : Bytes) (o : Order) :
    (s.screen f o).phase = s.phase ∧ (s.screen f o).now = s.now ∧ (s.screen f o).minute = s.minute ∧
      (s.screen f o).nextFlap = s.nextFlap ∧ (s.screen f o).nextMinute = s.nextMinute ∧
      (s.screen f o).hourDue = s.hourDue ∧ (s.screen f o).audits = s.audits ∧ (s.screen f o).params = s.params ∧
      (s.screen f o).flushes = s.flushes ∧ (s.screen f o).steps = s.steps ∧ (s.screen f o).plans = s.plans ∧
      (s.screen f o).cal = s.cal ∧ (s.screen f o).limits = s.limits ∧ (s.screen f o).sweep = s.sweep ∧
      (s.screen f o).tickets = s.tickets ∧ (s.screen f o).choice = s.choice ∧ (s.screen f o).pending = s.pending ∧
      (s.screen f o).link.up = s.link.up ∧ (s.screen f o).desk.commands = s.desk.commands ∧
      (s.screen f o).desk.reservations = s.desk.reservations := by
  dsimp only [State.screen]
  (repeat' split) <;> simp

end Sys2Proof.Machine
end

