-- ==== Sys2Proof/Laws/SweepEnds.lean ====
section
/-! SUPPORT. What the booking of routine ends leaves. -/

namespace Sys2Proof.Machine

@[simp] theorem State.count_keeps (s : State) (g : Counts → Counts) :
    (s.count g).phase = s.phase ∧ (s.count g).now = s.now ∧ (s.count g).minute = s.minute ∧
      (s.count g).nextFlap = s.nextFlap ∧ (s.count g).nextMinute = s.nextMinute ∧ (s.count g).hourDue = s.hourDue ∧
      (s.count g).lines = s.lines ∧ (s.count g).audits = s.audits ∧ (s.count g).link = s.link ∧
      (s.count g).desk = s.desk ∧ (s.count g).params = s.params ∧ (s.count g).hold = s.hold ∧
      (s.count g).flushes = s.flushes ∧ (s.count g).buses = s.buses ∧ (s.count g).steps = s.steps ∧
      (s.count g).plans = s.plans ∧ (s.count g).chans = s.chans ∧ (s.count g).cal = s.cal ∧
      (s.count g).limits = s.limits ∧ (s.count g).tickets = s.tickets ∧ (s.count g).choice = s.choice ∧
      (s.count g).pending = s.pending := by
  dsimp only [State.count]
  (repeat' split) <;> simp

@[simp] theorem State.writeRoutine_keeps (s : State) (l p : Nat) (o : RoutineOutcome) :
    (s.writeRoutine l p o).phase = s.phase ∧ (s.writeRoutine l p o).now = s.now ∧
      (s.writeRoutine l p o).minute = s.minute ∧ (s.writeRoutine l p o).nextFlap = s.nextFlap ∧
      (s.writeRoutine l p o).nextMinute = s.nextMinute ∧ (s.writeRoutine l p o).hourDue = s.hourDue ∧
      (s.writeRoutine l p o).audits = s.audits ∧ (s.writeRoutine l p o).link = s.link ∧
      (s.writeRoutine l p o).desk = s.desk ∧ (s.writeRoutine l p o).params = s.params ∧
      (s.writeRoutine l p o).hold = s.hold ∧ (s.writeRoutine l p o).flushes = s.flushes ∧
      (s.writeRoutine l p o).buses = s.buses ∧ (s.writeRoutine l p o).steps = s.steps ∧
      (s.writeRoutine l p o).plans = s.plans ∧ (s.writeRoutine l p o).chans = s.chans ∧
      (s.writeRoutine l p o).cal = s.cal ∧ (s.writeRoutine l p o).limits = s.limits ∧
      (s.writeRoutine l p o).sweep = s.sweep ∧ (s.writeRoutine l p o).tickets = s.tickets ∧
      (s.writeRoutine l p o).choice = s.choice ∧ (s.writeRoutine l p o).pending = s.pending := by
  simp [State.writeRoutine]

@[simp] theorem State.missLine_keeps (s : State) (l : Nat) :
    (s.missLine l).phase = s.phase ∧ (s.missLine l).now = s.now ∧ (s.missLine l).minute = s.minute ∧
      (s.missLine l).nextFlap = s.nextFlap ∧ (s.missLine l).nextMinute = s.nextMinute ∧
      (s.missLine l).hourDue = s.hourDue ∧ (s.missLine l).audits = s.audits ∧ (s.missLine l).link = s.link ∧
      (s.missLine l).desk = s.desk ∧ (s.missLine l).params = s.params ∧ (s.missLine l).hold = s.hold ∧
      (s.missLine l).flushes = s.flushes ∧ (s.missLine l).buses = s.buses ∧ (s.missLine l).steps = s.steps ∧
      (s.missLine l).plans = s.plans ∧ (s.missLine l).chans = s.chans ∧ (s.missLine l).cal = s.cal ∧
      (s.missLine l).limits = s.limits ∧ (s.missLine l).tickets = s.tickets ∧ (s.missLine l).choice = s.choice ∧
      (s.missLine l).pending = s.pending := by
  simp [State.missLine]

@[simp] theorem State.offerSuspect_keeps (s : State) (l p : Nat) (r : Reason) :
    (s.offerSuspect l p r).phase = s.phase ∧ (s.offerSuspect l p r).now = s.now ∧
      (s.offerSuspect l p r).minute = s.minute ∧ (s.offerSuspect l p r).nextFlap = s.nextFlap ∧
      (s.offerSuspect l p r).nextMinute = s.nextMinute ∧ (s.offerSuspect l p r).hourDue = s.hourDue ∧
      (s.offerSuspect l p r).lines = s.lines ∧ (s.offerSuspect l p r).audits = s.audits ∧
      (s.offerSuspect l p r).link = s.link ∧ (s.offerSuspect l p r).desk = s.desk ∧
      (s.offerSuspect l p r).params = s.params ∧ (s.offerSuspect l p r).hold = s.hold ∧
      (s.offerSuspect l p r).flushes = s.flushes ∧ (s.offerSuspect l p r).buses = s.buses ∧
      (s.offerSuspect l p r).steps = s.steps ∧ (s.offerSuspect l p r).plans = s.plans ∧
      (s.offerSuspect l p r).chans = s.chans ∧ (s.offerSuspect l p r).cal = s.cal ∧
      (s.offerSuspect l p r).limits = s.limits ∧ (s.offerSuspect l p r).tickets = s.tickets ∧
      (s.offerSuspect l p r).choice = s.choice ∧ (s.offerSuspect l p r).pending = s.pending := by
  dsimp only [State.offerSuspect]
  (repeat' split) <;> simp

@[simp] theorem State.deferLine_keeps (s : State) (l p : Nat) :
    (s.deferLine l p).phase = s.phase ∧ (s.deferLine l p).now = s.now ∧ (s.deferLine l p).minute = s.minute ∧
      (s.deferLine l p).nextFlap = s.nextFlap ∧ (s.deferLine l p).nextMinute = s.nextMinute ∧
      (s.deferLine l p).hourDue = s.hourDue ∧ (s.deferLine l p).lines = s.lines ∧ (s.deferLine l p).audits = s.audits ∧
      (s.deferLine l p).link = s.link ∧ (s.deferLine l p).desk = s.desk ∧ (s.deferLine l p).params = s.params ∧
      (s.deferLine l p).hold = s.hold ∧ (s.deferLine l p).flushes = s.flushes ∧ (s.deferLine l p).buses = s.buses ∧
      (s.deferLine l p).steps = s.steps ∧ (s.deferLine l p).plans = s.plans ∧ (s.deferLine l p).chans = s.chans ∧
      (s.deferLine l p).cal = s.cal ∧ (s.deferLine l p).limits = s.limits ∧ (s.deferLine l p).tickets = s.tickets ∧
      (s.deferLine l p).choice = s.choice ∧ (s.deferLine l p).pending = s.pending := by
  simp [State.deferLine]

@[simp] theorem State.countYield_keeps (s : State) (e : RoutineEnd) :
    (s.countYield e).phase = s.phase ∧ (s.countYield e).now = s.now ∧ (s.countYield e).minute = s.minute ∧
      (s.countYield e).nextFlap = s.nextFlap ∧ (s.countYield e).nextMinute = s.nextMinute ∧
      (s.countYield e).hourDue = s.hourDue ∧ (s.countYield e).lines = s.lines ∧ (s.countYield e).audits = s.audits ∧
      (s.countYield e).link = s.link ∧ (s.countYield e).desk = s.desk ∧ (s.countYield e).params = s.params ∧
      (s.countYield e).hold = s.hold ∧ (s.countYield e).flushes = s.flushes ∧ (s.countYield e).buses = s.buses ∧
      (s.countYield e).steps = s.steps ∧ (s.countYield e).plans = s.plans ∧ (s.countYield e).chans = s.chans ∧
      (s.countYield e).cal = s.cal ∧ (s.countYield e).limits = s.limits ∧ (s.countYield e).tickets = s.tickets ∧
      (s.countYield e).choice = s.choice ∧ (s.countYield e).pending = s.pending := by
  dsimp only [State.countYield]
  (repeat' split) <;> simp

@[simp] theorem State.bookEnd_keeps (s : State) (e : RoutineEnd) :
    (s.bookEnd e).phase = s.phase ∧ (s.bookEnd e).now = s.now ∧ (s.bookEnd e).minute = s.minute ∧
      (s.bookEnd e).nextFlap = s.nextFlap ∧ (s.bookEnd e).nextMinute = s.nextMinute ∧
      (s.bookEnd e).hourDue = s.hourDue ∧ (s.bookEnd e).audits = s.audits ∧ (s.bookEnd e).link = s.link ∧
      (s.bookEnd e).desk = s.desk ∧ (s.bookEnd e).params = s.params ∧ (s.bookEnd e).hold = s.hold ∧
      (s.bookEnd e).flushes = s.flushes ∧ (s.bookEnd e).buses = s.buses ∧ (s.bookEnd e).steps = s.steps ∧
      (s.bookEnd e).plans = s.plans ∧ (s.bookEnd e).chans = s.chans ∧ (s.bookEnd e).cal = s.cal ∧
      (s.bookEnd e).limits = s.limits ∧ (s.bookEnd e).tickets = s.tickets ∧ (s.bookEnd e).choice = s.choice ∧
      (s.bookEnd e).pending = s.pending := by
  dsimp only [State.bookEnd]
  (repeat' split) <;> simp

@[simp] theorem State.originActions_keeps (s : State) (e : RoutineEnd) :
    (s.originActions e).phase = s.phase ∧ (s.originActions e).now = s.now ∧ (s.originActions e).minute = s.minute ∧
      (s.originActions e).nextFlap = s.nextFlap ∧ (s.originActions e).nextMinute = s.nextMinute ∧
      (s.originActions e).hourDue = s.hourDue ∧ (s.originActions e).audits = s.audits ∧
      (s.originActions e).params = s.params ∧ (s.originActions e).hold = s.hold ∧
      (s.originActions e).flushes = s.flushes ∧ (s.originActions e).buses = s.buses ∧
      (s.originActions e).steps = s.steps ∧ (s.originActions e).plans = s.plans ∧ (s.originActions e).chans = s.chans ∧
      (s.originActions e).cal = s.cal ∧ (s.originActions e).limits = s.limits ∧ (s.originActions e).choice = s.choice ∧
      (s.originActions e).pending = s.pending ∧ (s.originActions e).link.down = s.link.down ∧
      (s.originActions e).link.up = s.link.up ∧ (s.originActions e).link.sOwn = s.link.sOwn ∧
      (s.originActions e).link.offers = s.link.offers ∧ (s.originActions e).link.serial = s.link.serial ∧
      (s.originActions e).link.portS = s.link.portS ∧ (s.originActions e).desk.commands = s.desk.commands ∧
      (s.originActions e).desk.reservations = s.desk.reservations := by
  dsimp only [State.originActions]
  (repeat' split) <;> simp

@[simp] theorem State.routineEnded_keeps (s : State) (e : RoutineEnd) :
    (s.routineEnded e).phase = s.phase ∧ (s.routineEnded e).now = s.now ∧ (s.routineEnded e).minute = s.minute ∧
      (s.routineEnded e).nextFlap = s.nextFlap ∧ (s.routineEnded e).nextMinute = s.nextMinute ∧
      (s.routineEnded e).hourDue = s.hourDue ∧ (s.routineEnded e).audits = s.audits ∧
      (s.routineEnded e).params = s.params ∧ (s.routineEnded e).hold = s.hold ∧ (s.routineEnded e).flushes = s.flushes ∧
      (s.routineEnded e).buses = s.buses ∧ (s.routineEnded e).steps = s.steps ∧ (s.routineEnded e).plans = s.plans ∧
      (s.routineEnded e).chans = s.chans ∧ (s.routineEnded e).cal = s.cal ∧ (s.routineEnded e).limits = s.limits ∧
      (s.routineEnded e).choice = s.choice ∧ (s.routineEnded e).pending = s.pending ∧
      (s.routineEnded e).link.down = s.link.down ∧ (s.routineEnded e).link.up = s.link.up ∧
      (s.routineEnded e).link.sOwn = s.link.sOwn ∧ (s.routineEnded e).link.offers = s.link.offers ∧
      (s.routineEnded e).link.serial = s.link.serial ∧ (s.routineEnded e).link.portS = s.link.portS ∧
      (s.routineEnded e).desk.commands = s.desk.commands ∧ (s.routineEnded e).desk.reservations = s.desk.reservations := by
  simp [State.routineEnded]

@[simp] theorem State.discardContext_keeps (s : State) (c : Context) :
    (s.discardContext c).phase = s.phase ∧ (s.discardContext c).now = s.now ∧ (s.discardContext c).minute = s.minute ∧
      (s.discardContext c).nextFlap = s.nextFlap ∧ (s.discardContext c).nextMinute = s.nextMinute ∧
      (s.discardContext c).hourDue = s.hourDue ∧ (s.discardContext c).audits = s.audits ∧
      (s.discardContext c).link = s.link ∧ (s.discardContext c).desk = s.desk ∧ (s.discardContext c).params = s.params ∧
      (s.discardContext c).hold = s.hold ∧ (s.discardContext c).flushes = s.flushes ∧
      (s.discardContext c).buses = s.buses ∧ (s.discardContext c).steps = s.steps ∧
      (s.discardContext c).plans = s.plans ∧ (s.discardContext c).chans = s.chans ∧ (s.discardContext c).cal = s.cal ∧
      (s.discardContext c).limits = s.limits ∧ (s.discardContext c).tickets = s.tickets ∧
      (s.discardContext c).choice = s.choice ∧ (s.discardContext c).pending = s.pending := by
  dsimp only [State.discardContext]
  (repeat' split) <;> simp

@[simp] theorem State.pushContext_keeps (s : State) (c : Context) :
    (s.pushContext c).phase = s.phase ∧ (s.pushContext c).now = s.now ∧ (s.pushContext c).minute = s.minute ∧
      (s.pushContext c).nextFlap = s.nextFlap ∧ (s.pushContext c).nextMinute = s.nextMinute ∧
      (s.pushContext c).hourDue = s.hourDue ∧ (s.pushContext c).audits = s.audits ∧ (s.pushContext c).link = s.link ∧
      (s.pushContext c).desk = s.desk ∧ (s.pushContext c).params = s.params ∧ (s.pushContext c).hold = s.hold ∧
      (s.pushContext c).flushes = s.flushes ∧ (s.pushContext c).buses = s.buses ∧ (s.pushContext c).steps = s.steps ∧
      (s.pushContext c).plans = s.plans ∧ (s.pushContext c).chans = s.chans ∧ (s.pushContext c).cal = s.cal ∧
      (s.pushContext c).limits = s.limits ∧ (s.pushContext c).tickets = s.tickets ∧
      (s.pushContext c).choice = s.choice ∧ (s.pushContext c).pending = s.pending := by
  dsimp only [State.pushContext]
  (repeat' split) <;> simp

@[simp] theorem State.sweepNotice_keeps (s : State) (e : SweepEvent) (b : Bytes) :
    (s.sweepNotice e b).phase = s.phase ∧ (s.sweepNotice e b).now = s.now ∧ (s.sweepNotice e b).minute = s.minute ∧
      (s.sweepNotice e b).nextFlap = s.nextFlap ∧ (s.sweepNotice e b).nextMinute = s.nextMinute ∧
      (s.sweepNotice e b).hourDue = s.hourDue ∧ (s.sweepNotice e b).lines = s.lines ∧
      (s.sweepNotice e b).audits = s.audits ∧ (s.sweepNotice e b).params = s.params ∧
      (s.sweepNotice e b).hold = s.hold ∧ (s.sweepNotice e b).flushes = s.flushes ∧
      (s.sweepNotice e b).buses = s.buses ∧ (s.sweepNotice e b).steps = s.steps ∧ (s.sweepNotice e b).plans = s.plans ∧
      (s.sweepNotice e b).chans = s.chans ∧ (s.sweepNotice e b).cal = s.cal ∧ (s.sweepNotice e b).limits = s.limits ∧
      (s.sweepNotice e b).sweep = s.sweep ∧ (s.sweepNotice e b).tickets = s.tickets ∧
      (s.sweepNotice e b).choice = s.choice ∧ (s.sweepNotice e b).pending = s.pending ∧
      (s.sweepNotice e b).link.down = s.link.down ∧ (s.sweepNotice e b).link.up = s.link.up ∧
      (s.sweepNotice e b).link.sOwn = s.link.sOwn ∧ (s.sweepNotice e b).link.offers = s.link.offers ∧
      (s.sweepNotice e b).link.serial = s.link.serial ∧ (s.sweepNotice e b).link.portS = s.link.portS ∧
      (s.sweepNotice e b).desk.commands = s.desk.commands ∧ (s.sweepNotice e b).desk.reservations = s.desk.reservations := by
  simp [State.sweepNotice]

@[simp] theorem State.endDrain_keeps (s : State) :
    (s.endDrain).phase = s.phase ∧ (s.endDrain).now = s.now ∧ (s.endDrain).minute = s.minute ∧
      (s.endDrain).nextFlap = s.nextFlap ∧ (s.endDrain).nextMinute = s.nextMinute ∧ (s.endDrain).hourDue = s.hourDue ∧
      (s.endDrain).lines = s.lines ∧ (s.endDrain).audits = s.audits ∧ (s.endDrain).params = s.params ∧
      (s.endDrain).hold = s.hold ∧ (s.endDrain).flushes = s.flushes ∧ (s.endDrain).buses = s.buses ∧
      (s.endDrain).steps = s.steps ∧ (s.endDrain).plans = s.plans ∧ (s.endDrain).chans = s.chans ∧
      (s.endDrain).cal = s.cal ∧ (s.endDrain).limits = s.limits ∧ (s.endDrain).tickets = s.tickets ∧
      (s.endDrain).choice = s.choice ∧ (s.endDrain).pending = s.pending ∧ (s.endDrain).link.down = s.link.down ∧
      (s.endDrain).link.up = s.link.up ∧ (s.endDrain).link.sOwn = s.link.sOwn ∧
      (s.endDrain).link.offers = s.link.offers ∧ (s.endDrain).link.serial = s.link.serial ∧
      (s.endDrain).link.portS = s.link.portS ∧ (s.endDrain).desk.commands = s.desk.commands ∧
      (s.endDrain).desk.reservations = s.desk.reservations := by
  dsimp only [State.endDrain]
  (repeat' split) <;> simp

end Sys2Proof.Machine
end

