-- ==== Sys2Proof/Laws/LineTable.lean ====
section
/-! SUPPORT. What the Line Table's part in events leaves. -/

namespace Sys2Proof.Machine

@[simp] theorem State.requestAudit_keeps (s : State) (c : Nat) :
    (s.requestAudit c).phase = s.phase ∧ (s.requestAudit c).now = s.now ∧ (s.requestAudit c).minute = s.minute ∧
      (s.requestAudit c).nextFlap = s.nextFlap ∧ (s.requestAudit c).nextMinute = s.nextMinute ∧
      (s.requestAudit c).hourDue = s.hourDue ∧ (s.requestAudit c).lines = s.lines ∧ (s.requestAudit c).desk = s.desk ∧
      (s.requestAudit c).params = s.params ∧ (s.requestAudit c).hold = s.hold ∧ (s.requestAudit c).flushes = s.flushes ∧
      (s.requestAudit c).buses = s.buses ∧ (s.requestAudit c).steps = s.steps ∧ (s.requestAudit c).plans = s.plans ∧
      (s.requestAudit c).chans = s.chans ∧ (s.requestAudit c).cal = s.cal ∧ (s.requestAudit c).limits = s.limits ∧
      (s.requestAudit c).sweep = s.sweep ∧ (s.requestAudit c).tickets = s.tickets ∧
      (s.requestAudit c).choice = s.choice ∧ (s.requestAudit c).pending = s.pending ∧
      (s.requestAudit c).link.down = s.link.down ∧ (s.requestAudit c).link.up = s.link.up ∧
      (s.requestAudit c).link.portU = s.link.portU := by
  dsimp only [State.requestAudit]
  (repeat' split) <;> simp

@[simp] theorem State.requestAudits_keeps (s : State) (l : List Nat) :
    (s.requestAudits l).phase = s.phase ∧ (s.requestAudits l).now = s.now ∧ (s.requestAudits l).minute = s.minute ∧
      (s.requestAudits l).nextFlap = s.nextFlap ∧ (s.requestAudits l).nextMinute = s.nextMinute ∧
      (s.requestAudits l).hourDue = s.hourDue ∧ (s.requestAudits l).lines = s.lines ∧
      (s.requestAudits l).desk = s.desk ∧ (s.requestAudits l).params = s.params ∧ (s.requestAudits l).hold = s.hold ∧
      (s.requestAudits l).flushes = s.flushes ∧ (s.requestAudits l).buses = s.buses ∧
      (s.requestAudits l).steps = s.steps ∧ (s.requestAudits l).plans = s.plans ∧ (s.requestAudits l).chans = s.chans ∧
      (s.requestAudits l).cal = s.cal ∧ (s.requestAudits l).limits = s.limits ∧ (s.requestAudits l).sweep = s.sweep ∧
      (s.requestAudits l).tickets = s.tickets ∧ (s.requestAudits l).choice = s.choice ∧
      (s.requestAudits l).pending = s.pending ∧ (s.requestAudits l).link.down = s.link.down ∧
      (s.requestAudits l).link.up = s.link.up ∧ (s.requestAudits l).link.portU = s.link.portU := by
  unfold State.requestAudits
  induction l generalizing s with
  | nil => simp
  | cons c l ih => simp [ih]

@[simp] theorem State.countedTransition_keeps (s : State) (l : Nat) :
    (s.countedTransition l).phase = s.phase ∧ (s.countedTransition l).now = s.now ∧
      (s.countedTransition l).minute = s.minute ∧ (s.countedTransition l).nextFlap = s.nextFlap ∧
      (s.countedTransition l).nextMinute = s.nextMinute ∧ (s.countedTransition l).hourDue = s.hourDue ∧
      (s.countedTransition l).audits = s.audits ∧ (s.countedTransition l).params = s.params ∧
      (s.countedTransition l).hold = s.hold ∧ (s.countedTransition l).flushes = s.flushes ∧
      (s.countedTransition l).buses = s.buses ∧ (s.countedTransition l).steps = s.steps ∧
      (s.countedTransition l).plans = s.plans ∧ (s.countedTransition l).chans = s.chans ∧
      (s.countedTransition l).cal = s.cal ∧ (s.countedTransition l).limits = s.limits ∧
      (s.countedTransition l).choice = s.choice ∧ (s.countedTransition l).pending = s.pending ∧
      (s.countedTransition l).link.down = s.link.down ∧ (s.countedTransition l).link.up = s.link.up ∧
      (s.countedTransition l).link.sOwn = s.link.sOwn ∧ (s.countedTransition l).link.offers = s.link.offers ∧
      (s.countedTransition l).link.serial = s.link.serial ∧ (s.countedTransition l).link.portS = s.link.portS ∧
      (s.countedTransition l).desk.commands = s.desk.commands ∧
      (s.countedTransition l).desk.reservations = s.desk.reservations := by
  dsimp only [State.countedTransition]
  (repeat' split) <;> simp

@[simp] theorem State.loopEvent_keeps (s : State) (l : Nat) (e : ScanEvent) :
    (s.loopEvent l e).phase = s.phase ∧ (s.loopEvent l e).now = s.now ∧ (s.loopEvent l e).minute = s.minute ∧
      (s.loopEvent l e).nextFlap = s.nextFlap ∧ (s.loopEvent l e).nextMinute = s.nextMinute ∧
      (s.loopEvent l e).hourDue = s.hourDue ∧ (s.loopEvent l e).audits = s.audits ∧
      (s.loopEvent l e).params = s.params ∧ (s.loopEvent l e).hold = s.hold ∧ (s.loopEvent l e).flushes = s.flushes ∧
      (s.loopEvent l e).steps = s.steps ∧ (s.loopEvent l e).plans = s.plans ∧ (s.loopEvent l e).cal = s.cal ∧
      (s.loopEvent l e).limits = s.limits ∧ (s.loopEvent l e).choice = s.choice ∧
      (s.loopEvent l e).pending = s.pending ∧ (s.loopEvent l e).link.down = s.link.down ∧
      (s.loopEvent l e).link.up = s.link.up ∧ (s.loopEvent l e).desk.commands = s.desk.commands ∧
      (s.loopEvent l e).desk.reservations = s.desk.reservations := by
  dsimp only [State.loopEvent]
  (repeat' split) <;> simp

@[simp] theorem State.setCardCondition_keeps (s : State) (c : Nat) (k : Condition) :
    (s.setCardCondition c k).phase = s.phase ∧ (s.setCardCondition c k).now = s.now ∧
      (s.setCardCondition c k).minute = s.minute ∧ (s.setCardCondition c k).nextFlap = s.nextFlap ∧
      (s.setCardCondition c k).nextMinute = s.nextMinute ∧ (s.setCardCondition c k).hourDue = s.hourDue ∧
      (s.setCardCondition c k).audits = s.audits ∧ (s.setCardCondition c k).link = s.link ∧
      (s.setCardCondition c k).desk = s.desk ∧ (s.setCardCondition c k).params = s.params ∧
      (s.setCardCondition c k).hold = s.hold ∧ (s.setCardCondition c k).flushes = s.flushes ∧
      (s.setCardCondition c k).buses = s.buses ∧ (s.setCardCondition c k).steps = s.steps ∧
      (s.setCardCondition c k).plans = s.plans ∧ (s.setCardCondition c k).chans = s.chans ∧
      (s.setCardCondition c k).cal = s.cal ∧ (s.setCardCondition c k).limits = s.limits ∧
      (s.setCardCondition c k).sweep = s.sweep ∧ (s.setCardCondition c k).tickets = s.tickets ∧
      (s.setCardCondition c k).choice = s.choice ∧ (s.setCardCondition c k).pending = s.pending := by
  unfold State.setCardCondition
  generalize circuitsOf c = l
  induction l generalizing s with
  | nil => simp
  | cons a l ih => simp [ih]

@[simp] theorem State.cardDown_keeps (s : State) (c : Nat) :
    (s.cardDown c).phase = s.phase ∧ (s.cardDown c).now = s.now ∧ (s.cardDown c).minute = s.minute ∧
      (s.cardDown c).nextFlap = s.nextFlap ∧ (s.cardDown c).nextMinute = s.nextMinute ∧
      (s.cardDown c).hourDue = s.hourDue ∧ (s.cardDown c).audits = s.audits ∧ (s.cardDown c).params = s.params ∧
      (s.cardDown c).hold = s.hold ∧ (s.cardDown c).flushes = s.flushes ∧ (s.cardDown c).buses = s.buses ∧
      (s.cardDown c).steps = s.steps ∧ (s.cardDown c).plans = s.plans ∧ (s.cardDown c).chans = s.chans ∧
      (s.cardDown c).cal = s.cal ∧ (s.cardDown c).limits = s.limits ∧ (s.cardDown c).sweep = s.sweep ∧
      (s.cardDown c).choice = s.choice ∧ (s.cardDown c).pending = s.pending ∧ (s.cardDown c).link.down = s.link.down ∧
      (s.cardDown c).link.up = s.link.up ∧ (s.cardDown c).link.sOwn = s.link.sOwn ∧
      (s.cardDown c).link.offers = s.link.offers ∧ (s.cardDown c).link.serial = s.link.serial ∧
      (s.cardDown c).link.portS = s.link.portS ∧ (s.cardDown c).desk.commands = s.desk.commands ∧
      (s.cardDown c).desk.reservations = s.desk.reservations := by
  simp [State.cardDown]

@[simp] theorem State.cardOk_keeps (s : State) (c : Nat) :
    (s.cardOk c).phase = s.phase ∧ (s.cardOk c).now = s.now ∧ (s.cardOk c).minute = s.minute ∧
      (s.cardOk c).nextFlap = s.nextFlap ∧ (s.cardOk c).nextMinute = s.nextMinute ∧ (s.cardOk c).hourDue = s.hourDue ∧
      (s.cardOk c).params = s.params ∧ (s.cardOk c).hold = s.hold ∧ (s.cardOk c).flushes = s.flushes ∧
      (s.cardOk c).buses = s.buses ∧ (s.cardOk c).steps = s.steps ∧ (s.cardOk c).plans = s.plans ∧
      (s.cardOk c).chans = s.chans ∧ (s.cardOk c).cal = s.cal ∧ (s.cardOk c).limits = s.limits ∧
      (s.cardOk c).sweep = s.sweep ∧ (s.cardOk c).choice = s.choice ∧ (s.cardOk c).pending = s.pending ∧
      (s.cardOk c).link.down = s.link.down ∧ (s.cardOk c).link.up = s.link.up ∧
      (s.cardOk c).desk.commands = s.desk.commands ∧ (s.cardOk c).desk.reservations = s.desk.reservations := by
  simp [State.cardOk]

@[simp] theorem State.foldSetLine_keeps (s : State) {β : Type} (l : List β) (n : β → Nat) (g : State → β → LineRec) :
    (l.foldl (fun s a => s.setLine (n a) (g s a)) s).phase = s.phase ∧
      (l.foldl (fun s a => s.setLine (n a) (g s a)) s).now = s.now ∧
      (l.foldl (fun s a => s.setLine (n a) (g s a)) s).minute = s.minute ∧
      (l.foldl (fun s a => s.setLine (n a) (g s a)) s).nextFlap = s.nextFlap ∧
      (l.foldl (fun s a => s.setLine (n a) (g s a)) s).nextMinute = s.nextMinute ∧
      (l.foldl (fun s a => s.setLine (n a) (g s a)) s).hourDue = s.hourDue ∧
      (l.foldl (fun s a => s.setLine (n a) (g s a)) s).audits = s.audits ∧
      (l.foldl (fun s a => s.setLine (n a) (g s a)) s).link = s.link ∧
      (l.foldl (fun s a => s.setLine (n a) (g s a)) s).desk = s.desk ∧
      (l.foldl (fun s a => s.setLine (n a) (g s a)) s).params = s.params ∧
      (l.foldl (fun s a => s.setLine (n a) (g s a)) s).hold = s.hold ∧
      (l.foldl (fun s a => s.setLine (n a) (g s a)) s).flushes = s.flushes ∧
      (l.foldl (fun s a => s.setLine (n a) (g s a)) s).buses = s.buses ∧
      (l.foldl (fun s a => s.setLine (n a) (g s a)) s).steps = s.steps ∧
      (l.foldl (fun s a => s.setLine (n a) (g s a)) s).plans = s.plans ∧
      (l.foldl (fun s a => s.setLine (n a) (g s a)) s).chans = s.chans ∧
      (l.foldl (fun s a => s.setLine (n a) (g s a)) s).cal = s.cal ∧
      (l.foldl (fun s a => s.setLine (n a) (g s a)) s).limits = s.limits ∧
      (l.foldl (fun s a => s.setLine (n a) (g s a)) s).sweep = s.sweep ∧
      (l.foldl (fun s a => s.setLine (n a) (g s a)) s).tickets = s.tickets ∧
      (l.foldl (fun s a => s.setLine (n a) (g s a)) s).choice = s.choice ∧
      (l.foldl (fun s a => s.setLine (n a) (g s a)) s).pending = s.pending := by
  induction l generalizing s with
  | nil => simp
  | cons a l ih => simp [ih]

@[simp] theorem State.foldYield_keeps (s : State) (l : List Nat) :
    (l.foldl State.yieldTrigger s).phase = s.phase ∧ (l.foldl State.yieldTrigger s).now = s.now ∧
      (l.foldl State.yieldTrigger s).minute = s.minute ∧ (l.foldl State.yieldTrigger s).nextFlap = s.nextFlap ∧
      (l.foldl State.yieldTrigger s).nextMinute = s.nextMinute ∧ (l.foldl State.yieldTrigger s).hourDue = s.hourDue ∧
      (l.foldl State.yieldTrigger s).audits = s.audits ∧ (l.foldl State.yieldTrigger s).desk = s.desk ∧
      (l.foldl State.yieldTrigger s).params = s.params ∧ (l.foldl State.yieldTrigger s).hold = s.hold ∧
      (l.foldl State.yieldTrigger s).flushes = s.flushes ∧ (l.foldl State.yieldTrigger s).steps = s.steps ∧
      (l.foldl State.yieldTrigger s).plans = s.plans ∧ (l.foldl State.yieldTrigger s).cal = s.cal ∧
      (l.foldl State.yieldTrigger s).limits = s.limits ∧ (l.foldl State.yieldTrigger s).sweep = s.sweep ∧
      (l.foldl State.yieldTrigger s).tickets = s.tickets ∧ (l.foldl State.yieldTrigger s).choice = s.choice ∧
      (l.foldl State.yieldTrigger s).pending = s.pending ∧ (l.foldl State.yieldTrigger s).link.down = s.link.down ∧
      (l.foldl State.yieldTrigger s).link.up = s.link.up ∧ (l.foldl State.yieldTrigger s).link.portU = s.link.portU := by
  induction l generalizing s with
  | nil => simp
  | cons a l ih => simp [ih]

@[simp] theorem State.cardState_keeps (s : State) (c m : Nat) :
    (s.cardState c m).phase = s.phase ∧ (s.cardState c m).now = s.now ∧ (s.cardState c m).minute = s.minute ∧
      (s.cardState c m).nextFlap = s.nextFlap ∧ (s.cardState c m).nextMinute = s.nextMinute ∧
      (s.cardState c m).hourDue = s.hourDue ∧ (s.cardState c m).desk = s.desk ∧ (s.cardState c m).params = s.params ∧
      (s.cardState c m).hold = s.hold ∧ (s.cardState c m).flushes = s.flushes ∧ (s.cardState c m).steps = s.steps ∧
      (s.cardState c m).plans = s.plans ∧ (s.cardState c m).cal = s.cal ∧ (s.cardState c m).limits = s.limits ∧
      (s.cardState c m).sweep = s.sweep ∧ (s.cardState c m).tickets = s.tickets ∧
      (s.cardState c m).pending = s.pending ∧ (s.cardState c m).link.down = s.link.down ∧
      (s.cardState c m).link.up = s.link.up ∧ (s.cardState c m).link.portU = s.link.portU := by
  dsimp only [State.cardState]
  split <;> simp

end Sys2Proof.Machine
end

