-- ==== Sys2Proof/Laws/TestEnds.lean ====
section
/-! SUPPORT. What the end of a test and of a release leaves. -/

namespace Sys2Proof.Machine

@[simp] theorem State.sendReport_keeps (s : State) (r : Report) :
    (s.sendReport r).phase = s.phase ∧ (s.sendReport r).now = s.now ∧ (s.sendReport r).minute = s.minute ∧
      (s.sendReport r).nextFlap = s.nextFlap ∧ (s.sendReport r).nextMinute = s.nextMinute ∧
      (s.sendReport r).hourDue = s.hourDue ∧ (s.sendReport r).lines = s.lines ∧ (s.sendReport r).audits = s.audits ∧
      (s.sendReport r).params = s.params ∧ (s.sendReport r).hold = s.hold ∧ (s.sendReport r).flushes = s.flushes ∧
      (s.sendReport r).buses = s.buses ∧ (s.sendReport r).steps = s.steps ∧ (s.sendReport r).plans = s.plans ∧
      (s.sendReport r).chans = s.chans ∧ (s.sendReport r).cal = s.cal ∧ (s.sendReport r).limits = s.limits ∧
      (s.sendReport r).sweep = s.sweep ∧ (s.sendReport r).tickets = s.tickets ∧ (s.sendReport r).choice = s.choice ∧
      (s.sendReport r).pending = s.pending ∧ (s.sendReport r).link.down = s.link.down ∧
      (s.sendReport r).link.up = s.link.up ∧ (s.sendReport r).link.sOwn = s.link.sOwn ∧
      (s.sendReport r).link.offers = s.link.offers ∧ (s.sendReport r).link.serial = s.link.serial ∧
      (s.sendReport r).link.portS = s.link.portS ∧ (s.sendReport r).desk.commands = s.desk.commands ∧
      (s.sendReport r).desk.reservations = s.desk.reservations := by
  dsimp only [State.sendReport]
  (repeat' split) <;> simp

@[simp] theorem State.noteIdle_keeps (s : State) (h : Nat) :
    (s.noteIdle h).phase = s.phase ∧ (s.noteIdle h).now = s.now ∧ (s.noteIdle h).minute = s.minute ∧
      (s.noteIdle h).nextFlap = s.nextFlap ∧ (s.noteIdle h).nextMinute = s.nextMinute ∧
      (s.noteIdle h).hourDue = s.hourDue ∧ (s.noteIdle h).lines = s.lines ∧ (s.noteIdle h).audits = s.audits ∧
      (s.noteIdle h).link = s.link ∧ (s.noteIdle h).desk = s.desk ∧ (s.noteIdle h).params = s.params ∧
      (s.noteIdle h).hold = s.hold ∧ (s.noteIdle h).flushes = s.flushes ∧ (s.noteIdle h).buses = s.buses ∧
      (s.noteIdle h).steps = s.steps ∧ (s.noteIdle h).plans = s.plans ∧ (s.noteIdle h).chans = s.chans ∧
      (s.noteIdle h).cal = s.cal ∧ (s.noteIdle h).limits = s.limits ∧ (s.noteIdle h).tickets = s.tickets ∧
      (s.noteIdle h).choice = s.choice ∧ (s.noteIdle h).pending = s.pending := by
  dsimp only [State.noteIdle]
  (repeat' split) <;> simp

@[simp] theorem State.answerAbort_keeps (s : State) (h : Nat) (g : Option Byte) (t : TestRec) :
    (s.answerAbort h g t).phase = s.phase ∧ (s.answerAbort h g t).now = s.now ∧
      (s.answerAbort h g t).minute = s.minute ∧ (s.answerAbort h g t).nextFlap = s.nextFlap ∧
      (s.answerAbort h g t).nextMinute = s.nextMinute ∧ (s.answerAbort h g t).hourDue = s.hourDue ∧
      (s.answerAbort h g t).lines = s.lines ∧ (s.answerAbort h g t).audits = s.audits ∧
      (s.answerAbort h g t).params = s.params ∧ (s.answerAbort h g t).hold = s.hold ∧
      (s.answerAbort h g t).flushes = s.flushes ∧ (s.answerAbort h g t).buses = s.buses ∧
      (s.answerAbort h g t).steps = s.steps ∧ (s.answerAbort h g t).plans = s.plans ∧
      (s.answerAbort h g t).chans = s.chans ∧ (s.answerAbort h g t).cal = s.cal ∧
      (s.answerAbort h g t).limits = s.limits ∧ (s.answerAbort h g t).sweep = s.sweep ∧
      (s.answerAbort h g t).tickets = s.tickets ∧ (s.answerAbort h g t).pending = s.pending ∧
      (s.answerAbort h g t).link.down = s.link.down ∧ (s.answerAbort h g t).link.up = s.link.up ∧
      (s.answerAbort h g t).link.sOwn = s.link.sOwn ∧ (s.answerAbort h g t).link.offers = s.link.offers ∧
      (s.answerAbort h g t).link.serial = s.link.serial ∧ (s.answerAbort h g t).link.portS = s.link.portS ∧
      (s.answerAbort h g t).desk.commands = s.desk.commands := by
  dsimp only [State.answerAbort]
  (repeat' split) <;> simp

@[simp] theorem State.endTest_keeps (s : State) (h : Nat) :
    (s.endTest h).phase = s.phase ∧ (s.endTest h).now = s.now ∧ (s.endTest h).minute = s.minute ∧
      (s.endTest h).nextFlap = s.nextFlap ∧ (s.endTest h).nextMinute = s.nextMinute ∧
      (s.endTest h).hourDue = s.hourDue ∧ (s.endTest h).audits = s.audits ∧ (s.endTest h).params = s.params ∧
      (s.endTest h).hold = s.hold ∧ (s.endTest h).flushes = s.flushes ∧ (s.endTest h).buses = s.buses ∧
      (s.endTest h).steps = s.steps ∧ (s.endTest h).plans = s.plans ∧ (s.endTest h).cal = s.cal ∧
      (s.endTest h).limits = s.limits ∧ (s.endTest h).pending = s.pending ∧ (s.endTest h).link.down = s.link.down ∧
      (s.endTest h).link.up = s.link.up ∧ (s.endTest h).link.sOwn = s.link.sOwn ∧
      (s.endTest h).link.offers = s.link.offers ∧ (s.endTest h).link.serial = s.link.serial ∧
      (s.endTest h).link.portS = s.link.portS ∧ (s.endTest h).desk.commands = s.desk.commands := by
  dsimp only [State.endTest]
  (repeat' split) <;> simp

@[simp] theorem State.finishRelease_keeps (s : State) (h : Nat) :
    (s.finishRelease h).phase = s.phase ∧ (s.finishRelease h).now = s.now ∧ (s.finishRelease h).minute = s.minute ∧
      (s.finishRelease h).nextFlap = s.nextFlap ∧ (s.finishRelease h).nextMinute = s.nextMinute ∧
      (s.finishRelease h).hourDue = s.hourDue ∧ (s.finishRelease h).audits = s.audits ∧
      (s.finishRelease h).params = s.params ∧ (s.finishRelease h).steps = s.steps ∧
      (s.finishRelease h).plans = s.plans ∧ (s.finishRelease h).cal = s.cal ∧ (s.finishRelease h).limits = s.limits ∧
      (s.finishRelease h).pending = s.pending ∧ (s.finishRelease h).link.down = s.link.down ∧
      (s.finishRelease h).link.up = s.link.up ∧ (s.finishRelease h).desk.commands = s.desk.commands := by
  dsimp only [State.finishRelease]
  (repeat' split) <;> simp

@[simp] theorem State.freeClaim_keeps (s : State) (b : Nat) (p : Bool) :
    (s.freeClaim b p).phase = s.phase ∧ (s.freeClaim b p).now = s.now ∧ (s.freeClaim b p).minute = s.minute ∧
      (s.freeClaim b p).nextFlap = s.nextFlap ∧ (s.freeClaim b p).nextMinute = s.nextMinute ∧
      (s.freeClaim b p).hourDue = s.hourDue ∧ (s.freeClaim b p).lines = s.lines ∧ (s.freeClaim b p).audits = s.audits ∧
      (s.freeClaim b p).link = s.link ∧ (s.freeClaim b p).desk = s.desk ∧ (s.freeClaim b p).params = s.params ∧
      (s.freeClaim b p).hold = s.hold ∧ (s.freeClaim b p).flushes = s.flushes ∧ (s.freeClaim b p).steps = s.steps ∧
      (s.freeClaim b p).plans = s.plans ∧ (s.freeClaim b p).chans = s.chans ∧ (s.freeClaim b p).cal = s.cal ∧
      (s.freeClaim b p).limits = s.limits ∧ (s.freeClaim b p).tickets = s.tickets ∧
      (s.freeClaim b p).choice = s.choice ∧ (s.freeClaim b p).pending = s.pending := by
  dsimp only [State.freeClaim]
  (repeat' split) <;> simp

@[simp] theorem State.completeRelease_keeps (s : State) (h b l : Nat) :
    (s.completeRelease h b l).phase = s.phase ∧ (s.completeRelease h b l).now = s.now ∧
      (s.completeRelease h b l).minute = s.minute ∧ (s.completeRelease h b l).nextFlap = s.nextFlap ∧
      (s.completeRelease h b l).nextMinute = s.nextMinute ∧ (s.completeRelease h b l).hourDue = s.hourDue ∧
      (s.completeRelease h b l).audits = s.audits ∧ (s.completeRelease h b l).params = s.params ∧
      (s.completeRelease h b l).steps = s.steps ∧ (s.completeRelease h b l).plans = s.plans ∧
      (s.completeRelease h b l).cal = s.cal ∧ (s.completeRelease h b l).limits = s.limits ∧
      (s.completeRelease h b l).pending = s.pending ∧ (s.completeRelease h b l).link.down = s.link.down ∧
      (s.completeRelease h b l).link.up = s.link.up ∧ (s.completeRelease h b l).desk.commands = s.desk.commands := by
  simp [State.completeRelease]

@[simp] theorem State.stickRelay_keeps (s : State) (b l : Nat) :
    (s.stickRelay b l).phase = s.phase ∧ (s.stickRelay b l).now = s.now ∧ (s.stickRelay b l).minute = s.minute ∧
      (s.stickRelay b l).nextFlap = s.nextFlap ∧ (s.stickRelay b l).nextMinute = s.nextMinute ∧
      (s.stickRelay b l).hourDue = s.hourDue ∧ (s.stickRelay b l).audits = s.audits ∧
      (s.stickRelay b l).params = s.params ∧ (s.stickRelay b l).steps = s.steps ∧ (s.stickRelay b l).plans = s.plans ∧
      (s.stickRelay b l).chans = s.chans ∧ (s.stickRelay b l).cal = s.cal ∧ (s.stickRelay b l).limits = s.limits ∧
      (s.stickRelay b l).sweep = s.sweep ∧ (s.stickRelay b l).choice = s.choice ∧
      (s.stickRelay b l).pending = s.pending ∧ (s.stickRelay b l).link.down = s.link.down ∧
      (s.stickRelay b l).link.up = s.link.up ∧ (s.stickRelay b l).desk.commands = s.desk.commands ∧
      (s.stickRelay b l).desk.reservations = s.desk.reservations := by
  simp [State.stickRelay]

@[simp] theorem State.timeOutRelease_keeps (s : State) (h b l : Nat) :
    (s.timeOutRelease h b l).phase = s.phase ∧ (s.timeOutRelease h b l).now = s.now ∧
      (s.timeOutRelease h b l).minute = s.minute ∧ (s.timeOutRelease h b l).nextFlap = s.nextFlap ∧
      (s.timeOutRelease h b l).nextMinute = s.nextMinute ∧ (s.timeOutRelease h b l).hourDue = s.hourDue ∧
      (s.timeOutRelease h b l).audits = s.audits ∧ (s.timeOutRelease h b l).params = s.params ∧
      (s.timeOutRelease h b l).steps = s.steps ∧ (s.timeOutRelease h b l).plans = s.plans ∧
      (s.timeOutRelease h b l).cal = s.cal ∧ (s.timeOutRelease h b l).limits = s.limits ∧
      (s.timeOutRelease h b l).pending = s.pending ∧ (s.timeOutRelease h b l).link.down = s.link.down ∧
      (s.timeOutRelease h b l).link.up = s.link.up ∧ (s.timeOutRelease h b l).desk.commands = s.desk.commands := by
  simp [State.timeOutRelease]

end Sys2Proof.Machine
end

