-- ==== Sys2Proof/Laws/Running.lean ====
section
/-! SUPPORT. What protection, calibration runs and the running of a plan leave. -/

namespace Sys2Proof.Machine

@[simp] theorem State.trip_keeps (s : State) (h : Nat) :
    (s.trip h).phase = s.phase ∧ (s.trip h).now = s.now ∧ (s.trip h).minute = s.minute ∧
      (s.trip h).nextFlap = s.nextFlap ∧ (s.trip h).nextMinute = s.nextMinute ∧ (s.trip h).hourDue = s.hourDue ∧
      (s.trip h).audits = s.audits ∧ (s.trip h).params = s.params ∧ (s.trip h).hold = s.hold ∧
      (s.trip h).flushes = s.flushes ∧ (s.trip h).steps = s.steps ∧ (s.trip h).plans = s.plans ∧
      (s.trip h).cal = s.cal ∧ (s.trip h).limits = s.limits ∧ (s.trip h).sweep = s.sweep ∧
      (s.trip h).choice = s.choice ∧ (s.trip h).pending = s.pending ∧ (s.trip h).link.down = s.link.down ∧
      (s.trip h).link.up = s.link.up ∧ (s.trip h).desk.commands = s.desk.commands ∧
      (s.trip h).desk.reservations = s.desk.reservations := by
  dsimp only [State.trip]
  (repeat' split) <;> simp

@[simp] theorem State.assessUsed_keeps (s : State) (h : Nat) (t : Int) (k : StepKind) (r : Range) :
    (s.assessUsed h t k r).phase = s.phase ∧ (s.assessUsed h t k r).now = s.now ∧
      (s.assessUsed h t k r).minute = s.minute ∧ (s.assessUsed h t k r).nextFlap = s.nextFlap ∧
      (s.assessUsed h t k r).nextMinute = s.nextMinute ∧ (s.assessUsed h t k r).hourDue = s.hourDue ∧
      (s.assessUsed h t k r).audits = s.audits ∧ (s.assessUsed h t k r).params = s.params ∧
      (s.assessUsed h t k r).hold = s.hold ∧ (s.assessUsed h t k r).flushes = s.flushes ∧
      (s.assessUsed h t k r).buses = s.buses ∧ (s.assessUsed h t k r).steps = s.steps ∧
      (s.assessUsed h t k r).plans = s.plans ∧ (s.assessUsed h t k r).chans = s.chans ∧
      (s.assessUsed h t k r).limits = s.limits ∧ (s.assessUsed h t k r).sweep = s.sweep ∧
      (s.assessUsed h t k r).choice = s.choice ∧ (s.assessUsed h t k r).pending = s.pending ∧
      (s.assessUsed h t k r).link.down = s.link.down ∧ (s.assessUsed h t k r).link.up = s.link.up ∧
      (s.assessUsed h t k r).link.sOwn = s.link.sOwn ∧ (s.assessUsed h t k r).link.offers = s.link.offers ∧
      (s.assessUsed h t k r).link.serial = s.link.serial ∧ (s.assessUsed h t k r).link.portS = s.link.portS ∧
      (s.assessUsed h t k r).desk.commands = s.desk.commands ∧
      (s.assessUsed h t k r).desk.reservations = s.desk.reservations := by
  dsimp only [State.assessUsed]
  (repeat' split) <;> simp

@[simp] theorem State.assessHead_keeps (s : State) (h : Nat) :
    (s.assessHead h).phase = s.phase ∧ (s.assessHead h).now = s.now ∧ (s.assessHead h).minute = s.minute ∧
      (s.assessHead h).nextFlap = s.nextFlap ∧ (s.assessHead h).nextMinute = s.nextMinute ∧
      (s.assessHead h).hourDue = s.hourDue ∧ (s.assessHead h).audits = s.audits ∧ (s.assessHead h).params = s.params ∧
      (s.assessHead h).hold = s.hold ∧ (s.assessHead h).flushes = s.flushes ∧ (s.assessHead h).buses = s.buses ∧
      (s.assessHead h).steps = s.steps ∧ (s.assessHead h).plans = s.plans ∧ (s.assessHead h).chans = s.chans ∧
      (s.assessHead h).limits = s.limits ∧ (s.assessHead h).sweep = s.sweep ∧ (s.assessHead h).choice = s.choice ∧
      (s.assessHead h).pending = s.pending ∧ (s.assessHead h).link.down = s.link.down ∧
      (s.assessHead h).link.up = s.link.up ∧ (s.assessHead h).link.sOwn = s.link.sOwn ∧
      (s.assessHead h).link.offers = s.link.offers ∧ (s.assessHead h).link.serial = s.link.serial ∧
      (s.assessHead h).link.portS = s.link.portS ∧ (s.assessHead h).desk.commands = s.desk.commands ∧
      (s.assessHead h).desk.reservations = s.desk.reservations := by
  dsimp only [State.assessHead]
  (repeat' split) <;> simp

@[simp] theorem State.foldAssess_keeps (s : State) (l : List Nat) :
    (l.foldl State.assessHead s).phase = s.phase ∧ (l.foldl State.assessHead s).now = s.now ∧
      (l.foldl State.assessHead s).minute = s.minute ∧ (l.foldl State.assessHead s).nextFlap = s.nextFlap ∧
      (l.foldl State.assessHead s).nextMinute = s.nextMinute ∧ (l.foldl State.assessHead s).hourDue = s.hourDue ∧
      (l.foldl State.assessHead s).audits = s.audits ∧ (l.foldl State.assessHead s).params = s.params ∧
      (l.foldl State.assessHead s).hold = s.hold ∧ (l.foldl State.assessHead s).flushes = s.flushes ∧
      (l.foldl State.assessHead s).buses = s.buses ∧ (l.foldl State.assessHead s).steps = s.steps ∧
      (l.foldl State.assessHead s).plans = s.plans ∧ (l.foldl State.assessHead s).chans = s.chans ∧
      (l.foldl State.assessHead s).limits = s.limits ∧ (l.foldl State.assessHead s).sweep = s.sweep ∧
      (l.foldl State.assessHead s).choice = s.choice ∧ (l.foldl State.assessHead s).pending = s.pending ∧
      (l.foldl State.assessHead s).link.down = s.link.down ∧ (l.foldl State.assessHead s).link.up = s.link.up ∧
      (l.foldl State.assessHead s).link.sOwn = s.link.sOwn ∧ (l.foldl State.assessHead s).link.offers = s.link.offers ∧
      (l.foldl State.assessHead s).link.serial = s.link.serial ∧
      (l.foldl State.assessHead s).link.portS = s.link.portS ∧
      (l.foldl State.assessHead s).desk.commands = s.desk.commands ∧
      (l.foldl State.assessHead s).desk.reservations = s.desk.reservations := by
  induction l generalizing s with
  | nil => simp
  | cons a l ih => simp [ih]

@[simp] theorem State.foldHeadCal_keeps (s : State) (l : List Nat) (g : State → Nat → HeadCal) :
    (l.foldl (fun s h => s.setHeadCal h (g s h)) s).phase = s.phase ∧
      (l.foldl (fun s h => s.setHeadCal h (g s h)) s).now = s.now ∧
      (l.foldl (fun s h => s.setHeadCal h (g s h)) s).minute = s.minute ∧
      (l.foldl (fun s h => s.setHeadCal h (g s h)) s).nextFlap = s.nextFlap ∧
      (l.foldl (fun s h => s.setHeadCal h (g s h)) s).nextMinute = s.nextMinute ∧
      (l.foldl (fun s h => s.setHeadCal h (g s h)) s).hourDue = s.hourDue ∧
      (l.foldl (fun s h => s.setHeadCal h (g s h)) s).lines = s.lines ∧
      (l.foldl (fun s h => s.setHeadCal h (g s h)) s).audits = s.audits ∧
      (l.foldl (fun s h => s.setHeadCal h (g s h)) s).link = s.link ∧
      (l.foldl (fun s h => s.setHeadCal h (g s h)) s).desk = s.desk ∧
      (l.foldl (fun s h => s.setHeadCal h (g s h)) s).params = s.params ∧
      (l.foldl (fun s h => s.setHeadCal h (g s h)) s).hold = s.hold ∧
      (l.foldl (fun s h => s.setHeadCal h (g s h)) s).flushes = s.flushes ∧
      (l.foldl (fun s h => s.setHeadCal h (g s h)) s).buses = s.buses ∧
      (l.foldl (fun s h => s.setHeadCal h (g s h)) s).steps = s.steps ∧
      (l.foldl (fun s h => s.setHeadCal h (g s h)) s).plans = s.plans ∧
      (l.foldl (fun s h => s.setHeadCal h (g s h)) s).chans = s.chans ∧
      (l.foldl (fun s h => s.setHeadCal h (g s h)) s).limits = s.limits ∧
      (l.foldl (fun s h => s.setHeadCal h (g s h)) s).sweep = s.sweep ∧
      (l.foldl (fun s h => s.setHeadCal h (g s h)) s).tickets = s.tickets ∧
      (l.foldl (fun s h => s.setHeadCal h (g s h)) s).choice = s.choice ∧
      (l.foldl (fun s h => s.setHeadCal h (g s h)) s).pending = s.pending := by
  induction l generalizing s with
  | nil => simp
  | cons a l ih => simp [ih]

@[simp] theorem State.tickHour_keeps (s : State) :
    (s.tickHour).phase = s.phase ∧ (s.tickHour).now = s.now ∧ (s.tickHour).minute = s.minute ∧
      (s.tickHour).nextFlap = s.nextFlap ∧ (s.tickHour).nextMinute = s.nextMinute ∧ (s.tickHour).hourDue = s.hourDue ∧
      (s.tickHour).audits = s.audits ∧ (s.tickHour).params = s.params ∧ (s.tickHour).hold = s.hold ∧
      (s.tickHour).flushes = s.flushes ∧ (s.tickHour).buses = s.buses ∧ (s.tickHour).steps = s.steps ∧
      (s.tickHour).plans = s.plans ∧ (s.tickHour).chans = s.chans ∧ (s.tickHour).limits = s.limits ∧
      (s.tickHour).sweep = s.sweep ∧ (s.tickHour).choice = s.choice ∧ (s.tickHour).pending = s.pending ∧
      (s.tickHour).link.down = s.link.down ∧ (s.tickHour).link.up = s.link.up ∧ (s.tickHour).link.sOwn = s.link.sOwn ∧
      (s.tickHour).link.offers = s.link.offers ∧ (s.tickHour).link.serial = s.link.serial ∧
      (s.tickHour).link.portS = s.link.portS ∧ (s.tickHour).desk.commands = s.desk.commands ∧
      (s.tickHour).desk.reservations = s.desk.reservations := by
  simp [State.tickHour]

@[simp] theorem State.beginPhase_keeps (s : State) (h : Nat) (p : CalPhase) :
    (s.beginPhase h p).phase = s.phase ∧ (s.beginPhase h p).now = s.now ∧ (s.beginPhase h p).minute = s.minute ∧
      (s.beginPhase h p).nextFlap = s.nextFlap ∧ (s.beginPhase h p).nextMinute = s.nextMinute ∧
      (s.beginPhase h p).hourDue = s.hourDue ∧ (s.beginPhase h p).lines = s.lines ∧
      (s.beginPhase h p).audits = s.audits ∧ (s.beginPhase h p).desk = s.desk ∧ (s.beginPhase h p).params = s.params ∧
      (s.beginPhase h p).hold = s.hold ∧ (s.beginPhase h p).flushes = s.flushes ∧ (s.beginPhase h p).buses = s.buses ∧
      (s.beginPhase h p).steps = s.steps ∧ (s.beginPhase h p).plans = s.plans ∧ (s.beginPhase h p).cal = s.cal ∧
      (s.beginPhase h p).limits = s.limits ∧ (s.beginPhase h p).sweep = s.sweep ∧
      (s.beginPhase h p).tickets = s.tickets ∧ (s.beginPhase h p).choice = s.choice ∧
      (s.beginPhase h p).pending = s.pending ∧ (s.beginPhase h p).link.down = s.link.down ∧
      (s.beginPhase h p).link.up = s.link.up ∧ (s.beginPhase h p).link.portU = s.link.portU := by
  simp [State.beginPhase]

@[simp] theorem State.beginRun_keeps (s : State) (h : Nat) (t : Byte) :
    (s.beginRun h t).phase = s.phase ∧ (s.beginRun h t).now = s.now ∧ (s.beginRun h t).minute = s.minute ∧
      (s.beginRun h t).nextFlap = s.nextFlap ∧ (s.beginRun h t).nextMinute = s.nextMinute ∧
      (s.beginRun h t).hourDue = s.hourDue ∧ (s.beginRun h t).lines = s.lines ∧ (s.beginRun h t).audits = s.audits ∧
      (s.beginRun h t).desk = s.desk ∧ (s.beginRun h t).params = s.params ∧ (s.beginRun h t).hold = s.hold ∧
      (s.beginRun h t).flushes = s.flushes ∧ (s.beginRun h t).buses = s.buses ∧ (s.beginRun h t).steps = s.steps ∧
      (s.beginRun h t).plans = s.plans ∧ (s.beginRun h t).cal = s.cal ∧ (s.beginRun h t).limits = s.limits ∧
      (s.beginRun h t).sweep = s.sweep ∧ (s.beginRun h t).tickets = s.tickets ∧ (s.beginRun h t).choice = s.choice ∧
      (s.beginRun h t).pending = s.pending ∧ (s.beginRun h t).link.down = s.link.down ∧
      (s.beginRun h t).link.up = s.link.up ∧ (s.beginRun h t).link.portU = s.link.portU := by
  simp [State.beginRun]

@[simp] theorem State.idleHead_keeps (s : State) (h : Nat) :
    (s.idleHead h).phase = s.phase ∧ (s.idleHead h).now = s.now ∧ (s.idleHead h).minute = s.minute ∧
      (s.idleHead h).nextFlap = s.nextFlap ∧ (s.idleHead h).nextMinute = s.nextMinute ∧
      (s.idleHead h).hourDue = s.hourDue ∧ (s.idleHead h).lines = s.lines ∧ (s.idleHead h).audits = s.audits ∧
      (s.idleHead h).desk = s.desk ∧ (s.idleHead h).params = s.params ∧ (s.idleHead h).hold = s.hold ∧
      (s.idleHead h).flushes = s.flushes ∧ (s.idleHead h).buses = s.buses ∧ (s.idleHead h).steps = s.steps ∧
      (s.idleHead h).plans = s.plans ∧ (s.idleHead h).cal = s.cal ∧ (s.idleHead h).limits = s.limits ∧
      (s.idleHead h).sweep = s.sweep ∧ (s.idleHead h).tickets = s.tickets ∧ (s.idleHead h).choice = s.choice ∧
      (s.idleHead h).pending = s.pending ∧ (s.idleHead h).link.down = s.link.down ∧ (s.idleHead h).link.up = s.link.up ∧
      (s.idleHead h).link.portU = s.link.portU := by
  simp [State.idleHead]

@[simp] theorem State.leaveRun_keeps (s : State) (h : Nat) (b : Bool) :
    (s.leaveRun h b).phase = s.phase ∧ (s.leaveRun h b).now = s.now ∧ (s.leaveRun h b).minute = s.minute ∧
      (s.leaveRun h b).nextFlap = s.nextFlap ∧ (s.leaveRun h b).nextMinute = s.nextMinute ∧
      (s.leaveRun h b).hourDue = s.hourDue ∧ (s.leaveRun h b).lines = s.lines ∧ (s.leaveRun h b).audits = s.audits ∧
      (s.leaveRun h b).link = s.link ∧ (s.leaveRun h b).desk = s.desk ∧ (s.leaveRun h b).params = s.params ∧
      (s.leaveRun h b).hold = s.hold ∧ (s.leaveRun h b).flushes = s.flushes ∧ (s.leaveRun h b).buses = s.buses ∧
      (s.leaveRun h b).steps = s.steps ∧ (s.leaveRun h b).plans = s.plans ∧ (s.leaveRun h b).cal = s.cal ∧
      (s.leaveRun h b).limits = s.limits ∧ (s.leaveRun h b).tickets = s.tickets ∧ (s.leaveRun h b).choice = s.choice ∧
      (s.leaveRun h b).pending = s.pending := by
  simp [State.leaveRun]

@[simp] theorem State.failRun_keeps (s : State) (h : Nat) (c : CalCause) :
    (s.failRun h c).phase = s.phase ∧ (s.failRun h c).now = s.now ∧ (s.failRun h c).minute = s.minute ∧
      (s.failRun h c).nextFlap = s.nextFlap ∧ (s.failRun h c).nextMinute = s.nextMinute ∧
      (s.failRun h c).hourDue = s.hourDue ∧ (s.failRun h c).audits = s.audits ∧ (s.failRun h c).params = s.params ∧
      (s.failRun h c).hold = s.hold ∧ (s.failRun h c).flushes = s.flushes ∧ (s.failRun h c).buses = s.buses ∧
      (s.failRun h c).steps = s.steps ∧ (s.failRun h c).plans = s.plans ∧ (s.failRun h c).cal = s.cal ∧
      (s.failRun h c).limits = s.limits ∧ (s.failRun h c).choice = s.choice ∧ (s.failRun h c).pending = s.pending ∧
      (s.failRun h c).link.down = s.link.down ∧ (s.failRun h c).link.up = s.link.up ∧
      (s.failRun h c).desk.commands = s.desk.commands := by
  dsimp only [State.failRun]
  (repeat' split) <;> simp

@[simp] theorem State.finishRun_keeps (s : State) (h : Nat) (r : CalRun) (v i j : Candidate) (t : Int) :
    (s.finishRun h r v i j t).phase = s.phase ∧ (s.finishRun h r v i j t).now = s.now ∧
      (s.finishRun h r v i j t).minute = s.minute ∧ (s.finishRun h r v i j t).nextFlap = s.nextFlap ∧
      (s.finishRun h r v i j t).nextMinute = s.nextMinute ∧ (s.finishRun h r v i j t).hourDue = s.hourDue ∧
      (s.finishRun h r v i j t).lines = s.lines ∧ (s.finishRun h r v i j t).audits = s.audits ∧
      (s.finishRun h r v i j t).params = s.params ∧ (s.finishRun h r v i j t).hold = s.hold ∧
      (s.finishRun h r v i j t).flushes = s.flushes ∧ (s.finishRun h r v i j t).buses = s.buses ∧
      (s.finishRun h r v i j t).steps = s.steps ∧ (s.finishRun h r v i j t).plans = s.plans ∧
      (s.finishRun h r v i j t).limits = s.limits ∧ (s.finishRun h r v i j t).choice = s.choice ∧
      (s.finishRun h r v i j t).pending = s.pending ∧ (s.finishRun h r v i j t).link.down = s.link.down ∧
      (s.finishRun h r v i j t).link.up = s.link.up ∧ (s.finishRun h r v i j t).desk.commands = s.desk.commands := by
  simp [State.finishRun]

@[simp] theorem State.setRun_keeps (s : State) (h : Nat) (r : CalRun) :
    (s.setRun h r).phase = s.phase ∧ (s.setRun h r).now = s.now ∧ (s.setRun h r).minute = s.minute ∧
      (s.setRun h r).nextFlap = s.nextFlap ∧ (s.setRun h r).nextMinute = s.nextMinute ∧
      (s.setRun h r).hourDue = s.hourDue ∧ (s.setRun h r).lines = s.lines ∧ (s.setRun h r).audits = s.audits ∧
      (s.setRun h r).link = s.link ∧ (s.setRun h r).desk = s.desk ∧ (s.setRun h r).params = s.params ∧
      (s.setRun h r).hold = s.hold ∧ (s.setRun h r).flushes = s.flushes ∧ (s.setRun h r).buses = s.buses ∧
      (s.setRun h r).steps = s.steps ∧ (s.setRun h r).plans = s.plans ∧ (s.setRun h r).cal = s.cal ∧
      (s.setRun h r).limits = s.limits ∧ (s.setRun h r).sweep = s.sweep ∧ (s.setRun h r).tickets = s.tickets ∧
      (s.setRun h r).choice = s.choice ∧ (s.setRun h r).pending = s.pending := by
  simp [State.setRun]

@[simp] theorem State.phaseDone_keeps (s : State) (h : Nat) (w : Window) :
    (s.phaseDone h w).phase = s.phase ∧ (s.phaseDone h w).now = s.now ∧ (s.phaseDone h w).minute = s.minute ∧
      (s.phaseDone h w).nextFlap = s.nextFlap ∧ (s.phaseDone h w).nextMinute = s.nextMinute ∧
      (s.phaseDone h w).hourDue = s.hourDue ∧ (s.phaseDone h w).audits = s.audits ∧
      (s.phaseDone h w).params = s.params ∧ (s.phaseDone h w).hold = s.hold ∧ (s.phaseDone h w).flushes = s.flushes ∧
      (s.phaseDone h w).buses = s.buses ∧ (s.phaseDone h w).steps = s.steps ∧ (s.phaseDone h w).plans = s.plans ∧
      (s.phaseDone h w).limits = s.limits ∧ (s.phaseDone h w).choice = s.choice ∧
      (s.phaseDone h w).pending = s.pending ∧ (s.phaseDone h w).link.down = s.link.down ∧
      (s.phaseDone h w).link.up = s.link.up ∧ (s.phaseDone h w).desk.commands = s.desk.commands := by
  dsimp only [State.phaseDone]
  (repeat' split) <;> simp

@[simp] theorem State.beginRepetition_keeps (s : State) (h : Nat) (r : StepRec) (p : Progress) :
    (s.beginRepetition h r p).phase = s.phase ∧ (s.beginRepetition h r p).now = s.now ∧
      (s.beginRepetition h r p).minute = s.minute ∧ (s.beginRepetition h r p).nextFlap = s.nextFlap ∧
      (s.beginRepetition h r p).nextMinute = s.nextMinute ∧ (s.beginRepetition h r p).hourDue = s.hourDue ∧
      (s.beginRepetition h r p).lines = s.lines ∧ (s.beginRepetition h r p).audits = s.audits ∧
      (s.beginRepetition h r p).desk = s.desk ∧ (s.beginRepetition h r p).params = s.params ∧
      (s.beginRepetition h r p).hold = s.hold ∧ (s.beginRepetition h r p).flushes = s.flushes ∧
      (s.beginRepetition h r p).buses = s.buses ∧ (s.beginRepetition h r p).steps = s.steps ∧
      (s.beginRepetition h r p).plans = s.plans ∧ (s.beginRepetition h r p).cal = s.cal ∧
      (s.beginRepetition h r p).limits = s.limits ∧ (s.beginRepetition h r p).sweep = s.sweep ∧
      (s.beginRepetition h r p).tickets = s.tickets ∧ (s.beginRepetition h r p).choice = s.choice ∧
      (s.beginRepetition h r p).pending = s.pending ∧ (s.beginRepetition h r p).link.down = s.link.down ∧
      (s.beginRepetition h r p).link.up = s.link.up ∧ (s.beginRepetition h r p).link.portU = s.link.portU := by
  simp [State.beginRepetition]

@[simp] theorem State.beginStep_keeps (s : State) (h i p : Nat) :
    (s.beginStep h i p).phase = s.phase ∧ (s.beginStep h i p).now = s.now ∧ (s.beginStep h i p).minute = s.minute ∧
      (s.beginStep h i p).nextFlap = s.nextFlap ∧ (s.beginStep h i p).nextMinute = s.nextMinute ∧
      (s.beginStep h i p).hourDue = s.hourDue ∧ (s.beginStep h i p).lines = s.lines ∧
      (s.beginStep h i p).audits = s.audits ∧ (s.beginStep h i p).desk = s.desk ∧
      (s.beginStep h i p).params = s.params ∧ (s.beginStep h i p).hold = s.hold ∧
      (s.beginStep h i p).flushes = s.flushes ∧ (s.beginStep h i p).buses = s.buses ∧
      (s.beginStep h i p).steps = s.steps ∧ (s.beginStep h i p).plans = s.plans ∧ (s.beginStep h i p).cal = s.cal ∧
      (s.beginStep h i p).limits = s.limits ∧ (s.beginStep h i p).sweep = s.sweep ∧
      (s.beginStep h i p).tickets = s.tickets ∧ (s.beginStep h i p).choice = s.choice ∧
      (s.beginStep h i p).pending = s.pending ∧ (s.beginStep h i p).link.down = s.link.down ∧
      (s.beginStep h i p).link.up = s.link.up ∧ (s.beginStep h i p).link.portU = s.link.portU := by
  dsimp only [State.beginStep]
  (repeat' split) <;> simp

@[simp] theorem State.stepNotice_keeps (s : State) (h : Nat) (t : TestRec) (p : Nat) (r : StepResult) :
    (s.stepNotice h t p r).phase = s.phase ∧ (s.stepNotice h t p r).now = s.now ∧
      (s.stepNotice h t p r).minute = s.minute ∧ (s.stepNotice h t p r).nextFlap = s.nextFlap ∧
      (s.stepNotice h t p r).nextMinute = s.nextMinute ∧ (s.stepNotice h t p r).hourDue = s.hourDue ∧
      (s.stepNotice h t p r).lines = s.lines ∧ (s.stepNotice h t p r).audits = s.audits ∧
      (s.stepNotice h t p r).params = s.params ∧ (s.stepNotice h t p r).hold = s.hold ∧
      (s.stepNotice h t p r).flushes = s.flushes ∧ (s.stepNotice h t p r).buses = s.buses ∧
      (s.stepNotice h t p r).steps = s.steps ∧ (s.stepNotice h t p r).plans = s.plans ∧
      (s.stepNotice h t p r).chans = s.chans ∧ (s.stepNotice h t p r).cal = s.cal ∧
      (s.stepNotice h t p r).limits = s.limits ∧ (s.stepNotice h t p r).sweep = s.sweep ∧
      (s.stepNotice h t p r).tickets = s.tickets ∧ (s.stepNotice h t p r).choice = s.choice ∧
      (s.stepNotice h t p r).pending = s.pending ∧ (s.stepNotice h t p r).link.down = s.link.down ∧
      (s.stepNotice h t p r).link.up = s.link.up ∧ (s.stepNotice h t p r).link.sOwn = s.link.sOwn ∧
      (s.stepNotice h t p r).link.offers = s.link.offers ∧ (s.stepNotice h t p r).link.serial = s.link.serial ∧
      (s.stepNotice h t p r).link.portS = s.link.portS ∧ (s.stepNotice h t p r).desk.commands = s.desk.commands ∧
      (s.stepNotice h t p r).desk.reservations = s.desk.reservations := by
  simp [State.stepNotice]

@[simp] theorem State.resultTickets_keeps (s : State) (t : TestRec) (r : StepRec) (x : StepResult) :
    (s.resultTickets t r x).phase = s.phase ∧ (s.resultTickets t r x).now = s.now ∧
      (s.resultTickets t r x).minute = s.minute ∧ (s.resultTickets t r x).nextFlap = s.nextFlap ∧
      (s.resultTickets t r x).nextMinute = s.nextMinute ∧ (s.resultTickets t r x).hourDue = s.hourDue ∧
      (s.resultTickets t r x).audits = s.audits ∧ (s.resultTickets t r x).params = s.params ∧
      (s.resultTickets t r x).hold = s.hold ∧ (s.resultTickets t r x).flushes = s.flushes ∧
      (s.resultTickets t r x).buses = s.buses ∧ (s.resultTickets t r x).steps = s.steps ∧
      (s.resultTickets t r x).plans = s.plans ∧ (s.resultTickets t r x).chans = s.chans ∧
      (s.resultTickets t r x).cal = s.cal ∧ (s.resultTickets t r x).limits = s.limits ∧
      (s.resultTickets t r x).sweep = s.sweep ∧ (s.resultTickets t r x).choice = s.choice ∧
      (s.resultTickets t r x).pending = s.pending ∧ (s.resultTickets t r x).link.down = s.link.down ∧
      (s.resultTickets t r x).link.up = s.link.up ∧ (s.resultTickets t r x).link.sOwn = s.link.sOwn ∧
      (s.resultTickets t r x).link.offers = s.link.offers ∧ (s.resultTickets t r x).link.serial = s.link.serial ∧
      (s.resultTickets t r x).link.portS = s.link.portS ∧ (s.resultTickets t r x).desk.commands = s.desk.commands ∧
      (s.resultTickets t r x).desk.reservations = s.desk.reservations := by
  dsimp only [State.resultTickets]
  (repeat' split) <;> simp

@[simp] theorem State.formResult_keeps (s : State) (h : Nat) (t : TestRec) (r : StepRec) (p : Progress) (x : StepResult) :
    (s.formResult h t r p x).phase = s.phase ∧ (s.formResult h t r p x).now = s.now ∧
      (s.formResult h t r p x).minute = s.minute ∧ (s.formResult h t r p x).nextFlap = s.nextFlap ∧
      (s.formResult h t r p x).nextMinute = s.nextMinute ∧ (s.formResult h t r p x).hourDue = s.hourDue ∧
      (s.formResult h t r p x).audits = s.audits ∧ (s.formResult h t r p x).params = s.params ∧
      (s.formResult h t r p x).hold = s.hold ∧ (s.formResult h t r p x).flushes = s.flushes ∧
      (s.formResult h t r p x).steps = s.steps ∧ (s.formResult h t r p x).plans = s.plans ∧
      (s.formResult h t r p x).cal = s.cal ∧ (s.formResult h t r p x).limits = s.limits ∧
      (s.formResult h t r p x).sweep = s.sweep ∧ (s.formResult h t r p x).choice = s.choice ∧
      (s.formResult h t r p x).pending = s.pending ∧ (s.formResult h t r p x).link.down = s.link.down ∧
      (s.formResult h t r p x).link.up = s.link.up ∧ (s.formResult h t r p x).desk.commands = s.desk.commands ∧
      (s.formResult h t r p x).desk.reservations = s.desk.reservations := by
  dsimp only [State.formResult]
  (repeat' split) <;> simp

@[simp] theorem State.evaluate_keeps (s : State) (h : Nat) (t : TestRec) (r : StepRec) (p : Progress) (w : Window) :
    (s.evaluate h t r p w).phase = s.phase ∧ (s.evaluate h t r p w).now = s.now ∧
      (s.evaluate h t r p w).minute = s.minute ∧ (s.evaluate h t r p w).nextFlap = s.nextFlap ∧
      (s.evaluate h t r p w).nextMinute = s.nextMinute ∧ (s.evaluate h t r p w).hourDue = s.hourDue ∧
      (s.evaluate h t r p w).audits = s.audits ∧ (s.evaluate h t r p w).params = s.params ∧
      (s.evaluate h t r p w).hold = s.hold ∧ (s.evaluate h t r p w).flushes = s.flushes ∧
      (s.evaluate h t r p w).steps = s.steps ∧ (s.evaluate h t r p w).plans = s.plans ∧
      (s.evaluate h t r p w).limits = s.limits ∧ (s.evaluate h t r p w).sweep = s.sweep ∧
      (s.evaluate h t r p w).choice = s.choice ∧ (s.evaluate h t r p w).pending = s.pending ∧
      (s.evaluate h t r p w).link.down = s.link.down ∧ (s.evaluate h t r p w).link.up = s.link.up ∧
      (s.evaluate h t r p w).desk.commands = s.desk.commands ∧
      (s.evaluate h t r p w).desk.reservations = s.desk.reservations := by
  dsimp only [State.evaluate]
  (repeat' split) <;> simp

@[simp] theorem State.windowDone_keeps (s : State) (h : Nat) (w : Window) :
    (s.windowDone h w).phase = s.phase ∧ (s.windowDone h w).now = s.now ∧ (s.windowDone h w).minute = s.minute ∧
      (s.windowDone h w).nextFlap = s.nextFlap ∧ (s.windowDone h w).nextMinute = s.nextMinute ∧
      (s.windowDone h w).hourDue = s.hourDue ∧ (s.windowDone h w).audits = s.audits ∧
      (s.windowDone h w).params = s.params ∧ (s.windowDone h w).hold = s.hold ∧ (s.windowDone h w).flushes = s.flushes ∧
      (s.windowDone h w).steps = s.steps ∧ (s.windowDone h w).plans = s.plans ∧ (s.windowDone h w).limits = s.limits ∧
      (s.windowDone h w).sweep = s.sweep ∧ (s.windowDone h w).choice = s.choice ∧
      (s.windowDone h w).pending = s.pending ∧ (s.windowDone h w).link.down = s.link.down ∧
      (s.windowDone h w).link.up = s.link.up ∧ (s.windowDone h w).desk.commands = s.desk.commands ∧
      (s.windowDone h w).desk.reservations = s.desk.reservations := by
  dsimp only [State.windowDone]
  (repeat' split) <;> simp

end Sys2Proof.Machine
end

