-- ==== Sys2Proof/Laws/Intake.lean ====
section
/-! SUPPORT. What Sample Intake and the relay events leave. -/

namespace Sys2Proof.Machine

@[simp] theorem State.settleBlock_keeps (s : State) (h : Nat) (w : Work) (p : List (Int × Int)) :
    (s.settleBlock h w p).phase = s.phase ∧ (s.settleBlock h w p).now = s.now ∧
      (s.settleBlock h w p).minute = s.minute ∧ (s.settleBlock h w p).nextFlap = s.nextFlap ∧
      (s.settleBlock h w p).nextMinute = s.nextMinute ∧ (s.settleBlock h w p).hourDue = s.hourDue ∧
      (s.settleBlock h w p).audits = s.audits ∧ (s.settleBlock h w p).params = s.params ∧
      (s.settleBlock h w p).hold = s.hold ∧ (s.settleBlock h w p).flushes = s.flushes ∧
      (s.settleBlock h w p).buses = s.buses ∧ (s.settleBlock h w p).steps = s.steps ∧
      (s.settleBlock h w p).plans = s.plans ∧ (s.settleBlock h w p).cal = s.cal ∧
      (s.settleBlock h w p).limits = s.limits ∧ (s.settleBlock h w p).choice = s.choice ∧
      (s.settleBlock h w p).pending = s.pending ∧ (s.settleBlock h w p).link.down = s.link.down ∧
      (s.settleBlock h w p).link.up = s.link.up ∧ (s.settleBlock h w p).desk.commands = s.desk.commands := by
  dsimp only [State.settleBlock]
  (repeat' split) <;> simp

@[simp] theorem State.loss_keeps (s : State) (h : Nat) (w : Work) (p : List (Int × Int)) :
    (s.loss h w p).phase = s.phase ∧ (s.loss h w p).now = s.now ∧ (s.loss h w p).minute = s.minute ∧
      (s.loss h w p).nextFlap = s.nextFlap ∧ (s.loss h w p).nextMinute = s.nextMinute ∧
      (s.loss h w p).hourDue = s.hourDue ∧ (s.loss h w p).audits = s.audits ∧ (s.loss h w p).params = s.params ∧
      (s.loss h w p).hold = s.hold ∧ (s.loss h w p).flushes = s.flushes ∧ (s.loss h w p).steps = s.steps ∧
      (s.loss h w p).plans = s.plans ∧ (s.loss h w p).cal = s.cal ∧ (s.loss h w p).limits = s.limits ∧
      (s.loss h w p).choice = s.choice ∧ (s.loss h w p).pending = s.pending ∧ (s.loss h w p).link.down = s.link.down ∧
      (s.loss h w p).link.up = s.link.up ∧ (s.loss h w p).desk.commands = s.desk.commands := by
  dsimp only [State.loss]
  (repeat' split) <;> simp

@[simp] theorem State.accumulate_keeps (s : State) (h : Nat) (w : Work) (t : Int) (p : List (Int × Int)) :
    (s.accumulate h w t p).phase = s.phase ∧ (s.accumulate h w t p).now = s.now ∧
      (s.accumulate h w t p).minute = s.minute ∧ (s.accumulate h w t p).nextFlap = s.nextFlap ∧
      (s.accumulate h w t p).nextMinute = s.nextMinute ∧ (s.accumulate h w t p).hourDue = s.hourDue ∧
      (s.accumulate h w t p).audits = s.audits ∧ (s.accumulate h w t p).params = s.params ∧
      (s.accumulate h w t p).hold = s.hold ∧ (s.accumulate h w t p).flushes = s.flushes ∧
      (s.accumulate h w t p).steps = s.steps ∧ (s.accumulate h w t p).plans = s.plans ∧
      (s.accumulate h w t p).limits = s.limits ∧ (s.accumulate h w t p).choice = s.choice ∧
      (s.accumulate h w t p).pending = s.pending ∧ (s.accumulate h w t p).link.down = s.link.down ∧
      (s.accumulate h w t p).link.up = s.link.up ∧ (s.accumulate h w t p).desk.commands = s.desk.commands := by
  dsimp only [State.accumulate]
  (repeat' split) <;> simp

@[simp] theorem State.actOnFrame_keeps (s : State) (h : Nat) (c : FrameClass) (t : Int) (p : List (Int × Int)) :
    (s.actOnFrame h c t p).phase = s.phase ∧ (s.actOnFrame h c t p).now = s.now ∧
      (s.actOnFrame h c t p).minute = s.minute ∧ (s.actOnFrame h c t p).nextFlap = s.nextFlap ∧
      (s.actOnFrame h c t p).nextMinute = s.nextMinute ∧ (s.actOnFrame h c t p).hourDue = s.hourDue ∧
      (s.actOnFrame h c t p).audits = s.audits ∧ (s.actOnFrame h c t p).params = s.params ∧
      (s.actOnFrame h c t p).hold = s.hold ∧ (s.actOnFrame h c t p).flushes = s.flushes ∧
      (s.actOnFrame h c t p).steps = s.steps ∧ (s.actOnFrame h c t p).plans = s.plans ∧
      (s.actOnFrame h c t p).limits = s.limits ∧ (s.actOnFrame h c t p).choice = s.choice ∧
      (s.actOnFrame h c t p).pending = s.pending ∧ (s.actOnFrame h c t p).link.down = s.link.down ∧
      (s.actOnFrame h c t p).link.up = s.link.up ∧ (s.actOnFrame h c t p).desk.commands = s.desk.commands := by
  dsimp only [State.actOnFrame]
  (repeat' split) <;> simp

@[simp] theorem State.handleSample_keeps (s : State) (h : Nat) (x : Sample) :
    (s.handleSample h x).phase = s.phase ∧ (s.handleSample h x).now = s.now ∧ (s.handleSample h x).minute = s.minute ∧
      (s.handleSample h x).nextFlap = s.nextFlap ∧ (s.handleSample h x).nextMinute = s.nextMinute ∧
      (s.handleSample h x).hourDue = s.hourDue ∧ (s.handleSample h x).audits = s.audits ∧
      (s.handleSample h x).params = s.params ∧ (s.handleSample h x).hold = s.hold ∧
      (s.handleSample h x).flushes = s.flushes ∧ (s.handleSample h x).steps = s.steps ∧
      (s.handleSample h x).plans = s.plans ∧ (s.handleSample h x).limits = s.limits ∧
      (s.handleSample h x).choice = s.choice ∧ (s.handleSample h x).pending = s.pending ∧
      (s.handleSample h x).link.down = s.link.down ∧ (s.handleSample h x).link.up = s.link.up ∧
      (s.handleSample h x).desk.commands = s.desk.commands := by
  dsimp only [State.handleSample]
  (repeat' split) <;> simp

@[simp] theorem State.takeSample_keeps (s : State) (x : Sample) :
    (s.takeSample x).phase = s.phase ∧ (s.takeSample x).now = s.now ∧ (s.takeSample x).minute = s.minute ∧
      (s.takeSample x).nextFlap = s.nextFlap ∧ (s.takeSample x).nextMinute = s.nextMinute ∧
      (s.takeSample x).hourDue = s.hourDue ∧ (s.takeSample x).audits = s.audits ∧ (s.takeSample x).params = s.params ∧
      (s.takeSample x).hold = s.hold ∧ (s.takeSample x).flushes = s.flushes ∧ (s.takeSample x).steps = s.steps ∧
      (s.takeSample x).plans = s.plans ∧ (s.takeSample x).limits = s.limits ∧ (s.takeSample x).choice = s.choice ∧
      (s.takeSample x).pending = s.pending ∧ (s.takeSample x).link.down = s.link.down ∧
      (s.takeSample x).link.up = s.link.up ∧ (s.takeSample x).desk.commands = s.desk.commands := by
  dsimp only [State.takeSample]
  (repeat' split) <;> simp

@[simp] theorem State.headSilent_keeps (s : State) (h : Nat) :
    (s.headSilent h).phase = s.phase ∧ (s.headSilent h).now = s.now ∧ (s.headSilent h).minute = s.minute ∧
      (s.headSilent h).nextFlap = s.nextFlap ∧ (s.headSilent h).nextMinute = s.nextMinute ∧
      (s.headSilent h).hourDue = s.hourDue ∧ (s.headSilent h).audits = s.audits ∧ (s.headSilent h).params = s.params ∧
      (s.headSilent h).hold = s.hold ∧ (s.headSilent h).flushes = s.flushes ∧ (s.headSilent h).steps = s.steps ∧
      (s.headSilent h).plans = s.plans ∧ (s.headSilent h).cal = s.cal ∧ (s.headSilent h).limits = s.limits ∧
      (s.headSilent h).choice = s.choice ∧ (s.headSilent h).pending = s.pending ∧
      (s.headSilent h).link.down = s.link.down ∧ (s.headSilent h).link.up = s.link.up ∧
      (s.headSilent h).desk.commands = s.desk.commands := by
  dsimp only [State.headSilent]
  (repeat' split) <;> simp

@[simp] theorem State.confirmTap_keeps (s : State) (h b l : Nat) :
    (s.confirmTap h b l).phase = s.phase ∧ (s.confirmTap h b l).now = s.now ∧ (s.confirmTap h b l).minute = s.minute ∧
      (s.confirmTap h b l).nextFlap = s.nextFlap ∧ (s.confirmTap h b l).nextMinute = s.nextMinute ∧
      (s.confirmTap h b l).hourDue = s.hourDue ∧ (s.confirmTap h b l).audits = s.audits ∧
      (s.confirmTap h b l).desk = s.desk ∧ (s.confirmTap h b l).params = s.params ∧ (s.confirmTap h b l).hold = s.hold ∧
      (s.confirmTap h b l).flushes = s.flushes ∧ (s.confirmTap h b l).steps = s.steps ∧
      (s.confirmTap h b l).plans = s.plans ∧ (s.confirmTap h b l).cal = s.cal ∧ (s.confirmTap h b l).limits = s.limits ∧
      (s.confirmTap h b l).sweep = s.sweep ∧ (s.confirmTap h b l).tickets = s.tickets ∧
      (s.confirmTap h b l).choice = s.choice ∧ (s.confirmTap h b l).pending = s.pending ∧
      (s.confirmTap h b l).link.down = s.link.down ∧ (s.confirmTap h b l).link.up = s.link.up := by
  dsimp only [State.confirmTap]
  (repeat' split) <;> simp

@[simp] theorem State.strayMake_keeps (s : State) (b l : Nat) :
    (s.strayMake b l).phase = s.phase ∧ (s.strayMake b l).now = s.now ∧ (s.strayMake b l).minute = s.minute ∧
      (s.strayMake b l).nextFlap = s.nextFlap ∧ (s.strayMake b l).nextMinute = s.nextMinute ∧
      (s.strayMake b l).hourDue = s.hourDue ∧ (s.strayMake b l).audits = s.audits ∧
      (s.strayMake b l).params = s.params ∧ (s.strayMake b l).hold = s.hold ∧ (s.strayMake b l).flushes = s.flushes ∧
      (s.strayMake b l).steps = s.steps ∧ (s.strayMake b l).plans = s.plans ∧ (s.strayMake b l).chans = s.chans ∧
      (s.strayMake b l).cal = s.cal ∧ (s.strayMake b l).limits = s.limits ∧ (s.strayMake b l).sweep = s.sweep ∧
      (s.strayMake b l).choice = s.choice ∧ (s.strayMake b l).pending = s.pending ∧
      (s.strayMake b l).link.down = s.link.down ∧ (s.strayMake b l).link.up = s.link.up ∧
      (s.strayMake b l).desk.commands = s.desk.commands ∧ (s.strayMake b l).desk.reservations = s.desk.reservations := by
  simp [State.strayMake]

@[simp] theorem State.tapMade_keeps (s : State) (l b : Nat) :
    (s.tapMade l b).phase = s.phase ∧ (s.tapMade l b).now = s.now ∧ (s.tapMade l b).minute = s.minute ∧
      (s.tapMade l b).nextFlap = s.nextFlap ∧ (s.tapMade l b).nextMinute = s.nextMinute ∧
      (s.tapMade l b).hourDue = s.hourDue ∧ (s.tapMade l b).audits = s.audits ∧ (s.tapMade l b).params = s.params ∧
      (s.tapMade l b).hold = s.hold ∧ (s.tapMade l b).flushes = s.flushes ∧ (s.tapMade l b).steps = s.steps ∧
      (s.tapMade l b).plans = s.plans ∧ (s.tapMade l b).cal = s.cal ∧ (s.tapMade l b).limits = s.limits ∧
      (s.tapMade l b).sweep = s.sweep ∧ (s.tapMade l b).choice = s.choice ∧ (s.tapMade l b).pending = s.pending ∧
      (s.tapMade l b).link.down = s.link.down ∧ (s.tapMade l b).link.up = s.link.up ∧
      (s.tapMade l b).desk.commands = s.desk.commands ∧ (s.tapMade l b).desk.reservations = s.desk.reservations := by
  dsimp only [State.tapMade]
  (repeat' split) <;> simp

@[simp] theorem State.relayDrop_keeps (s : State) (h b l : Nat) :
    (s.relayDrop h b l).phase = s.phase ∧ (s.relayDrop h b l).now = s.now ∧ (s.relayDrop h b l).minute = s.minute ∧
      (s.relayDrop h b l).nextFlap = s.nextFlap ∧ (s.relayDrop h b l).nextMinute = s.nextMinute ∧
      (s.relayDrop h b l).hourDue = s.hourDue ∧ (s.relayDrop h b l).audits = s.audits ∧
      (s.relayDrop h b l).params = s.params ∧ (s.relayDrop h b l).hold = s.hold ∧
      (s.relayDrop h b l).flushes = s.flushes ∧ (s.relayDrop h b l).steps = s.steps ∧
      (s.relayDrop h b l).plans = s.plans ∧ (s.relayDrop h b l).cal = s.cal ∧ (s.relayDrop h b l).limits = s.limits ∧
      (s.relayDrop h b l).sweep = s.sweep ∧ (s.relayDrop h b l).choice = s.choice ∧
      (s.relayDrop h b l).pending = s.pending ∧ (s.relayDrop h b l).link.down = s.link.down ∧
      (s.relayDrop h b l).link.up = s.link.up ∧ (s.relayDrop h b l).desk.commands = s.desk.commands ∧
      (s.relayDrop h b l).desk.reservations = s.desk.reservations := by
  simp [State.relayDrop]

@[simp] theorem State.completeRestartRelease_keeps (s : State) (b l : Nat) :
    (s.completeRestartRelease b l).phase = s.phase ∧ (s.completeRestartRelease b l).now = s.now ∧
      (s.completeRestartRelease b l).minute = s.minute ∧ (s.completeRestartRelease b l).nextFlap = s.nextFlap ∧
      (s.completeRestartRelease b l).nextMinute = s.nextMinute ∧ (s.completeRestartRelease b l).hourDue = s.hourDue ∧
      (s.completeRestartRelease b l).audits = s.audits ∧ (s.completeRestartRelease b l).desk = s.desk ∧
      (s.completeRestartRelease b l).params = s.params ∧ (s.completeRestartRelease b l).steps = s.steps ∧
      (s.completeRestartRelease b l).plans = s.plans ∧ (s.completeRestartRelease b l).chans = s.chans ∧
      (s.completeRestartRelease b l).cal = s.cal ∧ (s.completeRestartRelease b l).limits = s.limits ∧
      (s.completeRestartRelease b l).tickets = s.tickets ∧ (s.completeRestartRelease b l).choice = s.choice ∧
      (s.completeRestartRelease b l).pending = s.pending ∧ (s.completeRestartRelease b l).link.down = s.link.down ∧
      (s.completeRestartRelease b l).link.up = s.link.up := by
  simp [State.completeRestartRelease]

@[simp] theorem State.strayBroken_keeps (s : State) (l b : Nat) :
    (s.strayBroken l b).phase = s.phase ∧ (s.strayBroken l b).now = s.now ∧ (s.strayBroken l b).minute = s.minute ∧
      (s.strayBroken l b).nextFlap = s.nextFlap ∧ (s.strayBroken l b).nextMinute = s.nextMinute ∧
      (s.strayBroken l b).hourDue = s.hourDue ∧ (s.strayBroken l b).lines = s.lines ∧
      (s.strayBroken l b).audits = s.audits ∧ (s.strayBroken l b).link = s.link ∧ (s.strayBroken l b).desk = s.desk ∧
      (s.strayBroken l b).params = s.params ∧ (s.strayBroken l b).hold = s.hold ∧
      (s.strayBroken l b).flushes = s.flushes ∧ (s.strayBroken l b).steps = s.steps ∧
      (s.strayBroken l b).plans = s.plans ∧ (s.strayBroken l b).chans = s.chans ∧ (s.strayBroken l b).cal = s.cal ∧
      (s.strayBroken l b).limits = s.limits ∧ (s.strayBroken l b).sweep = s.sweep ∧
      (s.strayBroken l b).tickets = s.tickets ∧ (s.strayBroken l b).choice = s.choice ∧
      (s.strayBroken l b).pending = s.pending := by
  dsimp only [State.strayBroken]
  (repeat' split) <;> simp

@[simp] theorem State.tapBroken_keeps (s : State) (l b : Nat) :
    (s.tapBroken l b).phase = s.phase ∧ (s.tapBroken l b).now = s.now ∧ (s.tapBroken l b).minute = s.minute ∧
      (s.tapBroken l b).nextFlap = s.nextFlap ∧ (s.tapBroken l b).nextMinute = s.nextMinute ∧
      (s.tapBroken l b).hourDue = s.hourDue ∧ (s.tapBroken l b).audits = s.audits ∧
      (s.tapBroken l b).params = s.params ∧ (s.tapBroken l b).steps = s.steps ∧ (s.tapBroken l b).plans = s.plans ∧
      (s.tapBroken l b).cal = s.cal ∧ (s.tapBroken l b).limits = s.limits ∧ (s.tapBroken l b).pending = s.pending ∧
      (s.tapBroken l b).link.down = s.link.down ∧ (s.tapBroken l b).link.up = s.link.up ∧
      (s.tapBroken l b).desk.commands = s.desk.commands := by
  dsimp only [State.tapBroken]
  (repeat' split) <;> simp

@[simp] theorem State.noMake_keeps (s : State) (h l : Nat) :
    (s.noMake h l).phase = s.phase ∧ (s.noMake h l).now = s.now ∧ (s.noMake h l).minute = s.minute ∧
      (s.noMake h l).nextFlap = s.nextFlap ∧ (s.noMake h l).nextMinute = s.nextMinute ∧
      (s.noMake h l).hourDue = s.hourDue ∧ (s.noMake h l).audits = s.audits ∧ (s.noMake h l).params = s.params ∧
      (s.noMake h l).hold = s.hold ∧ (s.noMake h l).flushes = s.flushes ∧ (s.noMake h l).steps = s.steps ∧
      (s.noMake h l).plans = s.plans ∧ (s.noMake h l).cal = s.cal ∧ (s.noMake h l).limits = s.limits ∧
      (s.noMake h l).sweep = s.sweep ∧ (s.noMake h l).choice = s.choice ∧ (s.noMake h l).pending = s.pending ∧
      (s.noMake h l).link.down = s.link.down ∧ (s.noMake h l).link.up = s.link.up ∧
      (s.noMake h l).desk.commands = s.desk.commands ∧ (s.noMake h l).desk.reservations = s.desk.reservations := by
  simp [State.noMake]

@[simp] theorem State.strayTimeout_keeps (s : State) (b l : Nat) :
    (s.strayTimeout b l).phase = s.phase ∧ (s.strayTimeout b l).now = s.now ∧ (s.strayTimeout b l).minute = s.minute ∧
      (s.strayTimeout b l).nextFlap = s.nextFlap ∧ (s.strayTimeout b l).nextMinute = s.nextMinute ∧
      (s.strayTimeout b l).hourDue = s.hourDue ∧ (s.strayTimeout b l).audits = s.audits ∧
      (s.strayTimeout b l).params = s.params ∧ (s.strayTimeout b l).hold = s.hold ∧
      (s.strayTimeout b l).flushes = s.flushes ∧ (s.strayTimeout b l).steps = s.steps ∧
      (s.strayTimeout b l).plans = s.plans ∧ (s.strayTimeout b l).chans = s.chans ∧ (s.strayTimeout b l).cal = s.cal ∧
      (s.strayTimeout b l).limits = s.limits ∧ (s.strayTimeout b l).sweep = s.sweep ∧
      (s.strayTimeout b l).choice = s.choice ∧ (s.strayTimeout b l).pending = s.pending ∧
      (s.strayTimeout b l).link.down = s.link.down ∧ (s.strayTimeout b l).link.up = s.link.up ∧
      (s.strayTimeout b l).desk.commands = s.desk.commands ∧
      (s.strayTimeout b l).desk.reservations = s.desk.reservations := by
  simp [State.strayTimeout]

@[simp] theorem State.lockoutOver_keeps (s : State) (b : Nat) :
    (s.lockoutOver b).phase = s.phase ∧ (s.lockoutOver b).now = s.now ∧ (s.lockoutOver b).minute = s.minute ∧
      (s.lockoutOver b).nextFlap = s.nextFlap ∧ (s.lockoutOver b).nextMinute = s.nextMinute ∧
      (s.lockoutOver b).hourDue = s.hourDue ∧ (s.lockoutOver b).lines = s.lines ∧ (s.lockoutOver b).audits = s.audits ∧
      (s.lockoutOver b).link = s.link ∧ (s.lockoutOver b).desk = s.desk ∧ (s.lockoutOver b).params = s.params ∧
      (s.lockoutOver b).hold = s.hold ∧ (s.lockoutOver b).flushes = s.flushes ∧ (s.lockoutOver b).steps = s.steps ∧
      (s.lockoutOver b).plans = s.plans ∧ (s.lockoutOver b).chans = s.chans ∧ (s.lockoutOver b).cal = s.cal ∧
      (s.lockoutOver b).limits = s.limits ∧ (s.lockoutOver b).tickets = s.tickets ∧
      (s.lockoutOver b).choice = s.choice ∧ (s.lockoutOver b).pending = s.pending := by
  simp [State.lockoutOver]

end Sys2Proof.Machine
end

