-- ==== Sys2Proof/Laws/Reads.lean ====
section
/-! SUPPORT. Reading one record after an operation that keeps its store. -/

namespace Sys2Proof.Machine

@[simp] theorem State.setAccess_audit (s : State) (l : Nat) (a : Access) (num : Nat) :
    (s.setAccess l a).audit num = s.audit num := by
  simp [State.audit]
@[simp] theorem State.setAccess_bus (s : State) (l : Nat) (a : Access) (num : Nat) :
    (s.setAccess l a).bus num = s.bus num := by
  simp [State.bus]
@[simp] theorem State.setAccess_chan (s : State) (l : Nat) (a : Access) (num : Nat) :
    (s.setAccess l a).chan num = s.chan num := by
  simp [State.chan]
@[simp] theorem State.setAccess_stepRec (s : State) (l : Nat) (a : Access) (num : Nat) :
    (s.setAccess l a).stepRec num = s.stepRec num := by
  simp [State.stepRec]
@[simp] theorem State.setAccess_plan (s : State) (l : Nat) (a : Access) (num : Nat) :
    (s.setAccess l a).plan num = s.plan num := by
  simp [State.plan]
@[simp] theorem State.setAccess_headCal (s : State) (l : Nat) (a : Access) (num : Nat) :
    (s.setAccess l a).headCal num = s.headCal num := by
  simp [State.headCal]
@[simp] theorem State.setCondition_audit (s : State) (l : Nat) (c : Condition) (num : Nat) :
    (s.setCondition l c).audit num = s.audit num := by
  simp [State.audit]
@[simp] theorem State.setCondition_bus (s : State) (l : Nat) (c : Condition) (num : Nat) :
    (s.setCondition l c).bus num = s.bus num := by
  simp [State.bus]
@[simp] theorem State.setCondition_chan (s : State) (l : Nat) (c : Condition) (num : Nat) :
    (s.setCondition l c).chan num = s.chan num := by
  simp [State.chan]
@[simp] theorem State.setCondition_stepRec (s : State) (l : Nat) (c : Condition) (num : Nat) :
    (s.setCondition l c).stepRec num = s.stepRec num := by
  simp [State.stepRec]
@[simp] theorem State.setCondition_plan (s : State) (l : Nat) (c : Condition) (num : Nat) :
    (s.setCondition l c).plan num = s.plan num := by
  simp [State.plan]
@[simp] theorem State.setCondition_headCal (s : State) (l : Nat) (c : Condition) (num : Nat) :
    (s.setCondition l c).headCal num = s.headCal num := by
  simp [State.headCal]
@[simp] theorem State.fillS_line (s : State) (num : Nat) : (s.fillS).line num = s.line num := by
  simp [State.line]
@[simp] theorem State.fillS_audit (s : State) (num : Nat) : (s.fillS).audit num = s.audit num := by
  simp [State.audit]
@[simp] theorem State.fillS_bus (s : State) (num : Nat) : (s.fillS).bus num = s.bus num := by
  simp [State.bus]
@[simp] theorem State.fillS_chan (s : State) (num : Nat) : (s.fillS).chan num = s.chan num := by
  simp [State.chan]
@[simp] theorem State.fillS_stepRec (s : State) (num : Nat) : (s.fillS).stepRec num = s.stepRec num := by
  simp [State.stepRec]
@[simp] theorem State.fillS_plan (s : State) (num : Nat) : (s.fillS).plan num = s.plan num := by
  simp [State.plan]
@[simp] theorem State.fillS_headCal (s : State) (num : Nat) : (s.fillS).headCal num = s.headCal num := by
  simp [State.headCal]
@[simp] theorem State.fillU_line (s : State) (num : Nat) : (s.fillU).line num = s.line num := by
  simp [State.line]
@[simp] theorem State.fillU_audit (s : State) (num : Nat) : (s.fillU).audit num = s.audit num := by
  simp [State.audit]
@[simp] theorem State.fillU_bus (s : State) (num : Nat) : (s.fillU).bus num = s.bus num := by
  simp [State.bus]
@[simp] theorem State.fillU_chan (s : State) (num : Nat) : (s.fillU).chan num = s.chan num := by
  simp [State.chan]
@[simp] theorem State.fillU_stepRec (s : State) (num : Nat) : (s.fillU).stepRec num = s.stepRec num := by
  simp [State.stepRec]
@[simp] theorem State.fillU_plan (s : State) (num : Nat) : (s.fillU).plan num = s.plan num := by
  simp [State.plan]
@[simp] theorem State.fillU_headCal (s : State) (num : Nat) : (s.fillU).headCal num = s.headCal num := by
  simp [State.headCal]
@[simp] theorem State.enterDown_line (s : State) (f : Bytes) (num : Nat) : (s.enterDown f).line num = s.line num := by
  simp [State.line]
@[simp] theorem State.enterDown_audit (s : State) (f : Bytes) (num : Nat) :
    (s.enterDown f).audit num = s.audit num := by
  simp [State.audit]
@[simp] theorem State.enterDown_bus (s : State) (f : Bytes) (num : Nat) : (s.enterDown f).bus num = s.bus num := by
  simp [State.bus]
@[simp] theorem State.enterDown_chan (s : State) (f : Bytes) (num : Nat) : (s.enterDown f).chan num = s.chan num := by
  simp [State.chan]
@[simp] theorem State.enterDown_stepRec (s : State) (f : Bytes) (num : Nat) :
    (s.enterDown f).stepRec num = s.stepRec num := by
  simp [State.stepRec]
@[simp] theorem State.enterDown_plan (s : State) (f : Bytes) (num : Nat) : (s.enterDown f).plan num = s.plan num := by
  simp [State.plan]
@[simp] theorem State.enterDown_headCal (s : State) (f : Bytes) (num : Nat) :
    (s.enterDown f).headCal num = s.headCal num := by
  simp [State.headCal]
@[simp] theorem State.enterUp_line (s : State) (f : Bytes) (num : Nat) : (s.enterUp f).line num = s.line num := by
  simp [State.line]
@[simp] theorem State.enterUp_audit (s : State) (f : Bytes) (num : Nat) : (s.enterUp f).audit num = s.audit num := by
  simp [State.audit]
@[simp] theorem State.enterUp_bus (s : State) (f : Bytes) (num : Nat) : (s.enterUp f).bus num = s.bus num := by
  simp [State.bus]
@[simp] theorem State.enterUp_chan (s : State) (f : Bytes) (num : Nat) : (s.enterUp f).chan num = s.chan num := by
  simp [State.chan]
@[simp] theorem State.enterUp_stepRec (s : State) (f : Bytes) (num : Nat) :
    (s.enterUp f).stepRec num = s.stepRec num := by
  simp [State.stepRec]
@[simp] theorem State.enterUp_plan (s : State) (f : Bytes) (num : Nat) : (s.enterUp f).plan num = s.plan num := by
  simp [State.plan]
@[simp] theorem State.enterUp_headCal (s : State) (f : Bytes) (num : Nat) :
    (s.enterUp f).headCal num = s.headCal num := by
  simp [State.headCal]
@[simp] theorem State.enterSOwn_line (s : State) (f : OwnFrame) (num : Nat) :
    (s.enterSOwn f).line num = s.line num := by
  simp [State.line]
@[simp] theorem State.enterSOwn_audit (s : State) (f : OwnFrame) (num : Nat) :
    (s.enterSOwn f).audit num = s.audit num := by
  simp [State.audit]
@[simp] theorem State.enterSOwn_bus (s : State) (f : OwnFrame) (num : Nat) : (s.enterSOwn f).bus num = s.bus num := by
  simp [State.bus]
@[simp] theorem State.enterSOwn_chan (s : State) (f : OwnFrame) (num : Nat) :
    (s.enterSOwn f).chan num = s.chan num := by
  simp [State.chan]
@[simp] theorem State.enterSOwn_stepRec (s : State) (f : OwnFrame) (num : Nat) :
    (s.enterSOwn f).stepRec num = s.stepRec num := by
  simp [State.stepRec]
@[simp] theorem State.enterSOwn_plan (s : State) (f : OwnFrame) (num : Nat) :
    (s.enterSOwn f).plan num = s.plan num := by
  simp [State.plan]
@[simp] theorem State.enterSOwn_headCal (s : State) (f : OwnFrame) (num : Nat) :
    (s.enterSOwn f).headCal num = s.headCal num := by
  simp [State.headCal]
@[simp] theorem State.offer_line (s : State) (b : Bytes) (t : Tie) (num : Nat) :
    (s.offer b t).line num = s.line num := by
  simp [State.line]
@[simp] theorem State.offer_audit (s : State) (b : Bytes) (t : Tie) (num : Nat) :
    (s.offer b t).audit num = s.audit num := by
  simp [State.audit]
@[simp] theorem State.offer_bus (s : State) (b : Bytes) (t : Tie) (num : Nat) : (s.offer b t).bus num = s.bus num := by
  simp [State.bus]
@[simp] theorem State.offer_chan (s : State) (b : Bytes) (t : Tie) (num : Nat) :
    (s.offer b t).chan num = s.chan num := by
  simp [State.chan]
@[simp] theorem State.offer_stepRec (s : State) (b : Bytes) (t : Tie) (num : Nat) :
    (s.offer b t).stepRec num = s.stepRec num := by
  simp [State.stepRec]
@[simp] theorem State.offer_plan (s : State) (b : Bytes) (t : Tie) (num : Nat) :
    (s.offer b t).plan num = s.plan num := by
  simp [State.plan]
@[simp] theorem State.offer_headCal (s : State) (b : Bytes) (t : Tie) (num : Nat) :
    (s.offer b t).headCal num = s.headCal num := by
  simp [State.headCal]
@[simp] theorem State.placeNotice_line (s : State) (n : Notice) (num : Nat) :
    (s.placeNotice n).line num = s.line num := by
  simp [State.line]
@[simp] theorem State.placeNotice_audit (s : State) (n : Notice) (num : Nat) :
    (s.placeNotice n).audit num = s.audit num := by
  simp [State.audit]
@[simp] theorem State.placeNotice_bus (s : State) (n : Notice) (num : Nat) : (s.placeNotice n).bus num = s.bus num := by
  simp [State.bus]
@[simp] theorem State.placeNotice_chan (s : State) (n : Notice) (num : Nat) :
    (s.placeNotice n).chan num = s.chan num := by
  simp [State.chan]
@[simp] theorem State.placeNotice_stepRec (s : State) (n : Notice) (num : Nat) :
    (s.placeNotice n).stepRec num = s.stepRec num := by
  simp [State.stepRec]
@[simp] theorem State.placeNotice_plan (s : State) (n : Notice) (num : Nat) :
    (s.placeNotice n).plan num = s.plan num := by
  simp [State.plan]
@[simp] theorem State.placeNotice_headCal (s : State) (n : Notice) (num : Nat) :
    (s.placeNotice n).headCal num = s.headCal num := by
  simp [State.headCal]
@[simp] theorem State.notify_line (s : State) (k : NoticeKind) (b : Bytes) (num : Nat) :
    (s.notify k b).line num = s.line num := by
  simp [State.line]
@[simp] theorem State.notify_audit (s : State) (k : NoticeKind) (b : Bytes) (num : Nat) :
    (s.notify k b).audit num = s.audit num := by
  simp [State.audit]
@[simp] theorem State.notify_bus (s : State) (k : NoticeKind) (b : Bytes) (num : Nat) :
    (s.notify k b).bus num = s.bus num := by
  simp [State.bus]
@[simp] theorem State.notify_chan (s : State) (k : NoticeKind) (b : Bytes) (num : Nat) :
    (s.notify k b).chan num = s.chan num := by
  simp [State.chan]
@[simp] theorem State.notify_stepRec (s : State) (k : NoticeKind) (b : Bytes) (num : Nat) :
    (s.notify k b).stepRec num = s.stepRec num := by
  simp [State.stepRec]
@[simp] theorem State.notify_plan (s : State) (k : NoticeKind) (b : Bytes) (num : Nat) :
    (s.notify k b).plan num = s.plan num := by
  simp [State.plan]
@[simp] theorem State.notify_headCal (s : State) (k : NoticeKind) (b : Bytes) (num : Nat) :
    (s.notify k b).headCal num = s.headCal num := by
  simp [State.headCal]
@[simp] theorem State.respond_line (s : State) (t : Byte) (r : Result) (b : Bytes) (num : Nat) :
    (s.respond t r b).line num = s.line num := by
  simp [State.line]
@[simp] theorem State.respond_audit (s : State) (t : Byte) (r : Result) (b : Bytes) (num : Nat) :
    (s.respond t r b).audit num = s.audit num := by
  simp [State.audit]
@[simp] theorem State.respond_bus (s : State) (t : Byte) (r : Result) (b : Bytes) (num : Nat) :
    (s.respond t r b).bus num = s.bus num := by
  simp [State.bus]
@[simp] theorem State.respond_chan (s : State) (t : Byte) (r : Result) (b : Bytes) (num : Nat) :
    (s.respond t r b).chan num = s.chan num := by
  simp [State.chan]
@[simp] theorem State.respond_stepRec (s : State) (t : Byte) (r : Result) (b : Bytes) (num : Nat) :
    (s.respond t r b).stepRec num = s.stepRec num := by
  simp [State.stepRec]
@[simp] theorem State.respond_plan (s : State) (t : Byte) (r : Result) (b : Bytes) (num : Nat) :
    (s.respond t r b).plan num = s.plan num := by
  simp [State.plan]
@[simp] theorem State.respond_headCal (s : State) (t : Byte) (r : Result) (b : Bytes) (num : Nat) :
    (s.respond t r b).headCal num = s.headCal num := by
  simp [State.headCal]
@[simp] theorem State.ticketNotice_line (s : State) (e : TicketEvent) (t : Ticket) (num : Nat) :
    (s.ticketNotice e t).line num = s.line num := by
  simp [State.line]
@[simp] theorem State.ticketNotice_audit (s : State) (e : TicketEvent) (t : Ticket) (num : Nat) :
    (s.ticketNotice e t).audit num = s.audit num := by
  simp [State.audit]
@[simp] theorem State.ticketNotice_bus (s : State) (e : TicketEvent) (t : Ticket) (num : Nat) :
    (s.ticketNotice e t).bus num = s.bus num := by
  simp [State.bus]
@[simp] theorem State.ticketNotice_chan (s : State) (e : TicketEvent) (t : Ticket) (num : Nat) :
    (s.ticketNotice e t).chan num = s.chan num := by
  simp [State.chan]
@[simp] theorem State.ticketNotice_stepRec (s : State) (e : TicketEvent) (t : Ticket) (num : Nat) :
    (s.ticketNotice e t).stepRec num = s.stepRec num := by
  simp [State.stepRec]
@[simp] theorem State.ticketNotice_plan (s : State) (e : TicketEvent) (t : Ticket) (num : Nat) :
    (s.ticketNotice e t).plan num = s.plan num := by
  simp [State.plan]
@[simp] theorem State.ticketNotice_headCal (s : State) (e : TicketEvent) (t : Ticket) (num : Nat) :
    (s.ticketNotice e t).headCal num = s.headCal num := by
  simp [State.headCal]
@[simp] theorem State.putTicket_line (s : State) (n : Nat) (t : Ticket) (num : Nat) :
    (s.putTicket n t).line num = s.line num := by
  simp [State.line]
@[simp] theorem State.putTicket_audit (s : State) (n : Nat) (t : Ticket) (num : Nat) :
    (s.putTicket n t).audit num = s.audit num := by
  simp [State.audit]
@[simp] theorem State.putTicket_bus (s : State) (n : Nat) (t : Ticket) (num : Nat) :
    (s.putTicket n t).bus num = s.bus num := by
  simp [State.bus]
@[simp] theorem State.putTicket_chan (s : State) (n : Nat) (t : Ticket) (num : Nat) :
    (s.putTicket n t).chan num = s.chan num := by
  simp [State.chan]
@[simp] theorem State.putTicket_stepRec (s : State) (n : Nat) (t : Ticket) (num : Nat) :
    (s.putTicket n t).stepRec num = s.stepRec num := by
  simp [State.stepRec]
@[simp] theorem State.putTicket_plan (s : State) (n : Nat) (t : Ticket) (num : Nat) :
    (s.putTicket n t).plan num = s.plan num := by
  simp [State.plan]
@[simp] theorem State.putTicket_headCal (s : State) (n : Nat) (t : Ticket) (num : Nat) :
    (s.putTicket n t).headCal num = s.headCal num := by
  simp [State.headCal]
@[simp] theorem State.countUp_audit (s : State) (k : SubjectKind) (n : Nat) (num : Nat) :
    (s.countUp k n).audit num = s.audit num := by
  simp [State.audit]
@[simp] theorem State.countUp_bus (s : State) (k : SubjectKind) (n : Nat) (num : Nat) :
    (s.countUp k n).bus num = s.bus num := by
  simp [State.bus]
@[simp] theorem State.countUp_chan (s : State) (k : SubjectKind) (n : Nat) (num : Nat) :
    (s.countUp k n).chan num = s.chan num := by
  simp [State.chan]
@[simp] theorem State.countUp_stepRec (s : State) (k : SubjectKind) (n : Nat) (num : Nat) :
    (s.countUp k n).stepRec num = s.stepRec num := by
  simp [State.stepRec]
@[simp] theorem State.countUp_plan (s : State) (k : SubjectKind) (n : Nat) (num : Nat) :
    (s.countUp k n).plan num = s.plan num := by
  simp [State.plan]
@[simp] theorem State.countUp_headCal (s : State) (k : SubjectKind) (n : Nat) (num : Nat) :
    (s.countUp k n).headCal num = s.headCal num := by
  simp [State.headCal]
@[simp] theorem State.countDown_audit (s : State) (k : SubjectKind) (n : Nat) (num : Nat) :
    (s.countDown k n).audit num = s.audit num := by
  simp [State.audit]
@[simp] theorem State.countDown_bus (s : State) (k : SubjectKind) (n : Nat) (num : Nat) :
    (s.countDown k n).bus num = s.bus num := by
  simp [State.bus]
@[simp] theorem State.countDown_chan (s : State) (k : SubjectKind) (n : Nat) (num : Nat) :
    (s.countDown k n).chan num = s.chan num := by
  simp [State.chan]
@[simp] theorem State.countDown_stepRec (s : State) (k : SubjectKind) (n : Nat) (num : Nat) :
    (s.countDown k n).stepRec num = s.stepRec num := by
  simp [State.stepRec]
@[simp] theorem State.countDown_plan (s : State) (k : SubjectKind) (n : Nat) (num : Nat) :
    (s.countDown k n).plan num = s.plan num := by
  simp [State.plan]
@[simp] theorem State.countDown_headCal (s : State) (k : SubjectKind) (n : Nat) (num : Nat) :
    (s.countDown k n).headCal num = s.headCal num := by
  simp [State.headCal]
@[simp] theorem State.removeTicket_audit (s : State) (t : Ticket) (num : Nat) :
    (s.removeTicket t).audit num = s.audit num := by
  simp [State.audit]
@[simp] theorem State.removeTicket_bus (s : State) (t : Ticket) (num : Nat) :
    (s.removeTicket t).bus num = s.bus num := by
  simp [State.bus]
@[simp] theorem State.removeTicket_chan (s : State) (t : Ticket) (num : Nat) :
    (s.removeTicket t).chan num = s.chan num := by
  simp [State.chan]
@[simp] theorem State.removeTicket_stepRec (s : State) (t : Ticket) (num : Nat) :
    (s.removeTicket t).stepRec num = s.stepRec num := by
  simp [State.stepRec]
@[simp] theorem State.removeTicket_plan (s : State) (t : Ticket) (num : Nat) :
    (s.removeTicket t).plan num = s.plan num := by
  simp [State.plan]
@[simp] theorem State.removeTicket_headCal (s : State) (t : Ticket) (num : Nat) :
    (s.removeTicket t).headCal num = s.headCal num := by
  simp [State.headCal]
@[simp] theorem State.updateTicket_line (s : State) (t : Ticket) (e : Option Evidence) (num : Nat) :
    (s.updateTicket t e).line num = s.line num := by
  simp [State.line]
@[simp] theorem State.updateTicket_audit (s : State) (t : Ticket) (e : Option Evidence) (num : Nat) :
    (s.updateTicket t e).audit num = s.audit num := by
  simp [State.audit]
@[simp] theorem State.updateTicket_bus (s : State) (t : Ticket) (e : Option Evidence) (num : Nat) :
    (s.updateTicket t e).bus num = s.bus num := by
  simp [State.bus]
@[simp] theorem State.updateTicket_chan (s : State) (t : Ticket) (e : Option Evidence) (num : Nat) :
    (s.updateTicket t e).chan num = s.chan num := by
  simp [State.chan]
@[simp] theorem State.updateTicket_stepRec (s : State) (t : Ticket) (e : Option Evidence) (num : Nat) :
    (s.updateTicket t e).stepRec num = s.stepRec num := by
  simp [State.stepRec]
@[simp] theorem State.updateTicket_plan (s : State) (t : Ticket) (e : Option Evidence) (num : Nat) :
    (s.updateTicket t e).plan num = s.plan num := by
  simp [State.plan]
@[simp] theorem State.updateTicket_headCal (s : State) (t : Ticket) (e : Option Evidence) (num : Nat) :
    (s.updateTicket t e).headCal num = s.headCal num := by
  simp [State.headCal]
@[simp] theorem State.createTicket_audit (s : State) (k : SubjectKind) (n : Nat) (c : FaultClass) (e : Option Evidence) (num : Nat) :
    (s.createTicket k n c e).audit num = s.audit num := by
  simp [State.audit]
@[simp] theorem State.createTicket_bus (s : State) (k : SubjectKind) (n : Nat) (c : FaultClass) (e : Option Evidence) (num : Nat) :
    (s.createTicket k n c e).bus num = s.bus num := by
  simp [State.bus]
@[simp] theorem State.createTicket_chan (s : State) (k : SubjectKind) (n : Nat) (c : FaultClass) (e : Option Evidence) (num : Nat) :
    (s.createTicket k n c e).chan num = s.chan num := by
  simp [State.chan]
@[simp] theorem State.createTicket_stepRec (s : State) (k : SubjectKind) (n : Nat) (c : FaultClass) (e : Option Evidence) (num : Nat) :
    (s.createTicket k n c e).stepRec num = s.stepRec num := by
  simp [State.stepRec]
@[simp] theorem State.createTicket_plan (s : State) (k : SubjectKind) (n : Nat) (c : FaultClass) (e : Option Evidence) (num : Nat) :
    (s.createTicket k n c e).plan num = s.plan num := by
  simp [State.plan]
@[simp] theorem State.createTicket_headCal (s : State) (k : SubjectKind) (n : Nat) (c : FaultClass) (e : Option Evidence) (num : Nat) :
    (s.createTicket k n c e).headCal num = s.headCal num := by
  simp [State.headCal]
@[simp] theorem State.loseRaise_line (s : State) (k : SubjectKind) (n : Nat) (c : FaultClass) (num : Nat) :
    (s.loseRaise k n c).line num = s.line num := by
  simp [State.line]
@[simp] theorem State.loseRaise_audit (s : State) (k : SubjectKind) (n : Nat) (c : FaultClass) (num : Nat) :
    (s.loseRaise k n c).audit num = s.audit num := by
  simp [State.audit]
@[simp] theorem State.loseRaise_bus (s : State) (k : SubjectKind) (n : Nat) (c : FaultClass) (num : Nat) :
    (s.loseRaise k n c).bus num = s.bus num := by
  simp [State.bus]
@[simp] theorem State.loseRaise_chan (s : State) (k : SubjectKind) (n : Nat) (c : FaultClass) (num : Nat) :
    (s.loseRaise k n c).chan num = s.chan num := by
  simp [State.chan]
@[simp] theorem State.loseRaise_stepRec (s : State) (k : SubjectKind) (n : Nat) (c : FaultClass) (num : Nat) :
    (s.loseRaise k n c).stepRec num = s.stepRec num := by
  simp [State.stepRec]
@[simp] theorem State.loseRaise_plan (s : State) (k : SubjectKind) (n : Nat) (c : FaultClass) (num : Nat) :
    (s.loseRaise k n c).plan num = s.plan num := by
  simp [State.plan]
@[simp] theorem State.loseRaise_headCal (s : State) (k : SubjectKind) (n : Nat) (c : FaultClass) (num : Nat) :
    (s.loseRaise k n c).headCal num = s.headCal num := by
  simp [State.headCal]
@[simp] theorem State.raise_audit (s : State) (k : SubjectKind) (n : Nat) (c : FaultClass) (e : Option Evidence) (num : Nat) :
    (s.raise k n c e).audit num = s.audit num := by
  simp [State.audit]
@[simp] theorem State.raise_bus (s : State) (k : SubjectKind) (n : Nat) (c : FaultClass) (e : Option Evidence) (num : Nat) :
    (s.raise k n c e).bus num = s.bus num := by
  simp [State.bus]
@[simp] theorem State.raise_chan (s : State) (k : SubjectKind) (n : Nat) (c : FaultClass) (e : Option Evidence) (num : Nat) :
    (s.raise k n c e).chan num = s.chan num := by
  simp [State.chan]
@[simp] theorem State.raise_stepRec (s : State) (k : SubjectKind) (n : Nat) (c : FaultClass) (e : Option Evidence) (num : Nat) :
    (s.raise k n c e).stepRec num = s.stepRec num := by
  simp [State.stepRec]
@[simp] theorem State.raise_plan (s : State) (k : SubjectKind) (n : Nat) (c : FaultClass) (e : Option Evidence) (num : Nat) :
    (s.raise k n c e).plan num = s.plan num := by
  simp [State.plan]
@[simp] theorem State.raise_headCal (s : State) (k : SubjectKind) (n : Nat) (c : FaultClass) (e : Option Evidence) (num : Nat) :
    (s.raise k n c e).headCal num = s.headCal num := by
  simp [State.headCal]
@[simp] theorem State.clearTicket_line (s : State) (k : SubjectKind) (n : Nat) (c : FaultClass) (num : Nat) :
    (s.clearTicket k n c).line num = s.line num := by
  simp [State.line]
@[simp] theorem State.clearTicket_audit (s : State) (k : SubjectKind) (n : Nat) (c : FaultClass) (num : Nat) :
    (s.clearTicket k n c).audit num = s.audit num := by
  simp [State.audit]
@[simp] theorem State.clearTicket_bus (s : State) (k : SubjectKind) (n : Nat) (c : FaultClass) (num : Nat) :
    (s.clearTicket k n c).bus num = s.bus num := by
  simp [State.bus]
@[simp] theorem State.clearTicket_chan (s : State) (k : SubjectKind) (n : Nat) (c : FaultClass) (num : Nat) :
    (s.clearTicket k n c).chan num = s.chan num := by
  simp [State.chan]
@[simp] theorem State.clearTicket_stepRec (s : State) (k : SubjectKind) (n : Nat) (c : FaultClass) (num : Nat) :
    (s.clearTicket k n c).stepRec num = s.stepRec num := by
  simp [State.stepRec]
@[simp] theorem State.clearTicket_plan (s : State) (k : SubjectKind) (n : Nat) (c : FaultClass) (num : Nat) :
    (s.clearTicket k n c).plan num = s.plan num := by
  simp [State.plan]
@[simp] theorem State.clearTicket_headCal (s : State) (k : SubjectKind) (n : Nat) (c : FaultClass) (num : Nat) :
    (s.clearTicket k n c).headCal num = s.headCal num := by
  simp [State.headCal]
@[simp] theorem State.commit_audit (s : State) (f : Bytes) (num : Nat) : (s.commit f).audit num = s.audit num := by
  simp [State.audit]
@[simp] theorem State.commit_bus (s : State) (f : Bytes) (num : Nat) : (s.commit f).bus num = s.bus num := by
  simp [State.bus]
@[simp] theorem State.commit_chan (s : State) (f : Bytes) (num : Nat) : (s.commit f).chan num = s.chan num := by
  simp [State.chan]
@[simp] theorem State.commit_stepRec (s : State) (f : Bytes) (num : Nat) :
    (s.commit f).stepRec num = s.stepRec num := by
  simp [State.stepRec]
@[simp] theorem State.commit_plan (s : State) (f : Bytes) (num : Nat) : (s.commit f).plan num = s.plan num := by
  simp [State.plan]
@[simp] theorem State.commit_headCal (s : State) (f : Bytes) (num : Nat) :
    (s.commit f).headCal num = s.headCal num := by
  simp [State.headCal]
@[simp] theorem State.setFlush_line (s : State) (f : Flush) (num : Nat) : (s.setFlush f).line num = s.line num := by
  simp [State.line]
@[simp] theorem State.setFlush_audit (s : State) (f : Flush) (num : Nat) : (s.setFlush f).audit num = s.audit num := by
  simp [State.audit]
@[simp] theorem State.setFlush_bus (s : State) (f : Flush) (num : Nat) : (s.setFlush f).bus num = s.bus num := by
  simp [State.bus]
@[simp] theorem State.setFlush_chan (s : State) (f : Flush) (num : Nat) : (s.setFlush f).chan num = s.chan num := by
  simp [State.chan]
@[simp] theorem State.setFlush_stepRec (s : State) (f : Flush) (num : Nat) :
    (s.setFlush f).stepRec num = s.stepRec num := by
  simp [State.stepRec]
@[simp] theorem State.setFlush_plan (s : State) (f : Flush) (num : Nat) : (s.setFlush f).plan num = s.plan num := by
  simp [State.plan]
@[simp] theorem State.setFlush_headCal (s : State) (f : Flush) (num : Nat) :
    (s.setFlush f).headCal num = s.headCal num := by
  simp [State.headCal]
@[simp] theorem State.endFlush_audit (s : State) (f : Flush) (num : Nat) : (s.endFlush f).audit num = s.audit num := by
  simp [State.audit]
@[simp] theorem State.endFlush_bus (s : State) (f : Flush) (num : Nat) : (s.endFlush f).bus num = s.bus num := by
  simp [State.bus]
@[simp] theorem State.endFlush_chan (s : State) (f : Flush) (num : Nat) : (s.endFlush f).chan num = s.chan num := by
  simp [State.chan]
@[simp] theorem State.endFlush_stepRec (s : State) (f : Flush) (num : Nat) :
    (s.endFlush f).stepRec num = s.stepRec num := by
  simp [State.stepRec]
@[simp] theorem State.endFlush_plan (s : State) (f : Flush) (num : Nat) : (s.endFlush f).plan num = s.plan num := by
  simp [State.plan]
@[simp] theorem State.endFlush_headCal (s : State) (f : Flush) (num : Nat) :
    (s.endFlush f).headCal num = s.headCal num := by
  simp [State.headCal]
@[simp] theorem State.runFlush_audit (s : State) (n l : Nat) (num : Nat) :
    (State.runFlush n l s).audit num = s.audit num := by
  simp [State.audit]
@[simp] theorem State.runFlush_bus (s : State) (n l : Nat) (num : Nat) :
    (State.runFlush n l s).bus num = s.bus num := by
  simp [State.bus]
@[simp] theorem State.runFlush_chan (s : State) (n l : Nat) (num : Nat) :
    (State.runFlush n l s).chan num = s.chan num := by
  simp [State.chan]
@[simp] theorem State.runFlush_stepRec (s : State) (n l : Nat) (num : Nat) :
    (State.runFlush n l s).stepRec num = s.stepRec num := by
  simp [State.stepRec]
@[simp] theorem State.runFlush_plan (s : State) (n l : Nat) (num : Nat) :
    (State.runFlush n l s).plan num = s.plan num := by
  simp [State.plan]
@[simp] theorem State.runFlush_headCal (s : State) (n l : Nat) (num : Nat) :
    (State.runFlush n l s).headCal num = s.headCal num := by
  simp [State.headCal]
@[simp] theorem State.flushOn_audit (s : State) (l : Nat) (num : Nat) : (s.flushOn l).audit num = s.audit num := by
  simp [State.audit]
@[simp] theorem State.flushOn_bus (s : State) (l : Nat) (num : Nat) : (s.flushOn l).bus num = s.bus num := by
  simp [State.bus]
@[simp] theorem State.flushOn_chan (s : State) (l : Nat) (num : Nat) : (s.flushOn l).chan num = s.chan num := by
  simp [State.chan]
@[simp] theorem State.flushOn_stepRec (s : State) (l : Nat) (num : Nat) :
    (s.flushOn l).stepRec num = s.stepRec num := by
  simp [State.stepRec]
@[simp] theorem State.flushOn_plan (s : State) (l : Nat) (num : Nat) : (s.flushOn l).plan num = s.plan num := by
  simp [State.plan]
@[simp] theorem State.flushOn_headCal (s : State) (l : Nat) (num : Nat) :
    (s.flushOn l).headCal num = s.headCal num := by
  simp [State.headCal]
@[simp] theorem State.beginFlush_audit (s : State) (l : Nat) (b : Bool) (num : Nat) :
    (s.beginFlush l b).audit num = s.audit num := by
  simp [State.audit]
@[simp] theorem State.beginFlush_bus (s : State) (l : Nat) (b : Bool) (num : Nat) :
    (s.beginFlush l b).bus num = s.bus num := by
  simp [State.bus]
@[simp] theorem State.beginFlush_chan (s : State) (l : Nat) (b : Bool) (num : Nat) :
    (s.beginFlush l b).chan num = s.chan num := by
  simp [State.chan]
@[simp] theorem State.beginFlush_stepRec (s : State) (l : Nat) (b : Bool) (num : Nat) :
    (s.beginFlush l b).stepRec num = s.stepRec num := by
  simp [State.stepRec]
@[simp] theorem State.beginFlush_plan (s : State) (l : Nat) (b : Bool) (num : Nat) :
    (s.beginFlush l b).plan num = s.plan num := by
  simp [State.plan]
@[simp] theorem State.beginFlush_headCal (s : State) (l : Nat) (b : Bool) (num : Nat) :
    (s.beginFlush l b).headCal num = s.headCal num := by
  simp [State.headCal]
@[simp] theorem State.releasePath_audit (s : State) (l : Nat) (b : Bool) (num : Nat) :
    (s.releasePath l b).audit num = s.audit num := by
  simp [State.audit]
@[simp] theorem State.releasePath_bus (s : State) (l : Nat) (b : Bool) (num : Nat) :
    (s.releasePath l b).bus num = s.bus num := by
  simp [State.bus]
@[simp] theorem State.releasePath_chan (s : State) (l : Nat) (b : Bool) (num : Nat) :
    (s.releasePath l b).chan num = s.chan num := by
  simp [State.chan]
@[simp] theorem State.releasePath_stepRec (s : State) (l : Nat) (b : Bool) (num : Nat) :
    (s.releasePath l b).stepRec num = s.stepRec num := by
  simp [State.stepRec]
@[simp] theorem State.releasePath_plan (s : State) (l : Nat) (b : Bool) (num : Nat) :
    (s.releasePath l b).plan num = s.plan num := by
  simp [State.plan]
@[simp] theorem State.releasePath_headCal (s : State) (l : Nat) (b : Bool) (num : Nat) :
    (s.releasePath l b).headCal num = s.headCal num := by
  simp [State.headCal]
@[simp] theorem State.holdOrder_line (s : State) (f : Bytes) (l : Nat) (num : Nat) :
    (s.holdOrder f l).line num = s.line num := by
  simp [State.line]
@[simp] theorem State.holdOrder_audit (s : State) (f : Bytes) (l : Nat) (num : Nat) :
    (s.holdOrder f l).audit num = s.audit num := by
  simp [State.audit]
@[simp] theorem State.holdOrder_bus (s : State) (f : Bytes) (l : Nat) (num : Nat) :
    (s.holdOrder f l).bus num = s.bus num := by
  simp [State.bus]
@[simp] theorem State.holdOrder_chan (s : State) (f : Bytes) (l : Nat) (num : Nat) :
    (s.holdOrder f l).chan num = s.chan num := by
  simp [State.chan]
@[simp] theorem State.holdOrder_stepRec (s : State) (f : Bytes) (l : Nat) (num : Nat) :
    (s.holdOrder f l).stepRec num = s.stepRec num := by
  simp [State.stepRec]
@[simp] theorem State.holdOrder_plan (s : State) (f : Bytes) (l : Nat) (num : Nat) :
    (s.holdOrder f l).plan num = s.plan num := by
  simp [State.plan]
@[simp] theorem State.holdOrder_headCal (s : State) (f : Bytes) (l : Nat) (num : Nat) :
    (s.holdOrder f l).headCal num = s.headCal num := by
  simp [State.headCal]
@[simp] theorem State.endIfDone_audit (s : State) (l : Nat) (num : Nat) : (s.endIfDone l).audit num = s.audit num := by
  simp [State.audit]
@[simp] theorem State.endIfDone_bus (s : State) (l : Nat) (num : Nat) : (s.endIfDone l).bus num = s.bus num := by
  simp [State.bus]
@[simp] theorem State.endIfDone_chan (s : State) (l : Nat) (num : Nat) : (s.endIfDone l).chan num = s.chan num := by
  simp [State.chan]
@[simp] theorem State.endIfDone_stepRec (s : State) (l : Nat) (num : Nat) :
    (s.endIfDone l).stepRec num = s.stepRec num := by
  simp [State.stepRec]
@[simp] theorem State.endIfDone_plan (s : State) (l : Nat) (num : Nat) : (s.endIfDone l).plan num = s.plan num := by
  simp [State.plan]
@[simp] theorem State.endIfDone_headCal (s : State) (l : Nat) (num : Nat) :
    (s.endIfDone l).headCal num = s.headCal num := by
  simp [State.headCal]
@[simp] theorem State.lapse_audit (s : State) (n : Nat) (r : HoldRec) (num : Nat) :
    (s.lapse n r).audit num = s.audit num := by
  simp [State.audit]
@[simp] theorem State.lapse_bus (s : State) (n : Nat) (r : HoldRec) (num : Nat) :
    (s.lapse n r).bus num = s.bus num := by
  simp [State.bus]
@[simp] theorem State.lapse_chan (s : State) (n : Nat) (r : HoldRec) (num : Nat) :
    (s.lapse n r).chan num = s.chan num := by
  simp [State.chan]
@[simp] theorem State.lapse_stepRec (s : State) (n : Nat) (r : HoldRec) (num : Nat) :
    (s.lapse n r).stepRec num = s.stepRec num := by
  simp [State.stepRec]
@[simp] theorem State.lapse_plan (s : State) (n : Nat) (r : HoldRec) (num : Nat) :
    (s.lapse n r).plan num = s.plan num := by
  simp [State.plan]
@[simp] theorem State.lapse_headCal (s : State) (n : Nat) (r : HoldRec) (num : Nat) :
    (s.lapse n r).headCal num = s.headCal num := by
  simp [State.headCal]
@[simp] theorem State.offerEnters_audit (s : State) (f : OwnFrame) (r : List OwnFrame) (num : Nat) :
    (s.offerEnters f r).audit num = s.audit num := by
  simp [State.audit]
@[simp] theorem State.offerEnters_bus (s : State) (f : OwnFrame) (r : List OwnFrame) (num : Nat) :
    (s.offerEnters f r).bus num = s.bus num := by
  simp [State.bus]
@[simp] theorem State.offerEnters_chan (s : State) (f : OwnFrame) (r : List OwnFrame) (num : Nat) :
    (s.offerEnters f r).chan num = s.chan num := by
  simp [State.chan]
@[simp] theorem State.offerEnters_stepRec (s : State) (f : OwnFrame) (r : List OwnFrame) (num : Nat) :
    (s.offerEnters f r).stepRec num = s.stepRec num := by
  simp [State.stepRec]
@[simp] theorem State.offerEnters_plan (s : State) (f : OwnFrame) (r : List OwnFrame) (num : Nat) :
    (s.offerEnters f r).plan num = s.plan num := by
  simp [State.plan]
@[simp] theorem State.offerEnters_headCal (s : State) (f : OwnFrame) (r : List OwnFrame) (num : Nat) :
    (s.offerEnters f r).headCal num = s.headCal num := by
  simp [State.headCal]
@[simp] theorem State.beginTapping_audit (s : State) (h l b : Nat) (num : Nat) :
    (s.beginTapping h l b).audit num = s.audit num := by
  simp [State.audit]
@[simp] theorem State.beginTapping_stepRec (s : State) (h l b : Nat) (num : Nat) :
    (s.beginTapping h l b).stepRec num = s.stepRec num := by
  simp [State.stepRec]
@[simp] theorem State.beginTapping_plan (s : State) (h l b : Nat) (num : Nat) :
    (s.beginTapping h l b).plan num = s.plan num := by
  simp [State.plan]
@[simp] theorem State.beginTapping_headCal (s : State) (h l b : Nat) (num : Nat) :
    (s.beginTapping h l b).headCal num = s.headCal num := by
  simp [State.headCal]
@[simp] theorem State.claimAndTap_audit (s : State) (h l b : Nat) (num : Nat) :
    (s.claimAndTap h l b).audit num = s.audit num := by
  simp [State.audit]
@[simp] theorem State.claimAndTap_stepRec (s : State) (h l b : Nat) (num : Nat) :
    (s.claimAndTap h l b).stepRec num = s.stepRec num := by
  simp [State.stepRec]
@[simp] theorem State.claimAndTap_plan (s : State) (h l b : Nat) (num : Nat) :
    (s.claimAndTap h l b).plan num = s.plan num := by
  simp [State.plan]
@[simp] theorem State.claimAndTap_headCal (s : State) (h l b : Nat) (num : Nat) :
    (s.claimAndTap h l b).headCal num = s.headCal num := by
  simp [State.headCal]
@[simp] theorem State.startTest_audit (s : State) (h b : Nat) (t : TestRec) (o : Origin) (num : Nat) :
    (s.startTest h b t o).audit num = s.audit num := by
  simp [State.audit]
@[simp] theorem State.startTest_stepRec (s : State) (h b : Nat) (t : TestRec) (o : Origin) (num : Nat) :
    (s.startTest h b t o).stepRec num = s.stepRec num := by
  simp [State.stepRec]
@[simp] theorem State.startTest_plan (s : State) (h b : Nat) (t : TestRec) (o : Origin) (num : Nat) :
    (s.startTest h b t o).plan num = s.plan num := by
  simp [State.plan]
@[simp] theorem State.startTest_headCal (s : State) (h b : Nat) (t : TestRec) (o : Origin) (num : Nat) :
    (s.startTest h b t o).headCal num = s.headCal num := by
  simp [State.headCal]
@[simp] theorem State.release_audit (s : State) (h l b : Nat) (num : Nat) :
    (s.release h l b).audit num = s.audit num := by
  simp [State.audit]
@[simp] theorem State.release_stepRec (s : State) (h l b : Nat) (num : Nat) :
    (s.release h l b).stepRec num = s.stepRec num := by
  simp [State.stepRec]
@[simp] theorem State.release_plan (s : State) (h l b : Nat) (num : Nat) : (s.release h l b).plan num = s.plan num := by
  simp [State.plan]
@[simp] theorem State.release_headCal (s : State) (h l b : Nat) (num : Nat) :
    (s.release h l b).headCal num = s.headCal num := by
  simp [State.headCal]
@[simp] theorem State.endByCause_audit (s : State) (h : Nat) (o : TestOutcome) (num : Nat) :
    (s.endByCause h o).audit num = s.audit num := by
  simp [State.audit]
@[simp] theorem State.endByCause_stepRec (s : State) (h : Nat) (o : TestOutcome) (num : Nat) :
    (s.endByCause h o).stepRec num = s.stepRec num := by
  simp [State.stepRec]
@[simp] theorem State.endByCause_plan (s : State) (h : Nat) (o : TestOutcome) (num : Nat) :
    (s.endByCause h o).plan num = s.plan num := by
  simp [State.plan]
@[simp] theorem State.endByCause_headCal (s : State) (h : Nat) (o : TestOutcome) (num : Nat) :
    (s.endByCause h o).headCal num = s.headCal num := by
  simp [State.headCal]
@[simp] theorem State.yieldTrigger_audit (s : State) (l : Nat) (num : Nat) :
    (s.yieldTrigger l).audit num = s.audit num := by
  simp [State.audit]
@[simp] theorem State.yieldTrigger_stepRec (s : State) (l : Nat) (num : Nat) :
    (s.yieldTrigger l).stepRec num = s.stepRec num := by
  simp [State.stepRec]
@[simp] theorem State.yieldTrigger_plan (s : State) (l : Nat) (num : Nat) :
    (s.yieldTrigger l).plan num = s.plan num := by
  simp [State.plan]
@[simp] theorem State.yieldTrigger_headCal (s : State) (l : Nat) (num : Nat) :
    (s.yieldTrigger l).headCal num = s.headCal num := by
  simp [State.headCal]
@[simp] theorem State.screen_audit (s : State) (f : Bytes) (o : Order) (num : Nat) :
    (s.screen f o).audit num = s.audit num := by
  simp [State.audit]
@[simp] theorem State.screen_stepRec (s : State) (f : Bytes) (o : Order) (num : Nat) :
    (s.screen f o).stepRec num = s.stepRec num := by
  simp [State.stepRec]
@[simp] theorem State.screen_plan (s : State) (f : Bytes) (o : Order) (num : Nat) :
    (s.screen f o).plan num = s.plan num := by
  simp [State.plan]
@[simp] theorem State.screen_headCal (s : State) (f : Bytes) (o : Order) (num : Nat) :
    (s.screen f o).headCal num = s.headCal num := by
  simp [State.headCal]
@[simp] theorem State.count_line (s : State) (g : Counts → Counts) (num : Nat) : (s.count g).line num = s.line num := by
  simp [State.line]
@[simp] theorem State.count_audit (s : State) (g : Counts → Counts) (num : Nat) :
    (s.count g).audit num = s.audit num := by
  simp [State.audit]
@[simp] theorem State.count_bus (s : State) (g : Counts → Counts) (num : Nat) : (s.count g).bus num = s.bus num := by
  simp [State.bus]
@[simp] theorem State.count_chan (s : State) (g : Counts → Counts) (num : Nat) : (s.count g).chan num = s.chan num := by
  simp [State.chan]
@[simp] theorem State.count_stepRec (s : State) (g : Counts → Counts) (num : Nat) :
    (s.count g).stepRec num = s.stepRec num := by
  simp [State.stepRec]
@[simp] theorem State.count_plan (s : State) (g : Counts → Counts) (num : Nat) : (s.count g).plan num = s.plan num := by
  simp [State.plan]
@[simp] theorem State.count_headCal (s : State) (g : Counts → Counts) (num : Nat) :
    (s.count g).headCal num = s.headCal num := by
  simp [State.headCal]
@[simp] theorem State.writeRoutine_audit (s : State) (l p : Nat) (o : RoutineOutcome) (num : Nat) :
    (s.writeRoutine l p o).audit num = s.audit num := by
  simp [State.audit]
@[simp] theorem State.writeRoutine_bus (s : State) (l p : Nat) (o : RoutineOutcome) (num : Nat) :
    (s.writeRoutine l p o).bus num = s.bus num := by
  simp [State.bus]
@[simp] theorem State.writeRoutine_chan (s : State) (l p : Nat) (o : RoutineOutcome) (num : Nat) :
    (s.writeRoutine l p o).chan num = s.chan num := by
  simp [State.chan]
@[simp] theorem State.writeRoutine_stepRec (s : State) (l p : Nat) (o : RoutineOutcome) (num : Nat) :
    (s.writeRoutine l p o).stepRec num = s.stepRec num := by
  simp [State.stepRec]
@[simp] theorem State.writeRoutine_plan (s : State) (l p : Nat) (o : RoutineOutcome) (num : Nat) :
    (s.writeRoutine l p o).plan num = s.plan num := by
  simp [State.plan]
@[simp] theorem State.writeRoutine_headCal (s : State) (l p : Nat) (o : RoutineOutcome) (num : Nat) :
    (s.writeRoutine l p o).headCal num = s.headCal num := by
  simp [State.headCal]
@[simp] theorem State.missLine_audit (s : State) (l : Nat) (num : Nat) : (s.missLine l).audit num = s.audit num := by
  simp [State.audit]
@[simp] theorem State.missLine_bus (s : State) (l : Nat) (num : Nat) : (s.missLine l).bus num = s.bus num := by
  simp [State.bus]
@[simp] theorem State.missLine_chan (s : State) (l : Nat) (num : Nat) : (s.missLine l).chan num = s.chan num := by
  simp [State.chan]
@[simp] theorem State.missLine_stepRec (s : State) (l : Nat) (num : Nat) :
    (s.missLine l).stepRec num = s.stepRec num := by
  simp [State.stepRec]
@[simp] theorem State.missLine_plan (s : State) (l : Nat) (num : Nat) : (s.missLine l).plan num = s.plan num := by
  simp [State.plan]
@[simp] theorem State.missLine_headCal (s : State) (l : Nat) (num : Nat) :
    (s.missLine l).headCal num = s.headCal num := by
  simp [State.headCal]
@[simp] theorem State.offerSuspect_line (s : State) (l p : Nat) (r : Reason) (num : Nat) :
    (s.offerSuspect l p r).line num = s.line num := by
  simp [State.line]
@[simp] theorem State.offerSuspect_audit (s : State) (l p : Nat) (r : Reason) (num : Nat) :
    (s.offerSuspect l p r).audit num = s.audit num := by
  simp [State.audit]
@[simp] theorem State.offerSuspect_bus (s : State) (l p : Nat) (r : Reason) (num : Nat) :
    (s.offerSuspect l p r).bus num = s.bus num := by
  simp [State.bus]
@[simp] theorem State.offerSuspect_chan (s : State) (l p : Nat) (r : Reason) (num : Nat) :
    (s.offerSuspect l p r).chan num = s.chan num := by
  simp [State.chan]
@[simp] theorem State.offerSuspect_stepRec (s : State) (l p : Nat) (r : Reason) (num : Nat) :
    (s.offerSuspect l p r).stepRec num = s.stepRec num := by
  simp [State.stepRec]
@[simp] theorem State.offerSuspect_plan (s : State) (l p : Nat) (r : Reason) (num : Nat) :
    (s.offerSuspect l p r).plan num = s.plan num := by
  simp [State.plan]
@[simp] theorem State.offerSuspect_headCal (s : State) (l p : Nat) (r : Reason) (num : Nat) :
    (s.offerSuspect l p r).headCal num = s.headCal num := by
  simp [State.headCal]
@[simp] theorem State.deferLine_line (s : State) (l p : Nat) (num : Nat) : (s.deferLine l p).line num = s.line num := by
  simp [State.line]
@[simp] theorem State.deferLine_audit (s : State) (l p : Nat) (num : Nat) :
    (s.deferLine l p).audit num = s.audit num := by
  simp [State.audit]
@[simp] theorem State.deferLine_bus (s : State) (l p : Nat) (num : Nat) : (s.deferLine l p).bus num = s.bus num := by
  simp [State.bus]
@[simp] theorem State.deferLine_chan (s : State) (l p : Nat) (num : Nat) : (s.deferLine l p).chan num = s.chan num := by
  simp [State.chan]
@[simp] theorem State.deferLine_stepRec (s : State) (l p : Nat) (num : Nat) :
    (s.deferLine l p).stepRec num = s.stepRec num := by
  simp [State.stepRec]
@[simp] theorem State.deferLine_plan (s : State) (l p : Nat) (num : Nat) : (s.deferLine l p).plan num = s.plan num := by
  simp [State.plan]
@[simp] theorem State.deferLine_headCal (s : State) (l p : Nat) (num : Nat) :
    (s.deferLine l p).headCal num = s.headCal num := by
  simp [State.headCal]
@[simp] theorem State.countYield_line (s : State) (e : RoutineEnd) (num : Nat) :
    (s.countYield e).line num = s.line num := by
  simp [State.line]
@[simp] theorem State.countYield_audit (s : State) (e : RoutineEnd) (num : Nat) :
    (s.countYield e).audit num = s.audit num := by
  simp [State.audit]
@[simp] theorem State.countYield_bus (s : State) (e : RoutineEnd) (num : Nat) :
    (s.countYield e).bus num = s.bus num := by
  simp [State.bus]
@[simp] theorem State.countYield_chan (s : State) (e : RoutineEnd) (num : Nat) :
    (s.countYield e).chan num = s.chan num := by
  simp [State.chan]
@[simp] theorem State.countYield_stepRec (s : State) (e : RoutineEnd) (num : Nat) :
    (s.countYield e).stepRec num = s.stepRec num := by
  simp [State.stepRec]
@[simp] theorem State.countYield_plan (s : State) (e : RoutineEnd) (num : Nat) :
    (s.countYield e).plan num = s.plan num := by
  simp [State.plan]
@[simp] theorem State.countYield_headCal (s : State) (e : RoutineEnd) (num : Nat) :
    (s.countYield e).headCal num = s.headCal num := by
  simp [State.headCal]
@[simp] theorem State.bookEnd_audit (s : State) (e : RoutineEnd) (num : Nat) :
    (s.bookEnd e).audit num = s.audit num := by
  simp [State.audit]
@[simp] theorem State.bookEnd_bus (s : State) (e : RoutineEnd) (num : Nat) : (s.bookEnd e).bus num = s.bus num := by
  simp [State.bus]
@[simp] theorem State.bookEnd_chan (s : State) (e : RoutineEnd) (num : Nat) : (s.bookEnd e).chan num = s.chan num := by
  simp [State.chan]
@[simp] theorem State.bookEnd_stepRec (s : State) (e : RoutineEnd) (num : Nat) :
    (s.bookEnd e).stepRec num = s.stepRec num := by
  simp [State.stepRec]
@[simp] theorem State.bookEnd_plan (s : State) (e : RoutineEnd) (num : Nat) : (s.bookEnd e).plan num = s.plan num := by
  simp [State.plan]
@[simp] theorem State.bookEnd_headCal (s : State) (e : RoutineEnd) (num : Nat) :
    (s.bookEnd e).headCal num = s.headCal num := by
  simp [State.headCal]
@[simp] theorem State.originActions_audit (s : State) (e : RoutineEnd) (num : Nat) :
    (s.originActions e).audit num = s.audit num := by
  simp [State.audit]
@[simp] theorem State.originActions_bus (s : State) (e : RoutineEnd) (num : Nat) :
    (s.originActions e).bus num = s.bus num := by
  simp [State.bus]
@[simp] theorem State.originActions_chan (s : State) (e : RoutineEnd) (num : Nat) :
    (s.originActions e).chan num = s.chan num := by
  simp [State.chan]
@[simp] theorem State.originActions_stepRec (s : State) (e : RoutineEnd) (num : Nat) :
    (s.originActions e).stepRec num = s.stepRec num := by
  simp [State.stepRec]
@[simp] theorem State.originActions_plan (s : State) (e : RoutineEnd) (num : Nat) :
    (s.originActions e).plan num = s.plan num := by
  simp [State.plan]
@[simp] theorem State.originActions_headCal (s : State) (e : RoutineEnd) (num : Nat) :
    (s.originActions e).headCal num = s.headCal num := by
  simp [State.headCal]
@[simp] theorem State.routineEnded_audit (s : State) (e : RoutineEnd) (num : Nat) :
    (s.routineEnded e).audit num = s.audit num := by
  simp [State.audit]
@[simp] theorem State.routineEnded_bus (s : State) (e : RoutineEnd) (num : Nat) :
    (s.routineEnded e).bus num = s.bus num := by
  simp [State.bus]
@[simp] theorem State.routineEnded_chan (s : State) (e : RoutineEnd) (num : Nat) :
    (s.routineEnded e).chan num = s.chan num := by
  simp [State.chan]
@[simp] theorem State.routineEnded_stepRec (s : State) (e : RoutineEnd) (num : Nat) :
    (s.routineEnded e).stepRec num = s.stepRec num := by
  simp [State.stepRec]
@[simp] theorem State.routineEnded_plan (s : State) (e : RoutineEnd) (num : Nat) :
    (s.routineEnded e).plan num = s.plan num := by
  simp [State.plan]
@[simp] theorem State.routineEnded_headCal (s : State) (e : RoutineEnd) (num : Nat) :
    (s.routineEnded e).headCal num = s.headCal num := by
  simp [State.headCal]
@[simp] theorem State.discardContext_audit (s : State) (c : Context) (num : Nat) :
    (s.discardContext c).audit num = s.audit num := by
  simp [State.audit]
@[simp] theorem State.discardContext_bus (s : State) (c : Context) (num : Nat) :
    (s.discardContext c).bus num = s.bus num := by
  simp [State.bus]
@[simp] theorem State.discardContext_chan (s : State) (c : Context) (num : Nat) :
    (s.discardContext c).chan num = s.chan num := by
  simp [State.chan]
@[simp] theorem State.discardContext_stepRec (s : State) (c : Context) (num : Nat) :
    (s.discardContext c).stepRec num = s.stepRec num := by
  simp [State.stepRec]
@[simp] theorem State.discardContext_plan (s : State) (c : Context) (num : Nat) :
    (s.discardContext c).plan num = s.plan num := by
  simp [State.plan]
@[simp] theorem State.discardContext_headCal (s : State) (c : Context) (num : Nat) :
    (s.discardContext c).headCal num = s.headCal num := by
  simp [State.headCal]
@[simp] theorem State.pushContext_audit (s : State) (c : Context) (num : Nat) :
    (s.pushContext c).audit num = s.audit num := by
  simp [State.audit]
@[simp] theorem State.pushContext_bus (s : State) (c : Context) (num : Nat) :
    (s.pushContext c).bus num = s.bus num := by
  simp [State.bus]
@[simp] theorem State.pushContext_chan (s : State) (c : Context) (num : Nat) :
    (s.pushContext c).chan num = s.chan num := by
  simp [State.chan]
@[simp] theorem State.pushContext_stepRec (s : State) (c : Context) (num : Nat) :
    (s.pushContext c).stepRec num = s.stepRec num := by
  simp [State.stepRec]
@[simp] theorem State.pushContext_plan (s : State) (c : Context) (num : Nat) :
    (s.pushContext c).plan num = s.plan num := by
  simp [State.plan]
@[simp] theorem State.pushContext_headCal (s : State) (c : Context) (num : Nat) :
    (s.pushContext c).headCal num = s.headCal num := by
  simp [State.headCal]
@[simp] theorem State.sweepNotice_line (s : State) (e : SweepEvent) (b : Bytes) (num : Nat) :
    (s.sweepNotice e b).line num = s.line num := by
  simp [State.line]
@[simp] theorem State.sweepNotice_audit (s : State) (e : SweepEvent) (b : Bytes) (num : Nat) :
    (s.sweepNotice e b).audit num = s.audit num := by
  simp [State.audit]
@[simp] theorem State.sweepNotice_bus (s : State) (e : SweepEvent) (b : Bytes) (num : Nat) :
    (s.sweepNotice e b).bus num = s.bus num := by
  simp [State.bus]
@[simp] theorem State.sweepNotice_chan (s : State) (e : SweepEvent) (b : Bytes) (num : Nat) :
    (s.sweepNotice e b).chan num = s.chan num := by
  simp [State.chan]
@[simp] theorem State.sweepNotice_stepRec (s : State) (e : SweepEvent) (b : Bytes) (num : Nat) :
    (s.sweepNotice e b).stepRec num = s.stepRec num := by
  simp [State.stepRec]
@[simp] theorem State.sweepNotice_plan (s : State) (e : SweepEvent) (b : Bytes) (num : Nat) :
    (s.sweepNotice e b).plan num = s.plan num := by
  simp [State.plan]
@[simp] theorem State.sweepNotice_headCal (s : State) (e : SweepEvent) (b : Bytes) (num : Nat) :
    (s.sweepNotice e b).headCal num = s.headCal num := by
  simp [State.headCal]
@[simp] theorem State.endDrain_line (s : State) (num : Nat) : (s.endDrain).line num = s.line num := by
  simp [State.line]
@[simp] theorem State.endDrain_audit (s : State) (num : Nat) : (s.endDrain).audit num = s.audit num := by
  simp [State.audit]
@[simp] theorem State.endDrain_bus (s : State) (num : Nat) : (s.endDrain).bus num = s.bus num := by
  simp [State.bus]
@[simp] theorem State.endDrain_chan (s : State) (num : Nat) : (s.endDrain).chan num = s.chan num := by
  simp [State.chan]
@[simp] theorem State.endDrain_stepRec (s : State) (num : Nat) : (s.endDrain).stepRec num = s.stepRec num := by
  simp [State.stepRec]
@[simp] theorem State.endDrain_plan (s : State) (num : Nat) : (s.endDrain).plan num = s.plan num := by
  simp [State.plan]
@[simp] theorem State.endDrain_headCal (s : State) (num : Nat) : (s.endDrain).headCal num = s.headCal num := by
  simp [State.headCal]
@[simp] theorem State.sendReport_line (s : State) (r : Report) (num : Nat) :
    (s.sendReport r).line num = s.line num := by
  simp [State.line]
@[simp] theorem State.sendReport_audit (s : State) (r : Report) (num : Nat) :
    (s.sendReport r).audit num = s.audit num := by
  simp [State.audit]
@[simp] theorem State.sendReport_bus (s : State) (r : Report) (num : Nat) : (s.sendReport r).bus num = s.bus num := by
  simp [State.bus]
@[simp] theorem State.sendReport_chan (s : State) (r : Report) (num : Nat) :
    (s.sendReport r).chan num = s.chan num := by
  simp [State.chan]
@[simp] theorem State.sendReport_stepRec (s : State) (r : Report) (num : Nat) :
    (s.sendReport r).stepRec num = s.stepRec num := by
  simp [State.stepRec]
@[simp] theorem State.sendReport_plan (s : State) (r : Report) (num : Nat) :
    (s.sendReport r).plan num = s.plan num := by
  simp [State.plan]
@[simp] theorem State.sendReport_headCal (s : State) (r : Report) (num : Nat) :
    (s.sendReport r).headCal num = s.headCal num := by
  simp [State.headCal]
@[simp] theorem State.noteIdle_line (s : State) (h : Nat) (num : Nat) : (s.noteIdle h).line num = s.line num := by
  simp [State.line]
@[simp] theorem State.noteIdle_audit (s : State) (h : Nat) (num : Nat) : (s.noteIdle h).audit num = s.audit num := by
  simp [State.audit]
@[simp] theorem State.noteIdle_bus (s : State) (h : Nat) (num : Nat) : (s.noteIdle h).bus num = s.bus num := by
  simp [State.bus]
@[simp] theorem State.noteIdle_chan (s : State) (h : Nat) (num : Nat) : (s.noteIdle h).chan num = s.chan num := by
  simp [State.chan]
@[simp] theorem State.noteIdle_stepRec (s : State) (h : Nat) (num : Nat) :
    (s.noteIdle h).stepRec num = s.stepRec num := by
  simp [State.stepRec]
@[simp] theorem State.noteIdle_plan (s : State) (h : Nat) (num : Nat) : (s.noteIdle h).plan num = s.plan num := by
  simp [State.plan]
@[simp] theorem State.noteIdle_headCal (s : State) (h : Nat) (num : Nat) :
    (s.noteIdle h).headCal num = s.headCal num := by
  simp [State.headCal]
@[simp] theorem State.answerAbort_line (s : State) (h : Nat) (g : Option Byte) (t : TestRec) (num : Nat) :
    (s.answerAbort h g t).line num = s.line num := by
  simp [State.line]
@[simp] theorem State.answerAbort_audit (s : State) (h : Nat) (g : Option Byte) (t : TestRec) (num : Nat) :
    (s.answerAbort h g t).audit num = s.audit num := by
  simp [State.audit]
@[simp] theorem State.answerAbort_bus (s : State) (h : Nat) (g : Option Byte) (t : TestRec) (num : Nat) :
    (s.answerAbort h g t).bus num = s.bus num := by
  simp [State.bus]
@[simp] theorem State.answerAbort_chan (s : State) (h : Nat) (g : Option Byte) (t : TestRec) (num : Nat) :
    (s.answerAbort h g t).chan num = s.chan num := by
  simp [State.chan]
@[simp] theorem State.answerAbort_stepRec (s : State) (h : Nat) (g : Option Byte) (t : TestRec) (num : Nat) :
    (s.answerAbort h g t).stepRec num = s.stepRec num := by
  simp [State.stepRec]
@[simp] theorem State.answerAbort_plan (s : State) (h : Nat) (g : Option Byte) (t : TestRec) (num : Nat) :
    (s.answerAbort h g t).plan num = s.plan num := by
  simp [State.plan]
@[simp] theorem State.answerAbort_headCal (s : State) (h : Nat) (g : Option Byte) (t : TestRec) (num : Nat) :
    (s.answerAbort h g t).headCal num = s.headCal num := by
  simp [State.headCal]
@[simp] theorem State.endTest_audit (s : State) (h : Nat) (num : Nat) : (s.endTest h).audit num = s.audit num := by
  simp [State.audit]
@[simp] theorem State.endTest_bus (s : State) (h : Nat) (num : Nat) : (s.endTest h).bus num = s.bus num := by
  simp [State.bus]
@[simp] theorem State.endTest_stepRec (s : State) (h : Nat) (num : Nat) :
    (s.endTest h).stepRec num = s.stepRec num := by
  simp [State.stepRec]
@[simp] theorem State.endTest_plan (s : State) (h : Nat) (num : Nat) : (s.endTest h).plan num = s.plan num := by
  simp [State.plan]
@[simp] theorem State.endTest_headCal (s : State) (h : Nat) (num : Nat) :
    (s.endTest h).headCal num = s.headCal num := by
  simp [State.headCal]
@[simp] theorem State.finishRelease_audit (s : State) (h : Nat) (num : Nat) :
    (s.finishRelease h).audit num = s.audit num := by
  simp [State.audit]
@[simp] theorem State.finishRelease_stepRec (s : State) (h : Nat) (num : Nat) :
    (s.finishRelease h).stepRec num = s.stepRec num := by
  simp [State.stepRec]
@[simp] theorem State.finishRelease_plan (s : State) (h : Nat) (num : Nat) :
    (s.finishRelease h).plan num = s.plan num := by
  simp [State.plan]
@[simp] theorem State.finishRelease_headCal (s : State) (h : Nat) (num : Nat) :
    (s.finishRelease h).headCal num = s.headCal num := by
  simp [State.headCal]
@[simp] theorem State.freeClaim_line (s : State) (b : Nat) (p : Bool) (num : Nat) :
    (s.freeClaim b p).line num = s.line num := by
  simp [State.line]
@[simp] theorem State.freeClaim_audit (s : State) (b : Nat) (p : Bool) (num : Nat) :
    (s.freeClaim b p).audit num = s.audit num := by
  simp [State.audit]
@[simp] theorem State.freeClaim_chan (s : State) (b : Nat) (p : Bool) (num : Nat) :
    (s.freeClaim b p).chan num = s.chan num := by
  simp [State.chan]
@[simp] theorem State.freeClaim_stepRec (s : State) (b : Nat) (p : Bool) (num : Nat) :
    (s.freeClaim b p).stepRec num = s.stepRec num := by
  simp [State.stepRec]
@[simp] theorem State.freeClaim_plan (s : State) (b : Nat) (p : Bool) (num : Nat) :
    (s.freeClaim b p).plan num = s.plan num := by
  simp [State.plan]
@[simp] theorem State.freeClaim_headCal (s : State) (b : Nat) (p : Bool) (num : Nat) :
    (s.freeClaim b p).headCal num = s.headCal num := by
  simp [State.headCal]
@[simp] theorem State.completeRelease_audit (s : State) (h b l : Nat) (num : Nat) :
    (s.completeRelease h b l).audit num = s.audit num := by
  simp [State.audit]
@[simp] theorem State.completeRelease_stepRec (s : State) (h b l : Nat) (num : Nat) :
    (s.completeRelease h b l).stepRec num = s.stepRec num := by
  simp [State.stepRec]
@[simp] theorem State.completeRelease_plan (s : State) (h b l : Nat) (num : Nat) :
    (s.completeRelease h b l).plan num = s.plan num := by
  simp [State.plan]
@[simp] theorem State.completeRelease_headCal (s : State) (h b l : Nat) (num : Nat) :
    (s.completeRelease h b l).headCal num = s.headCal num := by
  simp [State.headCal]
@[simp] theorem State.stickRelay_audit (s : State) (b l : Nat) (num : Nat) :
    (s.stickRelay b l).audit num = s.audit num := by
  simp [State.audit]
@[simp] theorem State.stickRelay_chan (s : State) (b l : Nat) (num : Nat) :
    (s.stickRelay b l).chan num = s.chan num := by
  simp [State.chan]
@[simp] theorem State.stickRelay_stepRec (s : State) (b l : Nat) (num : Nat) :
    (s.stickRelay b l).stepRec num = s.stepRec num := by
  simp [State.stepRec]
@[simp] theorem State.stickRelay_plan (s : State) (b l : Nat) (num : Nat) :
    (s.stickRelay b l).plan num = s.plan num := by
  simp [State.plan]
@[simp] theorem State.stickRelay_headCal (s : State) (b l : Nat) (num : Nat) :
    (s.stickRelay b l).headCal num = s.headCal num := by
  simp [State.headCal]
@[simp] theorem State.timeOutRelease_audit (s : State) (h b l : Nat) (num : Nat) :
    (s.timeOutRelease h b l).audit num = s.audit num := by
  simp [State.audit]
@[simp] theorem State.timeOutRelease_stepRec (s : State) (h b l : Nat) (num : Nat) :
    (s.timeOutRelease h b l).stepRec num = s.stepRec num := by
  simp [State.stepRec]
@[simp] theorem State.timeOutRelease_plan (s : State) (h b l : Nat) (num : Nat) :
    (s.timeOutRelease h b l).plan num = s.plan num := by
  simp [State.plan]
@[simp] theorem State.timeOutRelease_headCal (s : State) (h b l : Nat) (num : Nat) :
    (s.timeOutRelease h b l).headCal num = s.headCal num := by
  simp [State.headCal]
@[simp] theorem State.requestAudit_line (s : State) (c : Nat) (num : Nat) :
    (s.requestAudit c).line num = s.line num := by
  simp [State.line]
@[simp] theorem State.requestAudit_bus (s : State) (c : Nat) (num : Nat) : (s.requestAudit c).bus num = s.bus num := by
  simp [State.bus]
@[simp] theorem State.requestAudit_chan (s : State) (c : Nat) (num : Nat) :
    (s.requestAudit c).chan num = s.chan num := by
  simp [State.chan]
@[simp] theorem State.requestAudit_stepRec (s : State) (c : Nat) (num : Nat) :
    (s.requestAudit c).stepRec num = s.stepRec num := by
  simp [State.stepRec]
@[simp] theorem State.requestAudit_plan (s : State) (c : Nat) (num : Nat) :
    (s.requestAudit c).plan num = s.plan num := by
  simp [State.plan]
@[simp] theorem State.requestAudit_headCal (s : State) (c : Nat) (num : Nat) :
    (s.requestAudit c).headCal num = s.headCal num := by
  simp [State.headCal]
@[simp] theorem State.requestAudits_line (s : State) (l : List Nat) (num : Nat) :
    (s.requestAudits l).line num = s.line num := by
  simp [State.line]
@[simp] theorem State.requestAudits_bus (s : State) (l : List Nat) (num : Nat) :
    (s.requestAudits l).bus num = s.bus num := by
  simp [State.bus]
@[simp] theorem State.requestAudits_chan (s : State) (l : List Nat) (num : Nat) :
    (s.requestAudits l).chan num = s.chan num := by
  simp [State.chan]
@[simp] theorem State.requestAudits_stepRec (s : State) (l : List Nat) (num : Nat) :
    (s.requestAudits l).stepRec num = s.stepRec num := by
  simp [State.stepRec]
@[simp] theorem State.requestAudits_plan (s : State) (l : List Nat) (num : Nat) :
    (s.requestAudits l).plan num = s.plan num := by
  simp [State.plan]
@[simp] theorem State.requestAudits_headCal (s : State) (l : List Nat) (num : Nat) :
    (s.requestAudits l).headCal num = s.headCal num := by
  simp [State.headCal]
@[simp] theorem State.countedTransition_audit (s : State) (l : Nat) (num : Nat) :
    (s.countedTransition l).audit num = s.audit num := by
  simp [State.audit]
@[simp] theorem State.countedTransition_bus (s : State) (l : Nat) (num : Nat) :
    (s.countedTransition l).bus num = s.bus num := by
  simp [State.bus]
@[simp] theorem State.countedTransition_chan (s : State) (l : Nat) (num : Nat) :
    (s.countedTransition l).chan num = s.chan num := by
  simp [State.chan]
@[simp] theorem State.countedTransition_stepRec (s : State) (l : Nat) (num : Nat) :
    (s.countedTransition l).stepRec num = s.stepRec num := by
  simp [State.stepRec]
@[simp] theorem State.countedTransition_plan (s : State) (l : Nat) (num : Nat) :
    (s.countedTransition l).plan num = s.plan num := by
  simp [State.plan]
@[simp] theorem State.countedTransition_headCal (s : State) (l : Nat) (num : Nat) :
    (s.countedTransition l).headCal num = s.headCal num := by
  simp [State.headCal]
@[simp] theorem State.loopEvent_audit (s : State) (l : Nat) (e : ScanEvent) (num : Nat) :
    (s.loopEvent l e).audit num = s.audit num := by
  simp [State.audit]
@[simp] theorem State.loopEvent_stepRec (s : State) (l : Nat) (e : ScanEvent) (num : Nat) :
    (s.loopEvent l e).stepRec num = s.stepRec num := by
  simp [State.stepRec]
@[simp] theorem State.loopEvent_plan (s : State) (l : Nat) (e : ScanEvent) (num : Nat) :
    (s.loopEvent l e).plan num = s.plan num := by
  simp [State.plan]
@[simp] theorem State.loopEvent_headCal (s : State) (l : Nat) (e : ScanEvent) (num : Nat) :
    (s.loopEvent l e).headCal num = s.headCal num := by
  simp [State.headCal]
@[simp] theorem State.setCardCondition_audit (s : State) (c : Nat) (k : Condition) (num : Nat) :
    (s.setCardCondition c k).audit num = s.audit num := by
  simp [State.audit]
@[simp] theorem State.setCardCondition_bus (s : State) (c : Nat) (k : Condition) (num : Nat) :
    (s.setCardCondition c k).bus num = s.bus num := by
  simp [State.bus]
@[simp] theorem State.setCardCondition_chan (s : State) (c : Nat) (k : Condition) (num : Nat) :
    (s.setCardCondition c k).chan num = s.chan num := by
  simp [State.chan]
@[simp] theorem State.setCardCondition_stepRec (s : State) (c : Nat) (k : Condition) (num : Nat) :
    (s.setCardCondition c k).stepRec num = s.stepRec num := by
  simp [State.stepRec]
@[simp] theorem State.setCardCondition_plan (s : State) (c : Nat) (k : Condition) (num : Nat) :
    (s.setCardCondition c k).plan num = s.plan num := by
  simp [State.plan]
@[simp] theorem State.setCardCondition_headCal (s : State) (c : Nat) (k : Condition) (num : Nat) :
    (s.setCardCondition c k).headCal num = s.headCal num := by
  simp [State.headCal]
@[simp] theorem State.cardDown_audit (s : State) (c : Nat) (num : Nat) : (s.cardDown c).audit num = s.audit num := by
  simp [State.audit]
@[simp] theorem State.cardDown_bus (s : State) (c : Nat) (num : Nat) : (s.cardDown c).bus num = s.bus num := by
  simp [State.bus]
@[simp] theorem State.cardDown_chan (s : State) (c : Nat) (num : Nat) : (s.cardDown c).chan num = s.chan num := by
  simp [State.chan]
@[simp] theorem State.cardDown_stepRec (s : State) (c : Nat) (num : Nat) :
    (s.cardDown c).stepRec num = s.stepRec num := by
  simp [State.stepRec]
@[simp] theorem State.cardDown_plan (s : State) (c : Nat) (num : Nat) : (s.cardDown c).plan num = s.plan num := by
  simp [State.plan]
@[simp] theorem State.cardDown_headCal (s : State) (c : Nat) (num : Nat) :
    (s.cardDown c).headCal num = s.headCal num := by
  simp [State.headCal]
@[simp] theorem State.cardOk_bus (s : State) (c : Nat) (num : Nat) : (s.cardOk c).bus num = s.bus num := by
  simp [State.bus]
@[simp] theorem State.cardOk_chan (s : State) (c : Nat) (num : Nat) : (s.cardOk c).chan num = s.chan num := by
  simp [State.chan]
@[simp] theorem State.cardOk_stepRec (s : State) (c : Nat) (num : Nat) : (s.cardOk c).stepRec num = s.stepRec num := by
  simp [State.stepRec]
@[simp] theorem State.cardOk_plan (s : State) (c : Nat) (num : Nat) : (s.cardOk c).plan num = s.plan num := by
  simp [State.plan]
@[simp] theorem State.cardOk_headCal (s : State) (c : Nat) (num : Nat) : (s.cardOk c).headCal num = s.headCal num := by
  simp [State.headCal]
@[simp] theorem State.foldYield_audit (s : State) (l : List Nat) (num : Nat) :
    (l.foldl State.yieldTrigger s).audit num = s.audit num := by
  simp [State.audit]
@[simp] theorem State.foldYield_stepRec (s : State) (l : List Nat) (num : Nat) :
    (l.foldl State.yieldTrigger s).stepRec num = s.stepRec num := by
  simp [State.stepRec]
@[simp] theorem State.foldYield_plan (s : State) (l : List Nat) (num : Nat) :
    (l.foldl State.yieldTrigger s).plan num = s.plan num := by
  simp [State.plan]
@[simp] theorem State.foldYield_headCal (s : State) (l : List Nat) (num : Nat) :
    (l.foldl State.yieldTrigger s).headCal num = s.headCal num := by
  simp [State.headCal]
@[simp] theorem State.cardState_stepRec (s : State) (c m : Nat) (num : Nat) :
    (s.cardState c m).stepRec num = s.stepRec num := by
  simp [State.stepRec]
@[simp] theorem State.cardState_plan (s : State) (c m : Nat) (num : Nat) : (s.cardState c m).plan num = s.plan num := by
  simp [State.plan]
@[simp] theorem State.cardState_headCal (s : State) (c m : Nat) (num : Nat) :
    (s.cardState c m).headCal num = s.headCal num := by
  simp [State.headCal]

/-- A line's access after a change of access: only that line's access changes. -/
@[simp] theorem State.setAccess_line (s : State) (l : Nat) (a : Access) (num : Nat) :
    (s.setAccess l a).line num = if num = l then { s.line l with access := a } else s.line num := by
  simp [State.setAccess]
/-- A line's condition after a change of condition: only that line's condition changes. -/
@[simp] theorem State.setCondition_line (s : State) (l : Nat) (c : Condition) (num : Nat) :
    (s.setCondition l c).line num = if num = l then { s.line l with condition := c } else s.line num := by
  simp [State.setCondition]

end Sys2Proof.Machine
end

