-- ==== Sys2Proof/Laws/Sweep.lean ====
section
/-! SUPPORT. The Sweep Unit's acts: what the settling of an act keeps, said once; when it does nothing. -/

namespace Sys2Proof.Machine

/-- A property that no act of the Sweep Unit takes away: it does not depend on the Sweep Unit's own state, and it survives the
start of a test, a routine field, a ticket raised or cleared, a notice and an audit. -/
structure SweepFree (P : State → Prop) : Prop where
  sweep : ∀ s w, P s → P { s with sweep := w }
  start : ∀ s h b t o, s.idleChannel = some h → s.freeBus t.line = some b → P s → P (s.startTest h b t o)
  write : ∀ s l p o, P s → P (s.writeRoutine l p o)
  raise : ∀ s l c e, P s → P (s.raise .line l c e)
  clear : ∀ s l, P s → P (s.clearTicket .line l .intermittentLoop)
  note : ∀ s k b, P s → P (s.notify k b)
  audit : ∀ s c, P s → P (s.requestAudit c)

namespace SweepFree

variable {P : State → Prop} (h : SweepFree P)

/-- The state an answer of a source carries. -/
def carried : Served → State
  | .started s => s
  | .handled s => s
  | .passed s => s
  | .ended s => s

include h

theorem count {s} (g) (hp : P s) : P (s.count g) := by
  unfold State.count; split
  · exact h.sweep _ _ hp
  · exact hp

theorem missLine {s} (l) (hp : P s) : P (s.missLine l) := h.write _ _ _ _ (h.count _ hp)

theorem deferLine {s} (l p) (hp : P s) : P (s.deferLine l p) := h.count _ (h.sweep _ _ hp)

theorem offerSuspect {s} (l p r) (hp : P s) : P (s.offerSuspect l p r) := by
  unfold State.offerSuspect
  split
  · exact hp
  · exact hp
  · exact h.count _ hp
  · exact h.sweep _ _ (h.sweep _ _ hp)

theorem bookEnd {s} (e) (hp : P s) : P (s.bookEnd e) := by
  dsimp only [State.bookEnd]
  split
  · split
    · unfold State.countYield
      have hw := h.write _ e.line e.pass .missed hp
      split
      · split
        · exact h.deferLine _ _ hw
        · exact h.count _ hw
      · split
        · exact h.deferLine _ _ hw
        · exact h.count _ hw
      · exact h.count _ hw
      · exact hw
    · exact h.write _ _ _ _ hp
  · split
    · exact h.count _ (h.write _ _ _ _ hp)
    · exact h.write _ _ _ _ hp

theorem routineEnded {s} (e) (hp : P s) : P (s.routineEnded e) := by
  apply h.sweep
  have hb := h.bookEnd e hp
  generalize s.bookEnd e = u at hb
  unfold State.originActions
  (repeat' split) <;>
    first | exact hb | exact h.offerSuspect _ _ _ hb | exact h.raise _ _ _ _ hb | exact h.clear _ _ hb

theorem discardContext {s} (c) (hp : P s) : P (s.discardContext c) := by
  unfold State.discardContext
  split
  · exact h.write _ _ _ _ (h.count _ hp)
  · exact hp

theorem endDrain {s} (hp : P s) : P s.endDrain := by
  unfold State.endDrain
  split
  · exact h.sweep _ _ (h.note _ _ _ hp)
  · exact hp

theorem audits {s} (l : List Nat) (hp : P s) : P (s.requestAudits l) := by
  unfold State.requestAudits
  induction l generalizing s with
  | nil => exact hp
  | cons c l ih => exact ih (h.audit _ c hp)

theorem startPass {s} (hp : P s) : P s.startPass :=
  h.sweep _ _ (h.sweep _ _ (h.note _ _ _ (h.sweep _ _ (h.audits _ (h.sweep _ _ hp)))))

theorem endPass {s} (hp : P s) : P s.endPass := h.sweep _ _ (h.note _ _ _ hp)

theorem walked {s} (r l k) (hp : P s) : P (s.walked r l k) := by
  apply h.sweep
  split
  · exact h.sweep _ _ (h.note _ _ _ hp)
  · exact hp

theorem requestRoutine {s s1} {t o} (hr : s.requestRoutine t o = .started s1) (hp : P s) : P s1 := by
  unfold State.requestRoutine at hr
  split at hr
  · cases hr
  · split at hr
    · cases hr; exact h.start _ _ _ _ _ ‹_› ‹_› hp
    · cases hr
    · cases hr

theorem yieldContext {s} (c) (hp : P s) : P (s.yieldContext c) := by
  apply h.routineEnded
  unfold State.sendReport
  split
  · exact h.note _ _ _ hp
  · exact hp

theorem serveContext {s} (hp : P s) : P (carried s.serveContext) := by
  have hd : ∀ c rest, P (carried (if (State.yieldContext { s with sweep.suspended := rest } c).passDone && !s.passDone
      then .ended (State.yieldContext { s with sweep.suspended := rest } c)
      else .handled { State.yieldContext { s with sweep.suspended := rest } c with sweep.attemptDue := false })) := by
    intro c rest
    have hy := h.yieldContext c (h.sweep s { s.sweep with suspended := rest } hp)
    split
    · exact hy
    · exact h.sweep _ _ hy
  dsimp only [State.serveContext]
  split
  · exact hp
  · split
    · exact hp
    · split
      · split
        · exact h.sweep _ _ (h.requestRoutine ‹_› hp)
        · exact hp
        · exact hp
        · exact hd _ _
      · exact hd _ _

theorem serveSuspect {s} (m) (hp : P s) : P (carried (s.serveSuspect m).1) := by
  dsimp only [State.serveSuspect]
  (repeat' split) <;>
    first
      | exact hp
      | exact h.sweep _ _ hp
      | exact h.missLine _ (h.sweep _ _ hp)
      | exact h.sweep _ _ (h.requestRoutine ‹_› hp)

theorem serveWalk {s} (hp : P s) : P (carried s.serveWalk) := by
  dsimp only [State.serveWalk]
  (repeat' split) <;>
    first
      | exact hp
      | exact h.walked _ _ _ hp
      | exact h.walked _ _ _ (h.count _ hp)
      | exact h.walked _ _ _ (h.deferLine _ _ hp)
      | exact h.walked _ _ _ (h.missLine _ hp)
      | exact h.walked _ _ _ (h.requestRoutine ‹_› hp)

theorem serveRevisit {s} (hp : P s) : P (carried s.serveRevisit) := by
  dsimp only [State.serveRevisit]
  (repeat' split) <;>
    first
      | exact hp
      | exact h.sweep _ _ hp
      | exact h.missLine _ (h.sweep _ _ hp)
      | exact h.sweep _ _ (h.requestRoutine ‹_› hp)

theorem contextsOn {s} (n) (hp : P s) : P (carried (State.contextsOn n s)) := by
  induction n generalizing s with
  | zero => exact hp
  | succ n ih =>
    unfold State.contextsOn
    have hs := h.serveContext hp
    split
    · rename_i heq; rw [heq] at hs; exact ih hs
    · exact hs

theorem suspectsOn {s} (n m) (hp : P s) : P (carried (State.suspectsOn n s m).1) := by
  induction n generalizing s m with
  | zero => exact hp
  | succ n ih =>
    unfold State.suspectsOn
    have hs := h.serveSuspect m hp
    split
    · rename_i heq; rw [heq] at hs; exact ih _ hs
    · exact hs

theorem walkOn {s} (n) (hp : P s) : P (carried (State.walkOn n s)) := by
  induction n generalizing s with
  | zero => exact hp
  | succ n ih =>
    unfold State.walkOn
    have hs := h.serveWalk hp
    split
    · rename_i heq; rw [heq] at hs; exact ih hs
    · exact hs

theorem revisitsOn {s} (n) (hp : P s) : P (carried (State.revisitsOn n s)) := by
  induction n generalizing s with
  | zero => exact hp
  | succ n ih =>
    unfold State.revisitsOn
    have hs := h.serveRevisit hp
    split
    · rename_i heq; rw [heq] at hs; exact ih hs
    · exact hs

theorem serve {s} (m) (hp : P s) : P (carried (s.serve m).1) := by
  unfold State.serve
  have h1 := h.contextsOn (s.sweep.suspended.length + 1) hp
  split
  · rename_i s1 heq
    rw [heq] at h1
    have h2 := h.suspectsOn (s := s1) (s1.sweep.suspects.length + 1) m h1
    split
    · rename_i s2 m' heq2
      rw [heq2] at h2
      have h3 := h.walkOn (s := s2) (candidates s2.sweep.config.ranges + 1) h2
      split
      · rename_i s3 heq3
        rw [heq3] at h3
        exact h.revisitsOn (s := s3) _ h3
      · exact h3
    · exact h2
  · exact h1

theorem attempt {s} (n m) (hp : P s) : P (State.attempt n m s) := by
  induction n generalizing s m with
  | zero => exact hp
  | succ n ih =>
    unfold State.attempt
    have hs := h.serve m hp
    split <;> rename_i heq <;> rw [heq] at hs
    · exact ih _ hs
    · exact hs
    · exact hs
    · exact hs

theorem attemptIfDue {s} (hp : P s) : P s.attemptIfDue := by
  unfold State.attemptIfDue; split
  · exact h.attempt _ _ (h.sweep _ _ hp)
  · exact hp

/-- So does a pass start, with its attempt. -/
theorem beginPass {s} (hp : P s) : P s.beginPass := h.attemptIfDue (h.startPass hp)

theorem settleWith {s} (n last) (hp : P s) : P (State.settleWith n last s) := by
  induction n generalizing s last with
  | zero => exact hp
  | succ n ih =>
    unfold State.settleWith
    have h1 := h.endDrain hp
    have h2 := h.endPass h1
    have h3 : ∀ ms, P (s.endDrain.endPass.startInterval ms) := fun _ => h.sweep _ _ h2
    have h4 := h.beginPass h2
    have h5 := h.attemptIfDue h1
    dsimp only
    split
    · split
      · split
        · exact ih _ (h3 _)
        · exact ih _ h4
      · exact ih _ (h3 _)
    · split
      · exact ih _ h5
      · exact h1

/-- The settling of an act keeps the property. -/
theorem settle {s} (hp : P s) : P s.settle := h.settleWith _ _ hp

/-- So does an act that starts a pass. -/
theorem runPass {s} (hp : P s) : P s.runPass := h.settleWith _ _ (h.beginPass hp)

end SweepFree

/-- With the sweep STOPPED there is nothing to settle: a due attempt starts nothing (R154). -/
theorem State.settleWith_stopped (n : Nat) (last : Option Backlog) (s : State) (h : s.sweep.state = .stopped) :
    State.settleWith (n + 2) last s = { s with sweep.attemptDue := false } := by
  have hd : s.endDrain = s := by simp [State.endDrain, h]
  have hp : s.passDone = false := by simp [State.passDone, h]
  have hserve : ∀ u : State, u.sweep.state = .stopped → ∃ m, u.serve [] = (.passed u, m) := by
    intro u hu
    have c1 : u.contextsOn (u.sweep.suspended.length + 1) = .passed u := by
      simp [State.contextsOn, State.serveContext, State.mayResume, hu]
    have c2 : u.suspectsOn (u.sweep.suspects.length + 1) [] = (.passed u, []) := by
      simp [State.suspectsOn, State.serveSuspect, State.maySuspect, hu]
    have c3 : u.walkOn (candidates u.sweep.config.ranges + 1) = .passed u := by
      simp only [State.walkOn, State.serveWalk, State.mayWalk, State.mayResume, hu]
      cases u.sweep.walk <;> simp
    have c4 : u.revisitsOn (u.sweep.revisits.length + 1) = .passed u := by
      simp [State.revisitsOn, State.serveRevisit, State.mayWalk, State.mayResume, hu]
    exact ⟨[], by simp only [State.serve, c1, c2, c3, c4]⟩
  by_cases ha : s.sweep.attemptDue = true
  · have hu : ({ s with sweep.attemptDue := false } : State).sweep.state = .stopped := h
    obtain ⟨m, hm⟩ := hserve { s with sweep.attemptDue := false } hu
    have hat : State.attempt attemptFuel [] { s with sweep.attemptDue := false } = { s with sweep.attemptDue := false } := by
      unfold attemptFuel State.attempt
      rw [hm]
    have hd2 : ({ s with sweep.attemptDue := false } : State).endDrain = { s with sweep.attemptDue := false } := by
      simp [State.endDrain, h]
    have hp2 : ({ s with sweep.attemptDue := false } : State).passDone = false := by simp [State.passDone, h]
    rw [State.settleWith]
    simp only [hd, hp, ha, Bool.false_eq_true, if_false, if_true, State.attemptIfDue, hat]
    rw [State.settleWith]
    simp only [hd2, hp2, Bool.false_eq_true, if_false]
  · have ha' : s.sweep.attemptDue = false := by simpa using ha
    rw [State.settleWith]
    simp only [hd, hp, ha', Bool.false_eq_true, if_false]
    have : ({ s with sweep.attemptDue := false } : State) = s := by rw [← ha']
    rw [this]

/-- With the sweep STOPPED an act has nothing to settle (R154). -/
theorem State.settle_stopped (s : State) (h : s.sweep.state = .stopped) :
    s.settle = { s with sweep.attemptDue := false } := State.settleWith_stopped 254 none s h

/-- What no act of the Sweep Unit changes. -/
def State.SweepKeeps (s u : State) : Prop :=
    u.phase = s.phase ∧ u.now = s.now ∧ u.minute = s.minute ∧ u.nextFlap = s.nextFlap ∧ u.nextMinute = s.nextMinute ∧
      u.hourDue = s.hourDue ∧ u.params = s.params ∧ u.hold = s.hold ∧ u.flushes = s.flushes ∧ u.steps = s.steps ∧
      u.plans = s.plans ∧ u.cal = s.cal ∧ u.limits = s.limits ∧ u.choice = s.choice ∧ u.pending = s.pending ∧
      u.link.down = s.link.down ∧ u.link.up = s.link.up ∧ u.desk.commands = s.desk.commands ∧
      u.desk.reservations = s.desk.reservations

theorem State.sweepKeeps_free (s : State) : SweepFree s.SweepKeeps := by
  unfold State.SweepKeeps
  refine ⟨?_, ?_, ?_, ?_, ?_, ?_, ?_⟩
  all_goals intros; simp_all

theorem State.settleWith_keeps (s : State) (n : Nat) (b : Option Backlog) : s.SweepKeeps (State.settleWith n b s) :=
  s.sweepKeeps_free.settleWith n b (by simp [State.SweepKeeps])

@[simp] theorem State.settle_keeps (s : State) :
    s.settle.phase = s.phase ∧ s.settle.now = s.now ∧ s.settle.minute = s.minute ∧ s.settle.nextFlap = s.nextFlap ∧
      s.settle.nextMinute = s.nextMinute ∧ s.settle.hourDue = s.hourDue ∧ s.settle.params = s.params ∧ s.settle.hold = s.hold ∧
      s.settle.flushes = s.flushes ∧ s.settle.steps = s.steps ∧ s.settle.plans = s.plans ∧ s.settle.cal = s.cal ∧
      s.settle.limits = s.limits ∧ s.settle.choice = s.choice ∧ s.settle.pending = s.pending ∧ s.settle.link.down = s.link.down ∧
      s.settle.link.up = s.link.up ∧ s.settle.desk.commands = s.desk.commands ∧ s.settle.desk.reservations = s.desk.reservations :=
  s.sweepKeeps_free.settle (by simp [State.SweepKeeps])

@[simp] theorem State.runPass_keeps (s : State) :
    s.runPass.phase = s.phase ∧ s.runPass.now = s.now ∧ s.runPass.minute = s.minute ∧ s.runPass.nextFlap = s.nextFlap ∧
      s.runPass.nextMinute = s.nextMinute ∧ s.runPass.hourDue = s.hourDue ∧ s.runPass.params = s.params ∧
      s.runPass.hold = s.hold ∧ s.runPass.flushes = s.flushes ∧ s.runPass.steps = s.steps ∧ s.runPass.plans = s.plans ∧
      s.runPass.cal = s.cal ∧ s.runPass.limits = s.limits ∧ s.runPass.choice = s.choice ∧ s.runPass.pending = s.pending ∧
      s.runPass.link.down = s.link.down ∧ s.runPass.link.up = s.link.up ∧ s.runPass.desk.commands = s.desk.commands ∧
      s.runPass.desk.reservations = s.desk.reservations :=
  s.sweepKeeps_free.runPass (by simp [State.SweepKeeps])

@[simp] theorem State.startPass_keeps (s : State) :
    (s.startPass).phase = s.phase ∧ (s.startPass).now = s.now ∧ (s.startPass).minute = s.minute ∧
      (s.startPass).nextFlap = s.nextFlap ∧ (s.startPass).nextMinute = s.nextMinute ∧
      (s.startPass).hourDue = s.hourDue ∧ (s.startPass).lines = s.lines ∧ (s.startPass).params = s.params ∧
      (s.startPass).hold = s.hold ∧ (s.startPass).flushes = s.flushes ∧ (s.startPass).buses = s.buses ∧
      (s.startPass).steps = s.steps ∧ (s.startPass).plans = s.plans ∧ (s.startPass).chans = s.chans ∧
      (s.startPass).cal = s.cal ∧ (s.startPass).limits = s.limits ∧ (s.startPass).tickets = s.tickets ∧
      (s.startPass).choice = s.choice ∧ (s.startPass).pending = s.pending ∧ (s.startPass).link.down = s.link.down ∧
      (s.startPass).link.up = s.link.up ∧ (s.startPass).desk.commands = s.desk.commands ∧
      (s.startPass).desk.reservations = s.desk.reservations := by
  simp [State.startPass]

/-- A pass starts, makes its attempt in RUNNING, and the act is settled (R152, R162; log entry 45). -/
theorem State.runPass_eq (s : State) : s.runPass = State.settleWith 256 (some s.backlog)
    (State.attempt 5 [] { s.startPass with sweep := { s.startPass.sweep with attemptDue := false } }) := by
  have : s.startPass.sweep.attemptDue = true := by simp [State.startPass]
  simp only [State.runPass, State.beginPass, State.attemptIfDue, this, if_true]; rfl

end Sys2Proof.Machine
end

