-- ==== Sys2Proof/Laws/Highway.lean ====
section
/-! SUPPORT. What the highway events leave. -/

namespace Sys2Proof.Machine

@[simp] theorem State.countDiscard_keeps (s : State) (p : PortId) :
    (s.countDiscard p).phase = s.phase ∧ (s.countDiscard p).now = s.now ∧ (s.countDiscard p).minute = s.minute ∧
      (s.countDiscard p).nextFlap = s.nextFlap ∧ (s.countDiscard p).nextMinute = s.nextMinute ∧
      (s.countDiscard p).hourDue = s.hourDue ∧ (s.countDiscard p).lines = s.lines ∧
      (s.countDiscard p).audits = s.audits ∧ (s.countDiscard p).desk = s.desk ∧ (s.countDiscard p).params = s.params ∧
      (s.countDiscard p).hold = s.hold ∧ (s.countDiscard p).flushes = s.flushes ∧ (s.countDiscard p).buses = s.buses ∧
      (s.countDiscard p).steps = s.steps ∧ (s.countDiscard p).plans = s.plans ∧ (s.countDiscard p).chans = s.chans ∧
      (s.countDiscard p).cal = s.cal ∧ (s.countDiscard p).limits = s.limits ∧ (s.countDiscard p).sweep = s.sweep ∧
      (s.countDiscard p).tickets = s.tickets ∧ (s.countDiscard p).choice = s.choice ∧
      (s.countDiscard p).pending = s.pending ∧ (s.countDiscard p).link.down = s.link.down ∧
      (s.countDiscard p).link.up = s.link.up ∧ (s.countDiscard p).link.sOwn = s.link.sOwn ∧
      (s.countDiscard p).link.offers = s.link.offers ∧ (s.countDiscard p).link.serial = s.link.serial := by
  cases p <;> simp [State.countDiscard]

@[simp] theorem State.enterCommand_keeps (s : State) (f : Bytes) :
    (s.enterCommand f).phase = s.phase ∧ (s.enterCommand f).now = s.now ∧ (s.enterCommand f).minute = s.minute ∧
      (s.enterCommand f).nextFlap = s.nextFlap ∧ (s.enterCommand f).nextMinute = s.nextMinute ∧
      (s.enterCommand f).hourDue = s.hourDue ∧ (s.enterCommand f).lines = s.lines ∧
      (s.enterCommand f).audits = s.audits ∧ (s.enterCommand f).link = s.link ∧ (s.enterCommand f).params = s.params ∧
      (s.enterCommand f).hold = s.hold ∧ (s.enterCommand f).flushes = s.flushes ∧ (s.enterCommand f).buses = s.buses ∧
      (s.enterCommand f).steps = s.steps ∧ (s.enterCommand f).plans = s.plans ∧ (s.enterCommand f).chans = s.chans ∧
      (s.enterCommand f).cal = s.cal ∧ (s.enterCommand f).limits = s.limits ∧ (s.enterCommand f).sweep = s.sweep ∧
      (s.enterCommand f).tickets = s.tickets ∧ (s.enterCommand f).choice = s.choice ∧
      (s.enterCommand f).pending = s.pending ∧ (s.enterCommand f).desk.notices = s.desk.notices ∧
      (s.enterCommand f).desk.reservations = s.desk.reservations ∧ (s.enterCommand f).desk.lost = s.desk.lost := by
  simp [State.enterCommand]

@[simp] theorem State.dispatchU_keeps (s : State) (f : Bytes) :
    (s.dispatchU f).phase = s.phase ∧ (s.dispatchU f).now = s.now ∧ (s.dispatchU f).minute = s.minute ∧
      (s.dispatchU f).nextFlap = s.nextFlap ∧ (s.dispatchU f).nextMinute = s.nextMinute ∧
      (s.dispatchU f).hourDue = s.hourDue ∧ (s.dispatchU f).audits = s.audits ∧ (s.dispatchU f).params = s.params ∧
      (s.dispatchU f).flushes = s.flushes ∧ (s.dispatchU f).steps = s.steps ∧ (s.dispatchU f).plans = s.plans ∧
      (s.dispatchU f).cal = s.cal ∧ (s.dispatchU f).limits = s.limits ∧ (s.dispatchU f).sweep = s.sweep ∧
      (s.dispatchU f).tickets = s.tickets ∧ (s.dispatchU f).choice = s.choice ∧ (s.dispatchU f).pending = s.pending ∧
      (s.dispatchU f).link.up = s.link.up ∧ (s.dispatchU f).desk.reservations = s.desk.reservations := by
  dsimp only [State.dispatchU]
  (repeat' split) <;> simp

@[simp] theorem State.bypassU_keeps (s : State) (f : Bytes) :
    (s.bypassU f).phase = s.phase ∧ (s.bypassU f).now = s.now ∧ (s.bypassU f).minute = s.minute ∧
      (s.bypassU f).nextFlap = s.nextFlap ∧ (s.bypassU f).nextMinute = s.nextMinute ∧
      (s.bypassU f).hourDue = s.hourDue ∧ (s.bypassU f).lines = s.lines ∧ (s.bypassU f).audits = s.audits ∧
      (s.bypassU f).desk = s.desk ∧ (s.bypassU f).params = s.params ∧ (s.bypassU f).hold = s.hold ∧
      (s.bypassU f).flushes = s.flushes ∧ (s.bypassU f).buses = s.buses ∧ (s.bypassU f).steps = s.steps ∧
      (s.bypassU f).plans = s.plans ∧ (s.bypassU f).chans = s.chans ∧ (s.bypassU f).cal = s.cal ∧
      (s.bypassU f).limits = s.limits ∧ (s.bypassU f).sweep = s.sweep ∧ (s.bypassU f).tickets = s.tickets ∧
      (s.bypassU f).choice = s.choice ∧ (s.bypassU f).pending = s.pending ∧ (s.bypassU f).link.up = s.link.up ∧
      (s.bypassU f).link.sOwn = s.link.sOwn ∧ (s.bypassU f).link.offers = s.link.offers ∧
      (s.bypassU f).link.serial = s.link.serial ∧ (s.bypassU f).link.portU = s.link.portU := by
  dsimp only [State.bypassU]
  (repeat' split) <;> simp

@[simp] theorem State.readScanEvent_keeps (s : State) (x : Scan) :
    (s.readScanEvent x).phase = s.phase ∧ (s.readScanEvent x).now = s.now ∧ (s.readScanEvent x).minute = s.minute ∧
      (s.readScanEvent x).nextFlap = s.nextFlap ∧ (s.readScanEvent x).nextMinute = s.nextMinute ∧
      (s.readScanEvent x).hourDue = s.hourDue ∧ (s.readScanEvent x).params = s.params ∧
      (s.readScanEvent x).steps = s.steps ∧ (s.readScanEvent x).plans = s.plans ∧ (s.readScanEvent x).cal = s.cal ∧
      (s.readScanEvent x).limits = s.limits ∧ (s.readScanEvent x).pending = s.pending ∧
      (s.readScanEvent x).link.down = s.link.down ∧ (s.readScanEvent x).link.up = s.link.up ∧
      (s.readScanEvent x).desk.commands = s.desk.commands := by
  dsimp only [State.readScanEvent]
  (repeat' split) <;> simp

@[simp] theorem State.dispatchScan_keeps (s : State) (f : Bytes) (x : Scan) :
    (s.dispatchScan f x).phase = s.phase ∧ (s.dispatchScan f x).now = s.now ∧ (s.dispatchScan f x).minute = s.minute ∧
      (s.dispatchScan f x).nextFlap = s.nextFlap ∧ (s.dispatchScan f x).nextMinute = s.nextMinute ∧
      (s.dispatchScan f x).hourDue = s.hourDue ∧ (s.dispatchScan f x).params = s.params ∧
      (s.dispatchScan f x).steps = s.steps ∧ (s.dispatchScan f x).plans = s.plans ∧ (s.dispatchScan f x).cal = s.cal ∧
      (s.dispatchScan f x).limits = s.limits ∧ (s.dispatchScan f x).pending = s.pending ∧
      (s.dispatchScan f x).link.down = s.link.down ∧ (s.dispatchScan f x).desk.commands = s.desk.commands := by
  dsimp only [State.dispatchScan]
  (repeat' split) <;> simp

@[simp] theorem State.dispatchS_keeps (s : State) (f : Bytes) :
    (s.dispatchS f).phase = s.phase ∧ (s.dispatchS f).now = s.now ∧ (s.dispatchS f).minute = s.minute ∧
      (s.dispatchS f).nextFlap = s.nextFlap ∧ (s.dispatchS f).nextMinute = s.nextMinute ∧
      (s.dispatchS f).hourDue = s.hourDue ∧ (s.dispatchS f).params = s.params ∧ (s.dispatchS f).steps = s.steps ∧
      (s.dispatchS f).plans = s.plans ∧ (s.dispatchS f).limits = s.limits ∧ (s.dispatchS f).pending = s.pending ∧
      (s.dispatchS f).link.down = s.link.down ∧ (s.dispatchS f).desk.commands = s.desk.commands := by
  dsimp only [State.dispatchS]
  (repeat' split) <;> simp

@[simp] theorem State.bypassS_keeps (s : State) (f : Bytes) :
    (s.bypassS f).phase = s.phase ∧ (s.bypassS f).now = s.now ∧ (s.bypassS f).minute = s.minute ∧
      (s.bypassS f).nextFlap = s.nextFlap ∧ (s.bypassS f).nextMinute = s.nextMinute ∧
      (s.bypassS f).hourDue = s.hourDue ∧ (s.bypassS f).lines = s.lines ∧ (s.bypassS f).audits = s.audits ∧
      (s.bypassS f).desk = s.desk ∧ (s.bypassS f).params = s.params ∧ (s.bypassS f).hold = s.hold ∧
      (s.bypassS f).flushes = s.flushes ∧ (s.bypassS f).buses = s.buses ∧ (s.bypassS f).steps = s.steps ∧
      (s.bypassS f).plans = s.plans ∧ (s.bypassS f).chans = s.chans ∧ (s.bypassS f).cal = s.cal ∧
      (s.bypassS f).limits = s.limits ∧ (s.bypassS f).sweep = s.sweep ∧ (s.bypassS f).tickets = s.tickets ∧
      (s.bypassS f).choice = s.choice ∧ (s.bypassS f).pending = s.pending ∧ (s.bypassS f).link.down = s.link.down ∧
      (s.bypassS f).link.sOwn = s.link.sOwn ∧ (s.bypassS f).link.offers = s.link.offers ∧
      (s.bypassS f).link.serial = s.link.serial ∧ (s.bypassS f).link.portS = s.link.portS := by
  dsimp only [State.bypassS]
  (repeat' split) <;> simp

@[simp] theorem State.startTied_keeps (s : State) (f : OwnFrame) :
    (s.startTied f).phase = s.phase ∧ (s.startTied f).now = s.now ∧ (s.startTied f).minute = s.minute ∧
      (s.startTied f).nextFlap = s.nextFlap ∧ (s.startTied f).nextMinute = s.nextMinute ∧
      (s.startTied f).hourDue = s.hourDue ∧ (s.startTied f).lines = s.lines ∧ (s.startTied f).link = s.link ∧
      (s.startTied f).desk = s.desk ∧ (s.startTied f).params = s.params ∧ (s.startTied f).hold = s.hold ∧
      (s.startTied f).flushes = s.flushes ∧ (s.startTied f).steps = s.steps ∧ (s.startTied f).plans = s.plans ∧
      (s.startTied f).cal = s.cal ∧ (s.startTied f).limits = s.limits ∧ (s.startTied f).sweep = s.sweep ∧
      (s.startTied f).tickets = s.tickets ∧ (s.startTied f).choice = s.choice ∧ (s.startTied f).pending = s.pending := by
  dsimp only [State.startTied]
  (repeat' split) <;> simp

@[simp] theorem State.leaveDown_keeps (s : State) :
    (s.leaveDown).phase = s.phase ∧ (s.leaveDown).now = s.now ∧ (s.leaveDown).minute = s.minute ∧
      (s.leaveDown).nextFlap = s.nextFlap ∧ (s.leaveDown).nextMinute = s.nextMinute ∧
      (s.leaveDown).hourDue = s.hourDue ∧ (s.leaveDown).lines = s.lines ∧ (s.leaveDown).audits = s.audits ∧
      (s.leaveDown).desk = s.desk ∧ (s.leaveDown).params = s.params ∧ (s.leaveDown).hold = s.hold ∧
      (s.leaveDown).flushes = s.flushes ∧ (s.leaveDown).buses = s.buses ∧ (s.leaveDown).steps = s.steps ∧
      (s.leaveDown).plans = s.plans ∧ (s.leaveDown).chans = s.chans ∧ (s.leaveDown).cal = s.cal ∧
      (s.leaveDown).limits = s.limits ∧ (s.leaveDown).sweep = s.sweep ∧ (s.leaveDown).tickets = s.tickets ∧
      (s.leaveDown).choice = s.choice ∧ (s.leaveDown).pending = s.pending ∧ (s.leaveDown).link.up = s.link.up ∧
      (s.leaveDown).link.sOwn = s.link.sOwn ∧ (s.leaveDown).link.offers = s.link.offers ∧
      (s.leaveDown).link.serial = s.link.serial ∧ (s.leaveDown).link.portU = s.link.portU := by
  simp [State.leaveDown]

@[simp] theorem State.leaveSOwn_keeps (s : State) :
    (s.leaveSOwn).phase = s.phase ∧ (s.leaveSOwn).now = s.now ∧ (s.leaveSOwn).minute = s.minute ∧
      (s.leaveSOwn).nextFlap = s.nextFlap ∧ (s.leaveSOwn).nextMinute = s.nextMinute ∧
      (s.leaveSOwn).hourDue = s.hourDue ∧ (s.leaveSOwn).lines = s.lines ∧ (s.leaveSOwn).desk = s.desk ∧
      (s.leaveSOwn).params = s.params ∧ (s.leaveSOwn).hold = s.hold ∧ (s.leaveSOwn).flushes = s.flushes ∧
      (s.leaveSOwn).steps = s.steps ∧ (s.leaveSOwn).plans = s.plans ∧ (s.leaveSOwn).cal = s.cal ∧
      (s.leaveSOwn).limits = s.limits ∧ (s.leaveSOwn).sweep = s.sweep ∧ (s.leaveSOwn).tickets = s.tickets ∧
      (s.leaveSOwn).choice = s.choice ∧ (s.leaveSOwn).pending = s.pending ∧ (s.leaveSOwn).link.down = s.link.down ∧
      (s.leaveSOwn).link.up = s.link.up ∧ (s.leaveSOwn).link.offers = s.link.offers ∧
      (s.leaveSOwn).link.serial = s.link.serial ∧ (s.leaveSOwn).link.portU = s.link.portU := by
  dsimp only [State.leaveSOwn]
  (repeat' split) <;> simp

@[simp] theorem State.leaveUp_keeps (s : State) :
    (s.leaveUp).phase = s.phase ∧ (s.leaveUp).now = s.now ∧ (s.leaveUp).minute = s.minute ∧
      (s.leaveUp).nextFlap = s.nextFlap ∧ (s.leaveUp).nextMinute = s.nextMinute ∧ (s.leaveUp).hourDue = s.hourDue ∧
      (s.leaveUp).lines = s.lines ∧ (s.leaveUp).audits = s.audits ∧ (s.leaveUp).desk = s.desk ∧
      (s.leaveUp).params = s.params ∧ (s.leaveUp).hold = s.hold ∧ (s.leaveUp).flushes = s.flushes ∧
      (s.leaveUp).buses = s.buses ∧ (s.leaveUp).steps = s.steps ∧ (s.leaveUp).plans = s.plans ∧
      (s.leaveUp).chans = s.chans ∧ (s.leaveUp).cal = s.cal ∧ (s.leaveUp).limits = s.limits ∧
      (s.leaveUp).sweep = s.sweep ∧ (s.leaveUp).tickets = s.tickets ∧ (s.leaveUp).choice = s.choice ∧
      (s.leaveUp).pending = s.pending ∧ (s.leaveUp).link.down = s.link.down ∧ (s.leaveUp).link.sOwn = s.link.sOwn ∧
      (s.leaveUp).link.offers = s.link.offers ∧ (s.leaveUp).link.serial = s.link.serial ∧
      (s.leaveUp).link.portS = s.link.portS := by
  simp [State.leaveUp]

@[simp] theorem State.leaveNotice_keeps (s : State) :
    (s.leaveNotice).phase = s.phase ∧ (s.leaveNotice).now = s.now ∧ (s.leaveNotice).minute = s.minute ∧
      (s.leaveNotice).nextFlap = s.nextFlap ∧ (s.leaveNotice).nextMinute = s.nextMinute ∧
      (s.leaveNotice).hourDue = s.hourDue ∧ (s.leaveNotice).lines = s.lines ∧ (s.leaveNotice).audits = s.audits ∧
      (s.leaveNotice).params = s.params ∧ (s.leaveNotice).hold = s.hold ∧ (s.leaveNotice).flushes = s.flushes ∧
      (s.leaveNotice).buses = s.buses ∧ (s.leaveNotice).steps = s.steps ∧ (s.leaveNotice).plans = s.plans ∧
      (s.leaveNotice).chans = s.chans ∧ (s.leaveNotice).cal = s.cal ∧ (s.leaveNotice).limits = s.limits ∧
      (s.leaveNotice).sweep = s.sweep ∧ (s.leaveNotice).tickets = s.tickets ∧ (s.leaveNotice).choice = s.choice ∧
      (s.leaveNotice).pending = s.pending ∧ (s.leaveNotice).link.down = s.link.down ∧
      (s.leaveNotice).link.up = s.link.up ∧ (s.leaveNotice).link.sOwn = s.link.sOwn ∧
      (s.leaveNotice).link.offers = s.link.offers ∧ (s.leaveNotice).link.serial = s.link.serial ∧
      (s.leaveNotice).link.portS = s.link.portS ∧ (s.leaveNotice).desk.commands = s.desk.commands ∧
      (s.leaveNotice).desk.reservations = s.desk.reservations := by
  dsimp only [State.leaveNotice]
  (repeat' split) <;> simp

end Sys2Proof.Machine
end

