-- ==== Sys2Proof/Laws/Desk.lean ====
section
/-! SUPPORT. What the desk commands leave. -/

namespace Sys2Proof.Machine

@[simp] theorem State.taking_keeps (s : State) (r : List Bytes) :
    (s.taking r).phase = s.phase ∧ (s.taking r).now = s.now ∧ (s.taking r).minute = s.minute ∧
      (s.taking r).nextFlap = s.nextFlap ∧ (s.taking r).nextMinute = s.nextMinute ∧ (s.taking r).hourDue = s.hourDue ∧
      (s.taking r).lines = s.lines ∧ (s.taking r).audits = s.audits ∧ (s.taking r).link = s.link ∧
      (s.taking r).params = s.params ∧ (s.taking r).hold = s.hold ∧ (s.taking r).flushes = s.flushes ∧
      (s.taking r).buses = s.buses ∧ (s.taking r).steps = s.steps ∧ (s.taking r).plans = s.plans ∧
      (s.taking r).chans = s.chans ∧ (s.taking r).cal = s.cal ∧ (s.taking r).limits = s.limits ∧
      (s.taking r).sweep = s.sweep ∧ (s.taking r).tickets = s.tickets ∧ (s.taking r).choice = s.choice ∧
      (s.taking r).pending = s.pending ∧ (s.taking r).desk.notices = s.desk.notices ∧
      (s.taking r).desk.lost = s.desk.lost := by
  simp [State.taking]

/-- Taking a command off the queue changes no record. -/
@[simp] theorem State.taking_reads (s : State) (r : List Bytes) (num : Nat) :
    (s.taking r).line num = s.line num ∧ (s.taking r).audit num = s.audit num ∧ (s.taking r).bus num = s.bus num ∧
      (s.taking r).chan num = s.chan num ∧ (s.taking r).stepRec num = s.stepRec num ∧
      (s.taking r).plan num = s.plan num ∧ (s.taking r).headCal num = s.headCal num ∧
      (s.taking r).desk.commands = r ∧ (s.taking r).desk.reservations = s.desk.reservations + 1 :=
  ⟨rfl, rfl, rfl, rfl, rfl, rfl, rfl, rfl, rfl⟩

@[simp] theorem State.badParam_keeps (s : State) (t : Byte) :
    (s.badParam t).phase = s.phase ∧ (s.badParam t).now = s.now ∧ (s.badParam t).minute = s.minute ∧
      (s.badParam t).nextFlap = s.nextFlap ∧ (s.badParam t).nextMinute = s.nextMinute ∧
      (s.badParam t).hourDue = s.hourDue ∧ (s.badParam t).lines = s.lines ∧ (s.badParam t).audits = s.audits ∧
      (s.badParam t).params = s.params ∧ (s.badParam t).hold = s.hold ∧ (s.badParam t).flushes = s.flushes ∧
      (s.badParam t).buses = s.buses ∧ (s.badParam t).steps = s.steps ∧ (s.badParam t).plans = s.plans ∧
      (s.badParam t).chans = s.chans ∧ (s.badParam t).cal = s.cal ∧ (s.badParam t).limits = s.limits ∧
      (s.badParam t).sweep = s.sweep ∧ (s.badParam t).tickets = s.tickets ∧ (s.badParam t).choice = s.choice ∧
      (s.badParam t).pending = s.pending ∧ (s.badParam t).link.down = s.link.down ∧ (s.badParam t).link.up = s.link.up ∧
      (s.badParam t).link.sOwn = s.link.sOwn ∧ (s.badParam t).link.offers = s.link.offers ∧
      (s.badParam t).link.serial = s.link.serial ∧ (s.badParam t).link.portS = s.link.portS ∧
      (s.badParam t).desk.commands = s.desk.commands ∧ (s.badParam t).desk.lost = s.desk.lost := by
  simp [State.badParam]

@[simp] theorem State.ticketMissing_keeps (s : State) (t : Byte) :
    (s.ticketMissing t).phase = s.phase ∧ (s.ticketMissing t).now = s.now ∧ (s.ticketMissing t).minute = s.minute ∧
      (s.ticketMissing t).nextFlap = s.nextFlap ∧ (s.ticketMissing t).nextMinute = s.nextMinute ∧
      (s.ticketMissing t).hourDue = s.hourDue ∧ (s.ticketMissing t).lines = s.lines ∧
      (s.ticketMissing t).audits = s.audits ∧ (s.ticketMissing t).params = s.params ∧
      (s.ticketMissing t).hold = s.hold ∧ (s.ticketMissing t).flushes = s.flushes ∧
      (s.ticketMissing t).buses = s.buses ∧ (s.ticketMissing t).steps = s.steps ∧ (s.ticketMissing t).plans = s.plans ∧
      (s.ticketMissing t).chans = s.chans ∧ (s.ticketMissing t).cal = s.cal ∧ (s.ticketMissing t).limits = s.limits ∧
      (s.ticketMissing t).sweep = s.sweep ∧ (s.ticketMissing t).tickets = s.tickets ∧
      (s.ticketMissing t).choice = s.choice ∧ (s.ticketMissing t).pending = s.pending ∧
      (s.ticketMissing t).link.down = s.link.down ∧ (s.ticketMissing t).link.up = s.link.up ∧
      (s.ticketMissing t).link.sOwn = s.link.sOwn ∧ (s.ticketMissing t).link.offers = s.link.offers ∧
      (s.ticketMissing t).link.serial = s.link.serial ∧ (s.ticketMissing t).link.portS = s.link.portS ∧
      (s.ticketMissing t).desk.commands = s.desk.commands ∧ (s.ticketMissing t).desk.lost = s.desk.lost := by
  simp [State.ticketMissing]

/-- The Command Unit either takes the command at the head of its queue and handles it, or leaves the state (R178). -/
theorem State.onCommand_cases (s : State) (c : Instr) (g : Byte → Bytes → State → State) :
    s.onCommand c g = s ∨ ∃ f rest, s.desk.commands = f :: rest ∧ s.canTake = true ∧ deskCommand f = c ∧
      s.onCommand c g = g (deskTag f) (deskParams f) (s.taking rest) := by
  unfold State.onCommand
  split
  · exact .inl rfl
  · split
    · rename_i f rest hc h; exact .inr ⟨f, rest, hc, h.1, h.2, rfl⟩
    · exact .inl rfl

/-- A command that is ready is taken and handled. -/
theorem State.onCommand_ready {s : State} {c : Instr} {tag ps rest} (h : s.Ready c tag ps rest)
    (g : Byte → Bytes → State → State) : s.onCommand c g = g tag ps (s.taking rest) := by
  obtain ⟨hn, ha, hr, f, hc, rfl, hd, rfl⟩ := h
  have ht : s.canTake = true := by
    simp only [State.canTake, State.abortPending, State.noticesFull, Config.noticeRoom, hn, Bool.and_eq_true,
      Bool.not_eq_true', List.any_eq_false, beq_self_eq_true, true_and]
    exact ⟨fun h hh => by simp [ha h hh], decide_eq_false (Nat.not_le.2 hr)⟩
  simp [State.onCommand, hc, ht, hd]

/-- The response to a command just taken gives back its reservation (R181). -/
theorem State.taking_respond {s : State} (hn : s.phase = .normal) (rest : List Bytes) (tag : Byte) (r : Result)
    (body : Bytes) : (s.taking rest).respond tag r body = s.answered rest tag r body := by
  simp [State.taking, State.respond, State.placeNotice, State.fillU, State.answered, hn]
  cases s.desk.notices <;> rfl

@[simp] theorem State.doUnknown_keeps (t : Byte) (p : Bytes) (s : State) :
    (State.doUnknown t p s).phase = s.phase ∧ (State.doUnknown t p s).now = s.now ∧ (State.doUnknown t p s).minute = s.minute ∧
      (State.doUnknown t p s).nextFlap = s.nextFlap ∧ (State.doUnknown t p s).nextMinute = s.nextMinute ∧
      (State.doUnknown t p s).hourDue = s.hourDue ∧ (State.doUnknown t p s).lines = s.lines ∧ (State.doUnknown t p s).audits = s.audits ∧
      (State.doUnknown t p s).params = s.params ∧ (State.doUnknown t p s).hold = s.hold ∧ (State.doUnknown t p s).flushes = s.flushes ∧
      (State.doUnknown t p s).buses = s.buses ∧ (State.doUnknown t p s).steps = s.steps ∧ (State.doUnknown t p s).plans = s.plans ∧
      (State.doUnknown t p s).chans = s.chans ∧ (State.doUnknown t p s).cal = s.cal ∧ (State.doUnknown t p s).limits = s.limits ∧
      (State.doUnknown t p s).sweep = s.sweep ∧ (State.doUnknown t p s).tickets = s.tickets ∧ (State.doUnknown t p s).choice = s.choice ∧
      (State.doUnknown t p s).pending = s.pending ∧ (State.doUnknown t p s).link.down = s.link.down ∧
      (State.doUnknown t p s).link.up = s.link.up ∧ (State.doUnknown t p s).desk.commands = s.desk.commands := by
  simp [State.doUnknown]

@[simp] theorem State.loadLine_keeps (s : State) (e : LineEntry) :
    (s.loadLine e).phase = s.phase ∧ (s.loadLine e).now = s.now ∧ (s.loadLine e).minute = s.minute ∧
      (s.loadLine e).nextFlap = s.nextFlap ∧ (s.loadLine e).nextMinute = s.nextMinute ∧
      (s.loadLine e).hourDue = s.hourDue ∧ (s.loadLine e).desk = s.desk ∧ (s.loadLine e).params = s.params ∧
      (s.loadLine e).hold = s.hold ∧ (s.loadLine e).flushes = s.flushes ∧ (s.loadLine e).buses = s.buses ∧
      (s.loadLine e).steps = s.steps ∧ (s.loadLine e).plans = s.plans ∧ (s.loadLine e).chans = s.chans ∧
      (s.loadLine e).cal = s.cal ∧ (s.loadLine e).limits = s.limits ∧ (s.loadLine e).sweep = s.sweep ∧
      (s.loadLine e).tickets = s.tickets ∧ (s.loadLine e).choice = s.choice ∧ (s.loadLine e).pending = s.pending ∧
      (s.loadLine e).link.down = s.link.down ∧ (s.loadLine e).link.up = s.link.up ∧
      (s.loadLine e).link.portU = s.link.portU := by
  dsimp only [State.loadLine]
  (repeat' split) <;> simp

@[simp] theorem State.foldLoadLine_keeps (s : State) (l : List LineEntry) :
    (l.foldl State.loadLine s).phase = s.phase ∧ (l.foldl State.loadLine s).now = s.now ∧
      (l.foldl State.loadLine s).minute = s.minute ∧ (l.foldl State.loadLine s).nextFlap = s.nextFlap ∧
      (l.foldl State.loadLine s).nextMinute = s.nextMinute ∧ (l.foldl State.loadLine s).hourDue = s.hourDue ∧
      (l.foldl State.loadLine s).desk = s.desk ∧ (l.foldl State.loadLine s).params = s.params ∧
      (l.foldl State.loadLine s).hold = s.hold ∧ (l.foldl State.loadLine s).flushes = s.flushes ∧
      (l.foldl State.loadLine s).buses = s.buses ∧ (l.foldl State.loadLine s).steps = s.steps ∧
      (l.foldl State.loadLine s).plans = s.plans ∧ (l.foldl State.loadLine s).chans = s.chans ∧
      (l.foldl State.loadLine s).cal = s.cal ∧ (l.foldl State.loadLine s).limits = s.limits ∧
      (l.foldl State.loadLine s).sweep = s.sweep ∧ (l.foldl State.loadLine s).tickets = s.tickets ∧
      (l.foldl State.loadLine s).choice = s.choice ∧ (l.foldl State.loadLine s).pending = s.pending ∧
      (l.foldl State.loadLine s).link.down = s.link.down ∧ (l.foldl State.loadLine s).link.up = s.link.up ∧
      (l.foldl State.loadLine s).link.portU = s.link.portU := by
  induction l generalizing s with
  | nil => simp
  | cons a l ih => simp [ih]

@[simp] theorem State.doLoadLines_keeps (t : Byte) (p : Bytes) (s : State) :
    (State.doLoadLines t p s).phase = s.phase ∧ (State.doLoadLines t p s).now = s.now ∧ (State.doLoadLines t p s).minute = s.minute ∧
      (State.doLoadLines t p s).nextFlap = s.nextFlap ∧ (State.doLoadLines t p s).nextMinute = s.nextMinute ∧
      (State.doLoadLines t p s).hourDue = s.hourDue ∧ (State.doLoadLines t p s).params = s.params ∧
      (State.doLoadLines t p s).hold = s.hold ∧ (State.doLoadLines t p s).flushes = s.flushes ∧
      (State.doLoadLines t p s).buses = s.buses ∧ (State.doLoadLines t p s).steps = s.steps ∧ (State.doLoadLines t p s).plans = s.plans ∧
      (State.doLoadLines t p s).chans = s.chans ∧ (State.doLoadLines t p s).cal = s.cal ∧ (State.doLoadLines t p s).limits = s.limits ∧
      (State.doLoadLines t p s).sweep = s.sweep ∧ (State.doLoadLines t p s).tickets = s.tickets ∧
      (State.doLoadLines t p s).choice = s.choice ∧ (State.doLoadLines t p s).pending = s.pending ∧
      (State.doLoadLines t p s).link.down = s.link.down ∧ (State.doLoadLines t p s).link.up = s.link.up ∧
      (State.doLoadLines t p s).desk.commands = s.desk.commands := by
  dsimp only [State.doLoadLines]
  (repeat' split) <;> simp

@[simp] theorem State.doLineRead_keeps (t : Byte) (p : Bytes) (s : State) :
    (State.doLineRead t p s).phase = s.phase ∧ (State.doLineRead t p s).now = s.now ∧ (State.doLineRead t p s).minute = s.minute ∧
      (State.doLineRead t p s).nextFlap = s.nextFlap ∧ (State.doLineRead t p s).nextMinute = s.nextMinute ∧
      (State.doLineRead t p s).hourDue = s.hourDue ∧ (State.doLineRead t p s).lines = s.lines ∧
      (State.doLineRead t p s).audits = s.audits ∧ (State.doLineRead t p s).params = s.params ∧ (State.doLineRead t p s).hold = s.hold ∧
      (State.doLineRead t p s).flushes = s.flushes ∧ (State.doLineRead t p s).buses = s.buses ∧ (State.doLineRead t p s).steps = s.steps ∧
      (State.doLineRead t p s).plans = s.plans ∧ (State.doLineRead t p s).chans = s.chans ∧ (State.doLineRead t p s).cal = s.cal ∧
      (State.doLineRead t p s).limits = s.limits ∧ (State.doLineRead t p s).sweep = s.sweep ∧
      (State.doLineRead t p s).tickets = s.tickets ∧ (State.doLineRead t p s).choice = s.choice ∧
      (State.doLineRead t p s).pending = s.pending ∧ (State.doLineRead t p s).link.down = s.link.down ∧
      (State.doLineRead t p s).link.up = s.link.up ∧ (State.doLineRead t p s).desk.commands = s.desk.commands := by
  dsimp only [State.doLineRead]
  (repeat' split) <;> simp

@[simp] theorem State.doInhibit_keeps (t : Byte) (p : Bytes) (s : State) :
    (State.doInhibit t p s).phase = s.phase ∧ (State.doInhibit t p s).now = s.now ∧ (State.doInhibit t p s).minute = s.minute ∧
      (State.doInhibit t p s).nextFlap = s.nextFlap ∧ (State.doInhibit t p s).nextMinute = s.nextMinute ∧
      (State.doInhibit t p s).hourDue = s.hourDue ∧ (State.doInhibit t p s).audits = s.audits ∧
      (State.doInhibit t p s).params = s.params ∧ (State.doInhibit t p s).hold = s.hold ∧ (State.doInhibit t p s).flushes = s.flushes ∧
      (State.doInhibit t p s).buses = s.buses ∧ (State.doInhibit t p s).steps = s.steps ∧ (State.doInhibit t p s).plans = s.plans ∧
      (State.doInhibit t p s).chans = s.chans ∧ (State.doInhibit t p s).cal = s.cal ∧ (State.doInhibit t p s).limits = s.limits ∧
      (State.doInhibit t p s).sweep = s.sweep ∧ (State.doInhibit t p s).tickets = s.tickets ∧ (State.doInhibit t p s).choice = s.choice ∧
      (State.doInhibit t p s).pending = s.pending ∧ (State.doInhibit t p s).link.down = s.link.down ∧
      (State.doInhibit t p s).link.up = s.link.up ∧ (State.doInhibit t p s).desk.commands = s.desk.commands := by
  dsimp only [State.doInhibit]
  (repeat' split) <;> simp

@[simp] theorem State.doClearHazard_keeps (t : Byte) (p : Bytes) (s : State) :
    (State.doClearHazard t p s).phase = s.phase ∧ (State.doClearHazard t p s).now = s.now ∧
      (State.doClearHazard t p s).minute = s.minute ∧ (State.doClearHazard t p s).nextFlap = s.nextFlap ∧
      (State.doClearHazard t p s).nextMinute = s.nextMinute ∧ (State.doClearHazard t p s).hourDue = s.hourDue ∧
      (State.doClearHazard t p s).audits = s.audits ∧ (State.doClearHazard t p s).params = s.params ∧
      (State.doClearHazard t p s).hold = s.hold ∧ (State.doClearHazard t p s).flushes = s.flushes ∧
      (State.doClearHazard t p s).buses = s.buses ∧ (State.doClearHazard t p s).steps = s.steps ∧
      (State.doClearHazard t p s).plans = s.plans ∧ (State.doClearHazard t p s).chans = s.chans ∧
      (State.doClearHazard t p s).cal = s.cal ∧ (State.doClearHazard t p s).limits = s.limits ∧
      (State.doClearHazard t p s).sweep = s.sweep ∧ (State.doClearHazard t p s).tickets = s.tickets ∧
      (State.doClearHazard t p s).choice = s.choice ∧ (State.doClearHazard t p s).pending = s.pending ∧
      (State.doClearHazard t p s).link.down = s.link.down ∧ (State.doClearHazard t p s).link.up = s.link.up ∧
      (State.doClearHazard t p s).desk.commands = s.desk.commands := by
  dsimp only [State.doClearHazard]
  (repeat' split) <;> simp

@[simp] theorem State.doLoadBusmap_keeps (t : Byte) (p : Bytes) (s : State) :
    (State.doLoadBusmap t p s).phase = s.phase ∧ (State.doLoadBusmap t p s).now = s.now ∧ (State.doLoadBusmap t p s).minute = s.minute ∧
      (State.doLoadBusmap t p s).nextFlap = s.nextFlap ∧ (State.doLoadBusmap t p s).nextMinute = s.nextMinute ∧
      (State.doLoadBusmap t p s).hourDue = s.hourDue ∧ (State.doLoadBusmap t p s).lines = s.lines ∧
      (State.doLoadBusmap t p s).audits = s.audits ∧ (State.doLoadBusmap t p s).params = s.params ∧
      (State.doLoadBusmap t p s).hold = s.hold ∧ (State.doLoadBusmap t p s).flushes = s.flushes ∧
      (State.doLoadBusmap t p s).steps = s.steps ∧ (State.doLoadBusmap t p s).plans = s.plans ∧
      (State.doLoadBusmap t p s).chans = s.chans ∧ (State.doLoadBusmap t p s).cal = s.cal ∧ (State.doLoadBusmap t p s).limits = s.limits ∧
      (State.doLoadBusmap t p s).sweep = s.sweep ∧ (State.doLoadBusmap t p s).tickets = s.tickets ∧
      (State.doLoadBusmap t p s).choice = s.choice ∧ (State.doLoadBusmap t p s).pending = s.pending ∧
      (State.doLoadBusmap t p s).link.down = s.link.down ∧ (State.doLoadBusmap t p s).link.up = s.link.up ∧
      (State.doLoadBusmap t p s).desk.commands = s.desk.commands := by
  dsimp only [State.doLoadBusmap]
  (repeat' split) <;> simp

@[simp] theorem State.restoreLine_keeps (s : State) (l : Nat) :
    (s.restoreLine l).phase = s.phase ∧ (s.restoreLine l).now = s.now ∧ (s.restoreLine l).minute = s.minute ∧
      (s.restoreLine l).nextFlap = s.nextFlap ∧ (s.restoreLine l).nextMinute = s.nextMinute ∧
      (s.restoreLine l).hourDue = s.hourDue ∧ (s.restoreLine l).audits = s.audits ∧ (s.restoreLine l).link = s.link ∧
      (s.restoreLine l).desk = s.desk ∧ (s.restoreLine l).params = s.params ∧ (s.restoreLine l).hold = s.hold ∧
      (s.restoreLine l).buses = s.buses ∧ (s.restoreLine l).steps = s.steps ∧ (s.restoreLine l).plans = s.plans ∧
      (s.restoreLine l).chans = s.chans ∧ (s.restoreLine l).cal = s.cal ∧ (s.restoreLine l).limits = s.limits ∧
      (s.restoreLine l).sweep = s.sweep ∧ (s.restoreLine l).tickets = s.tickets ∧ (s.restoreLine l).choice = s.choice ∧
      (s.restoreLine l).pending = s.pending := by
  dsimp only [State.restoreLine]
  (repeat' split) <;> simp

@[simp] theorem State.unstick_keeps (s : State) (b : Nat) :
    (s.unstick b).phase = s.phase ∧ (s.unstick b).now = s.now ∧ (s.unstick b).minute = s.minute ∧
      (s.unstick b).nextFlap = s.nextFlap ∧ (s.unstick b).nextMinute = s.nextMinute ∧
      (s.unstick b).hourDue = s.hourDue ∧ (s.unstick b).audits = s.audits ∧ (s.unstick b).params = s.params ∧
      (s.unstick b).hold = s.hold ∧ (s.unstick b).steps = s.steps ∧ (s.unstick b).plans = s.plans ∧
      (s.unstick b).chans = s.chans ∧ (s.unstick b).cal = s.cal ∧ (s.unstick b).limits = s.limits ∧
      (s.unstick b).sweep = s.sweep ∧ (s.unstick b).choice = s.choice ∧ (s.unstick b).pending = s.pending ∧
      (s.unstick b).link.down = s.link.down ∧ (s.unstick b).link.up = s.link.up ∧
      (s.unstick b).desk.commands = s.desk.commands ∧ (s.unstick b).desk.reservations = s.desk.reservations := by
  dsimp only [State.unstick]
  (repeat' split) <;> simp

@[simp] theorem State.returnBus_keeps (s : State) (b : Nat) :
    (s.returnBus b).phase = s.phase ∧ (s.returnBus b).now = s.now ∧ (s.returnBus b).minute = s.minute ∧
      (s.returnBus b).nextFlap = s.nextFlap ∧ (s.returnBus b).nextMinute = s.nextMinute ∧
      (s.returnBus b).hourDue = s.hourDue ∧ (s.returnBus b).audits = s.audits ∧ (s.returnBus b).params = s.params ∧
      (s.returnBus b).hold = s.hold ∧ (s.returnBus b).steps = s.steps ∧ (s.returnBus b).plans = s.plans ∧
      (s.returnBus b).chans = s.chans ∧ (s.returnBus b).cal = s.cal ∧ (s.returnBus b).limits = s.limits ∧
      (s.returnBus b).choice = s.choice ∧ (s.returnBus b).pending = s.pending ∧
      (s.returnBus b).link.down = s.link.down ∧ (s.returnBus b).link.up = s.link.up ∧
      (s.returnBus b).desk.commands = s.desk.commands ∧ (s.returnBus b).desk.reservations = s.desk.reservations := by
  simp [State.returnBus]

@[simp] theorem State.doClearStuck_keeps (t : Byte) (p : Bytes) (s : State) :
    (State.doClearStuck t p s).phase = s.phase ∧ (State.doClearStuck t p s).now = s.now ∧ (State.doClearStuck t p s).minute = s.minute ∧
      (State.doClearStuck t p s).nextFlap = s.nextFlap ∧ (State.doClearStuck t p s).nextMinute = s.nextMinute ∧
      (State.doClearStuck t p s).hourDue = s.hourDue ∧ (State.doClearStuck t p s).params = s.params ∧
      (State.doClearStuck t p s).hold = s.hold ∧ (State.doClearStuck t p s).steps = s.steps ∧ (State.doClearStuck t p s).plans = s.plans ∧
      (State.doClearStuck t p s).cal = s.cal ∧ (State.doClearStuck t p s).limits = s.limits ∧
      (State.doClearStuck t p s).choice = s.choice ∧ (State.doClearStuck t p s).pending = s.pending ∧
      (State.doClearStuck t p s).link.down = s.link.down ∧ (State.doClearStuck t p s).link.up = s.link.up ∧
      (State.doClearStuck t p s).desk.commands = s.desk.commands := by
  dsimp only [State.doClearStuck]
  (repeat' split) <;> simp

@[simp] theorem State.doLoadStep_keeps (t : Byte) (p : Bytes) (s : State) :
    (State.doLoadStep t p s).phase = s.phase ∧ (State.doLoadStep t p s).now = s.now ∧ (State.doLoadStep t p s).minute = s.minute ∧
      (State.doLoadStep t p s).nextFlap = s.nextFlap ∧ (State.doLoadStep t p s).nextMinute = s.nextMinute ∧
      (State.doLoadStep t p s).hourDue = s.hourDue ∧ (State.doLoadStep t p s).lines = s.lines ∧
      (State.doLoadStep t p s).audits = s.audits ∧ (State.doLoadStep t p s).params = s.params ∧ (State.doLoadStep t p s).hold = s.hold ∧
      (State.doLoadStep t p s).flushes = s.flushes ∧ (State.doLoadStep t p s).buses = s.buses ∧ (State.doLoadStep t p s).plans = s.plans ∧
      (State.doLoadStep t p s).chans = s.chans ∧ (State.doLoadStep t p s).cal = s.cal ∧ (State.doLoadStep t p s).limits = s.limits ∧
      (State.doLoadStep t p s).sweep = s.sweep ∧ (State.doLoadStep t p s).tickets = s.tickets ∧
      (State.doLoadStep t p s).choice = s.choice ∧ (State.doLoadStep t p s).pending = s.pending ∧
      (State.doLoadStep t p s).link.down = s.link.down ∧ (State.doLoadStep t p s).link.up = s.link.up ∧
      (State.doLoadStep t p s).desk.commands = s.desk.commands := by
  dsimp only [State.doLoadStep]
  (repeat' split) <;> simp

@[simp] theorem State.doLoadPlan_keeps (t : Byte) (p : Bytes) (s : State) :
    (State.doLoadPlan t p s).phase = s.phase ∧ (State.doLoadPlan t p s).now = s.now ∧ (State.doLoadPlan t p s).minute = s.minute ∧
      (State.doLoadPlan t p s).nextFlap = s.nextFlap ∧ (State.doLoadPlan t p s).nextMinute = s.nextMinute ∧
      (State.doLoadPlan t p s).hourDue = s.hourDue ∧ (State.doLoadPlan t p s).lines = s.lines ∧
      (State.doLoadPlan t p s).audits = s.audits ∧ (State.doLoadPlan t p s).params = s.params ∧ (State.doLoadPlan t p s).hold = s.hold ∧
      (State.doLoadPlan t p s).flushes = s.flushes ∧ (State.doLoadPlan t p s).buses = s.buses ∧ (State.doLoadPlan t p s).steps = s.steps ∧
      (State.doLoadPlan t p s).chans = s.chans ∧ (State.doLoadPlan t p s).cal = s.cal ∧ (State.doLoadPlan t p s).limits = s.limits ∧
      (State.doLoadPlan t p s).sweep = s.sweep ∧ (State.doLoadPlan t p s).tickets = s.tickets ∧
      (State.doLoadPlan t p s).choice = s.choice ∧ (State.doLoadPlan t p s).pending = s.pending ∧
      (State.doLoadPlan t p s).link.down = s.link.down ∧ (State.doLoadPlan t p s).link.up = s.link.up ∧
      (State.doLoadPlan t p s).desk.commands = s.desk.commands := by
  dsimp only [State.doLoadPlan]
  (repeat' split) <;> simp

@[simp] theorem State.preempt_keeps (s : State) (h : Nat) (t : TestRec) :
    (s.preempt h t).phase = s.phase ∧ (s.preempt h t).now = s.now ∧ (s.preempt h t).minute = s.minute ∧
      (s.preempt h t).nextFlap = s.nextFlap ∧ (s.preempt h t).nextMinute = s.nextMinute ∧
      (s.preempt h t).hourDue = s.hourDue ∧ (s.preempt h t).audits = s.audits ∧ (s.preempt h t).desk = s.desk ∧
      (s.preempt h t).params = s.params ∧ (s.preempt h t).hold = s.hold ∧ (s.preempt h t).flushes = s.flushes ∧
      (s.preempt h t).steps = s.steps ∧ (s.preempt h t).plans = s.plans ∧ (s.preempt h t).cal = s.cal ∧
      (s.preempt h t).limits = s.limits ∧ (s.preempt h t).tickets = s.tickets ∧ (s.preempt h t).choice = s.choice ∧
      (s.preempt h t).pending = s.pending ∧ (s.preempt h t).link.down = s.link.down ∧
      (s.preempt h t).link.up = s.link.up ∧ (s.preempt h t).link.portU = s.link.portU := by
  dsimp only [State.preempt]
  (repeat' split) <;> simp

@[simp] theorem State.doTest_keeps (t : Byte) (p : Bytes) (s : State) :
    (State.doTest t p s).phase = s.phase ∧ (State.doTest t p s).now = s.now ∧ (State.doTest t p s).minute = s.minute ∧
      (State.doTest t p s).nextFlap = s.nextFlap ∧ (State.doTest t p s).nextMinute = s.nextMinute ∧
      (State.doTest t p s).hourDue = s.hourDue ∧ (State.doTest t p s).params = s.params ∧ (State.doTest t p s).hold = s.hold ∧
      (State.doTest t p s).flushes = s.flushes ∧ (State.doTest t p s).steps = s.steps ∧ (State.doTest t p s).plans = s.plans ∧
      (State.doTest t p s).cal = s.cal ∧ (State.doTest t p s).limits = s.limits ∧ (State.doTest t p s).choice = s.choice ∧
      (State.doTest t p s).pending = s.pending ∧ (State.doTest t p s).link.down = s.link.down ∧ (State.doTest t p s).link.up = s.link.up ∧
      (State.doTest t p s).desk.commands = s.desk.commands := by
  dsimp only [State.doTest, State.admitUrgent]
  (repeat' split) <;> try simp
  rename_i heq
  split at heq <;>
    (rw [Option.map_eq_some_iff] at heq; obtain ⟨b, -, hb⟩ := heq; cases hb; simp)

@[simp] theorem State.awaitAbort_keeps (s : State) (h : Nat) (t : Byte) :
    (s.awaitAbort h t).phase = s.phase ∧ (s.awaitAbort h t).now = s.now ∧ (s.awaitAbort h t).minute = s.minute ∧
      (s.awaitAbort h t).nextFlap = s.nextFlap ∧ (s.awaitAbort h t).nextMinute = s.nextMinute ∧
      (s.awaitAbort h t).hourDue = s.hourDue ∧ (s.awaitAbort h t).lines = s.lines ∧
      (s.awaitAbort h t).audits = s.audits ∧ (s.awaitAbort h t).link = s.link ∧ (s.awaitAbort h t).desk = s.desk ∧
      (s.awaitAbort h t).params = s.params ∧ (s.awaitAbort h t).hold = s.hold ∧ (s.awaitAbort h t).flushes = s.flushes ∧
      (s.awaitAbort h t).buses = s.buses ∧ (s.awaitAbort h t).steps = s.steps ∧ (s.awaitAbort h t).plans = s.plans ∧
      (s.awaitAbort h t).cal = s.cal ∧ (s.awaitAbort h t).limits = s.limits ∧ (s.awaitAbort h t).sweep = s.sweep ∧
      (s.awaitAbort h t).tickets = s.tickets ∧ (s.awaitAbort h t).choice = s.choice ∧
      (s.awaitAbort h t).pending = s.pending := by
  simp [State.awaitAbort]

@[simp] theorem State.abortHandover_keeps (s : State) (h : Nat) :
    (s.abortHandover h).phase = s.phase ∧ (s.abortHandover h).now = s.now ∧ (s.abortHandover h).minute = s.minute ∧
      (s.abortHandover h).nextFlap = s.nextFlap ∧ (s.abortHandover h).nextMinute = s.nextMinute ∧
      (s.abortHandover h).hourDue = s.hourDue ∧ (s.abortHandover h).lines = s.lines ∧
      (s.abortHandover h).audits = s.audits ∧ (s.abortHandover h).link = s.link ∧ (s.abortHandover h).desk = s.desk ∧
      (s.abortHandover h).params = s.params ∧ (s.abortHandover h).hold = s.hold ∧
      (s.abortHandover h).flushes = s.flushes ∧ (s.abortHandover h).buses = s.buses ∧
      (s.abortHandover h).steps = s.steps ∧ (s.abortHandover h).plans = s.plans ∧ (s.abortHandover h).cal = s.cal ∧
      (s.abortHandover h).limits = s.limits ∧ (s.abortHandover h).sweep = s.sweep ∧
      (s.abortHandover h).tickets = s.tickets ∧ (s.abortHandover h).choice = s.choice ∧
      (s.abortHandover h).pending = s.pending := by
  dsimp only [State.abortHandover]
  (repeat' split) <;> simp

@[simp] theorem State.abortOn_keeps (s : State) (h : Nat) (t : Byte) :
    (s.abortOn h t).phase = s.phase ∧ (s.abortOn h t).now = s.now ∧ (s.abortOn h t).minute = s.minute ∧
      (s.abortOn h t).nextFlap = s.nextFlap ∧ (s.abortOn h t).nextMinute = s.nextMinute ∧
      (s.abortOn h t).hourDue = s.hourDue ∧ (s.abortOn h t).audits = s.audits ∧ (s.abortOn h t).params = s.params ∧
      (s.abortOn h t).hold = s.hold ∧ (s.abortOn h t).flushes = s.flushes ∧ (s.abortOn h t).steps = s.steps ∧
      (s.abortOn h t).plans = s.plans ∧ (s.abortOn h t).cal = s.cal ∧ (s.abortOn h t).limits = s.limits ∧
      (s.abortOn h t).sweep = s.sweep ∧ (s.abortOn h t).tickets = s.tickets ∧ (s.abortOn h t).choice = s.choice ∧
      (s.abortOn h t).pending = s.pending ∧ (s.abortOn h t).link.down = s.link.down ∧
      (s.abortOn h t).link.up = s.link.up ∧ (s.abortOn h t).desk.commands = s.desk.commands := by
  dsimp only [State.abortOn]
  (repeat' split) <;> simp

@[simp] theorem State.doAbort_keeps (t : Byte) (p : Bytes) (s : State) :
    (State.doAbort t p s).phase = s.phase ∧ (State.doAbort t p s).now = s.now ∧ (State.doAbort t p s).minute = s.minute ∧
      (State.doAbort t p s).nextFlap = s.nextFlap ∧ (State.doAbort t p s).nextMinute = s.nextMinute ∧
      (State.doAbort t p s).hourDue = s.hourDue ∧ (State.doAbort t p s).audits = s.audits ∧ (State.doAbort t p s).params = s.params ∧
      (State.doAbort t p s).hold = s.hold ∧ (State.doAbort t p s).flushes = s.flushes ∧ (State.doAbort t p s).steps = s.steps ∧
      (State.doAbort t p s).plans = s.plans ∧ (State.doAbort t p s).cal = s.cal ∧ (State.doAbort t p s).limits = s.limits ∧
      (State.doAbort t p s).sweep = s.sweep ∧ (State.doAbort t p s).tickets = s.tickets ∧ (State.doAbort t p s).choice = s.choice ∧
      (State.doAbort t p s).pending = s.pending ∧ (State.doAbort t p s).link.down = s.link.down ∧
      (State.doAbort t p s).link.up = s.link.up ∧ (State.doAbort t p s).desk.commands = s.desk.commands := by
  dsimp only [State.doAbort]
  (repeat' split) <;> simp

@[simp] theorem State.headBack_keeps (s : State) (h : Nat) :
    (s.headBack h).phase = s.phase ∧ (s.headBack h).now = s.now ∧ (s.headBack h).minute = s.minute ∧
      (s.headBack h).nextFlap = s.nextFlap ∧ (s.headBack h).nextMinute = s.nextMinute ∧
      (s.headBack h).hourDue = s.hourDue ∧ (s.headBack h).lines = s.lines ∧ (s.headBack h).audits = s.audits ∧
      (s.headBack h).params = s.params ∧ (s.headBack h).hold = s.hold ∧ (s.headBack h).flushes = s.flushes ∧
      (s.headBack h).buses = s.buses ∧ (s.headBack h).steps = s.steps ∧ (s.headBack h).plans = s.plans ∧
      (s.headBack h).cal = s.cal ∧ (s.headBack h).limits = s.limits ∧ (s.headBack h).choice = s.choice ∧
      (s.headBack h).pending = s.pending ∧ (s.headBack h).link.down = s.link.down ∧ (s.headBack h).link.up = s.link.up ∧
      (s.headBack h).desk.commands = s.desk.commands ∧ (s.headBack h).desk.reservations = s.desk.reservations := by
  simp [State.headBack]

@[simp] theorem State.doReturnHead_keeps (t : Byte) (p : Bytes) (s : State) :
    (State.doReturnHead t p s).phase = s.phase ∧ (State.doReturnHead t p s).now = s.now ∧ (State.doReturnHead t p s).minute = s.minute ∧
      (State.doReturnHead t p s).nextFlap = s.nextFlap ∧ (State.doReturnHead t p s).nextMinute = s.nextMinute ∧
      (State.doReturnHead t p s).hourDue = s.hourDue ∧ (State.doReturnHead t p s).params = s.params ∧
      (State.doReturnHead t p s).hold = s.hold ∧ (State.doReturnHead t p s).flushes = s.flushes ∧
      (State.doReturnHead t p s).steps = s.steps ∧ (State.doReturnHead t p s).plans = s.plans ∧ (State.doReturnHead t p s).cal = s.cal ∧
      (State.doReturnHead t p s).limits = s.limits ∧ (State.doReturnHead t p s).choice = s.choice ∧
      (State.doReturnHead t p s).pending = s.pending ∧ (State.doReturnHead t p s).link.down = s.link.down ∧
      (State.doReturnHead t p s).link.up = s.link.up ∧ (State.doReturnHead t p s).desk.commands = s.desk.commands := by
  dsimp only [State.doReturnHead]
  (repeat' split) <;> simp

@[simp] theorem State.setLimits_keeps (s : State) (p i : Nat) (l : List Nat) :
    (s.setLimits p i l).phase = s.phase ∧ (s.setLimits p i l).now = s.now ∧ (s.setLimits p i l).minute = s.minute ∧
      (s.setLimits p i l).nextFlap = s.nextFlap ∧ (s.setLimits p i l).nextMinute = s.nextMinute ∧
      (s.setLimits p i l).hourDue = s.hourDue ∧ (s.setLimits p i l).lines = s.lines ∧
      (s.setLimits p i l).audits = s.audits ∧ (s.setLimits p i l).link = s.link ∧ (s.setLimits p i l).desk = s.desk ∧
      (s.setLimits p i l).params = s.params ∧ (s.setLimits p i l).hold = s.hold ∧
      (s.setLimits p i l).flushes = s.flushes ∧ (s.setLimits p i l).buses = s.buses ∧
      (s.setLimits p i l).steps = s.steps ∧ (s.setLimits p i l).plans = s.plans ∧ (s.setLimits p i l).chans = s.chans ∧
      (s.setLimits p i l).cal = s.cal ∧ (s.setLimits p i l).sweep = s.sweep ∧ (s.setLimits p i l).tickets = s.tickets ∧
      (s.setLimits p i l).choice = s.choice ∧ (s.setLimits p i l).pending = s.pending := by
  induction l generalizing s i with
  | nil => simp [State.setLimits]
  | cons a l ih => simp [State.setLimits, ih]

@[simp] theorem State.doLoadProfile_keeps (t : Byte) (p : Bytes) (s : State) :
    (State.doLoadProfile t p s).phase = s.phase ∧ (State.doLoadProfile t p s).now = s.now ∧
      (State.doLoadProfile t p s).minute = s.minute ∧ (State.doLoadProfile t p s).nextFlap = s.nextFlap ∧
      (State.doLoadProfile t p s).nextMinute = s.nextMinute ∧ (State.doLoadProfile t p s).hourDue = s.hourDue ∧
      (State.doLoadProfile t p s).lines = s.lines ∧ (State.doLoadProfile t p s).audits = s.audits ∧
      (State.doLoadProfile t p s).params = s.params ∧ (State.doLoadProfile t p s).hold = s.hold ∧
      (State.doLoadProfile t p s).flushes = s.flushes ∧ (State.doLoadProfile t p s).buses = s.buses ∧
      (State.doLoadProfile t p s).steps = s.steps ∧ (State.doLoadProfile t p s).plans = s.plans ∧
      (State.doLoadProfile t p s).chans = s.chans ∧ (State.doLoadProfile t p s).cal = s.cal ∧
      (State.doLoadProfile t p s).sweep = s.sweep ∧ (State.doLoadProfile t p s).tickets = s.tickets ∧
      (State.doLoadProfile t p s).choice = s.choice ∧ (State.doLoadProfile t p s).pending = s.pending ∧
      (State.doLoadProfile t p s).link.down = s.link.down ∧ (State.doLoadProfile t p s).link.up = s.link.up ∧
      (State.doLoadProfile t p s).desk.commands = s.desk.commands := by
  dsimp only [State.doLoadProfile]
  (repeat' split) <;> simp

@[simp] theorem State.doCalibrate_keeps (t : Byte) (p : Bytes) (s : State) :
    (State.doCalibrate t p s).phase = s.phase ∧ (State.doCalibrate t p s).now = s.now ∧ (State.doCalibrate t p s).minute = s.minute ∧
      (State.doCalibrate t p s).nextFlap = s.nextFlap ∧ (State.doCalibrate t p s).nextMinute = s.nextMinute ∧
      (State.doCalibrate t p s).hourDue = s.hourDue ∧ (State.doCalibrate t p s).lines = s.lines ∧
      (State.doCalibrate t p s).audits = s.audits ∧ (State.doCalibrate t p s).params = s.params ∧
      (State.doCalibrate t p s).hold = s.hold ∧ (State.doCalibrate t p s).flushes = s.flushes ∧
      (State.doCalibrate t p s).buses = s.buses ∧ (State.doCalibrate t p s).steps = s.steps ∧ (State.doCalibrate t p s).plans = s.plans ∧
      (State.doCalibrate t p s).cal = s.cal ∧ (State.doCalibrate t p s).limits = s.limits ∧ (State.doCalibrate t p s).sweep = s.sweep ∧
      (State.doCalibrate t p s).tickets = s.tickets ∧ (State.doCalibrate t p s).choice = s.choice ∧
      (State.doCalibrate t p s).pending = s.pending ∧ (State.doCalibrate t p s).link.down = s.link.down ∧
      (State.doCalibrate t p s).link.up = s.link.up ∧ (State.doCalibrate t p s).desk.commands = s.desk.commands := by
  dsimp only [State.doCalibrate]
  (repeat' split) <;> simp

@[simp] theorem State.doSetCalCoef_keeps (t : Byte) (p : Bytes) (s : State) :
    (State.doSetCalCoef t p s).phase = s.phase ∧ (State.doSetCalCoef t p s).now = s.now ∧ (State.doSetCalCoef t p s).minute = s.minute ∧
      (State.doSetCalCoef t p s).nextFlap = s.nextFlap ∧ (State.doSetCalCoef t p s).nextMinute = s.nextMinute ∧
      (State.doSetCalCoef t p s).hourDue = s.hourDue ∧ (State.doSetCalCoef t p s).lines = s.lines ∧
      (State.doSetCalCoef t p s).audits = s.audits ∧ (State.doSetCalCoef t p s).params = s.params ∧
      (State.doSetCalCoef t p s).hold = s.hold ∧ (State.doSetCalCoef t p s).flushes = s.flushes ∧
      (State.doSetCalCoef t p s).buses = s.buses ∧ (State.doSetCalCoef t p s).steps = s.steps ∧
      (State.doSetCalCoef t p s).plans = s.plans ∧ (State.doSetCalCoef t p s).chans = s.chans ∧
      (State.doSetCalCoef t p s).limits = s.limits ∧ (State.doSetCalCoef t p s).sweep = s.sweep ∧
      (State.doSetCalCoef t p s).tickets = s.tickets ∧ (State.doSetCalCoef t p s).choice = s.choice ∧
      (State.doSetCalCoef t p s).pending = s.pending ∧ (State.doSetCalCoef t p s).link.down = s.link.down ∧
      (State.doSetCalCoef t p s).link.up = s.link.up ∧ (State.doSetCalCoef t p s).desk.commands = s.desk.commands := by
  dsimp only [State.doSetCalCoef]
  (repeat' split) <;> simp

@[simp] theorem State.doSweepLoad_keeps (t : Byte) (p : Bytes) (s : State) :
    (State.doSweepLoad t p s).phase = s.phase ∧ (State.doSweepLoad t p s).now = s.now ∧ (State.doSweepLoad t p s).minute = s.minute ∧
      (State.doSweepLoad t p s).nextFlap = s.nextFlap ∧ (State.doSweepLoad t p s).nextMinute = s.nextMinute ∧
      (State.doSweepLoad t p s).hourDue = s.hourDue ∧ (State.doSweepLoad t p s).lines = s.lines ∧
      (State.doSweepLoad t p s).audits = s.audits ∧ (State.doSweepLoad t p s).params = s.params ∧
      (State.doSweepLoad t p s).hold = s.hold ∧ (State.doSweepLoad t p s).flushes = s.flushes ∧
      (State.doSweepLoad t p s).buses = s.buses ∧ (State.doSweepLoad t p s).steps = s.steps ∧ (State.doSweepLoad t p s).plans = s.plans ∧
      (State.doSweepLoad t p s).chans = s.chans ∧ (State.doSweepLoad t p s).cal = s.cal ∧ (State.doSweepLoad t p s).limits = s.limits ∧
      (State.doSweepLoad t p s).tickets = s.tickets ∧ (State.doSweepLoad t p s).choice = s.choice ∧
      (State.doSweepLoad t p s).pending = s.pending ∧ (State.doSweepLoad t p s).link.down = s.link.down ∧
      (State.doSweepLoad t p s).link.up = s.link.up ∧ (State.doSweepLoad t p s).desk.commands = s.desk.commands := by
  dsimp only [State.doSweepLoad]
  (repeat' split) <;> simp

@[simp] theorem State.sweepOk_keeps (s : State) (t : Byte) :
    (s.sweepOk t).phase = s.phase ∧ (s.sweepOk t).now = s.now ∧ (s.sweepOk t).minute = s.minute ∧
      (s.sweepOk t).nextFlap = s.nextFlap ∧ (s.sweepOk t).nextMinute = s.nextMinute ∧
      (s.sweepOk t).hourDue = s.hourDue ∧ (s.sweepOk t).lines = s.lines ∧ (s.sweepOk t).audits = s.audits ∧
      (s.sweepOk t).params = s.params ∧ (s.sweepOk t).hold = s.hold ∧ (s.sweepOk t).flushes = s.flushes ∧
      (s.sweepOk t).buses = s.buses ∧ (s.sweepOk t).steps = s.steps ∧ (s.sweepOk t).plans = s.plans ∧
      (s.sweepOk t).chans = s.chans ∧ (s.sweepOk t).cal = s.cal ∧ (s.sweepOk t).limits = s.limits ∧
      (s.sweepOk t).sweep = s.sweep ∧ (s.sweepOk t).tickets = s.tickets ∧ (s.sweepOk t).choice = s.choice ∧
      (s.sweepOk t).pending = s.pending ∧ (s.sweepOk t).link.down = s.link.down ∧ (s.sweepOk t).link.up = s.link.up ∧
      (s.sweepOk t).link.sOwn = s.link.sOwn ∧ (s.sweepOk t).link.offers = s.link.offers ∧
      (s.sweepOk t).link.serial = s.link.serial ∧ (s.sweepOk t).link.portS = s.link.portS ∧
      (s.sweepOk t).desk.commands = s.desk.commands ∧ (s.sweepOk t).desk.lost = s.desk.lost := by
  simp [State.sweepOk]

@[simp] theorem State.sweepBusy_keeps (s : State) (t : Byte) :
    (s.sweepBusy t).phase = s.phase ∧ (s.sweepBusy t).now = s.now ∧ (s.sweepBusy t).minute = s.minute ∧
      (s.sweepBusy t).nextFlap = s.nextFlap ∧ (s.sweepBusy t).nextMinute = s.nextMinute ∧
      (s.sweepBusy t).hourDue = s.hourDue ∧ (s.sweepBusy t).lines = s.lines ∧ (s.sweepBusy t).audits = s.audits ∧
      (s.sweepBusy t).params = s.params ∧ (s.sweepBusy t).hold = s.hold ∧ (s.sweepBusy t).flushes = s.flushes ∧
      (s.sweepBusy t).buses = s.buses ∧ (s.sweepBusy t).steps = s.steps ∧ (s.sweepBusy t).plans = s.plans ∧
      (s.sweepBusy t).chans = s.chans ∧ (s.sweepBusy t).cal = s.cal ∧ (s.sweepBusy t).limits = s.limits ∧
      (s.sweepBusy t).sweep = s.sweep ∧ (s.sweepBusy t).tickets = s.tickets ∧ (s.sweepBusy t).choice = s.choice ∧
      (s.sweepBusy t).pending = s.pending ∧ (s.sweepBusy t).link.down = s.link.down ∧
      (s.sweepBusy t).link.up = s.link.up ∧ (s.sweepBusy t).link.sOwn = s.link.sOwn ∧
      (s.sweepBusy t).link.offers = s.link.offers ∧ (s.sweepBusy t).link.serial = s.link.serial ∧
      (s.sweepBusy t).link.portS = s.link.portS ∧ (s.sweepBusy t).desk.commands = s.desk.commands ∧
      (s.sweepBusy t).desk.lost = s.desk.lost := by
  simp [State.sweepBusy]

@[simp] theorem State.pauseFrom_keeps (s : State) (l : StateLeft) :
    (s.pauseFrom l).phase = s.phase ∧ (s.pauseFrom l).now = s.now ∧ (s.pauseFrom l).minute = s.minute ∧
      (s.pauseFrom l).nextFlap = s.nextFlap ∧ (s.pauseFrom l).nextMinute = s.nextMinute ∧
      (s.pauseFrom l).hourDue = s.hourDue ∧ (s.pauseFrom l).lines = s.lines ∧ (s.pauseFrom l).audits = s.audits ∧
      (s.pauseFrom l).link = s.link ∧ (s.pauseFrom l).desk = s.desk ∧ (s.pauseFrom l).params = s.params ∧
      (s.pauseFrom l).hold = s.hold ∧ (s.pauseFrom l).flushes = s.flushes ∧ (s.pauseFrom l).buses = s.buses ∧
      (s.pauseFrom l).steps = s.steps ∧ (s.pauseFrom l).plans = s.plans ∧ (s.pauseFrom l).chans = s.chans ∧
      (s.pauseFrom l).cal = s.cal ∧ (s.pauseFrom l).limits = s.limits ∧ (s.pauseFrom l).tickets = s.tickets ∧
      (s.pauseFrom l).choice = s.choice ∧ (s.pauseFrom l).pending = s.pending := by
  simp [State.pauseFrom]

@[simp] theorem State.resume_keeps (s : State) :
    (s.resume).phase = s.phase ∧ (s.resume).now = s.now ∧ (s.resume).minute = s.minute ∧
      (s.resume).nextFlap = s.nextFlap ∧ (s.resume).nextMinute = s.nextMinute ∧ (s.resume).hourDue = s.hourDue ∧
      (s.resume).params = s.params ∧ (s.resume).hold = s.hold ∧ (s.resume).flushes = s.flushes ∧
      (s.resume).steps = s.steps ∧ (s.resume).plans = s.plans ∧ (s.resume).cal = s.cal ∧ (s.resume).limits = s.limits ∧
      (s.resume).choice = s.choice ∧ (s.resume).pending = s.pending ∧ (s.resume).link.down = s.link.down ∧
      (s.resume).link.up = s.link.up ∧ (s.resume).desk.commands = s.desk.commands ∧
      (s.resume).desk.reservations = s.desk.reservations := by
  dsimp only [State.resume]
  (repeat' split) <;> simp

@[simp] theorem State.foldDiscard_keeps (s : State) (l : List Context) :
    (l.foldl State.discardContext s).phase = s.phase ∧ (l.foldl State.discardContext s).now = s.now ∧
      (l.foldl State.discardContext s).minute = s.minute ∧ (l.foldl State.discardContext s).nextFlap = s.nextFlap ∧
      (l.foldl State.discardContext s).nextMinute = s.nextMinute ∧
      (l.foldl State.discardContext s).hourDue = s.hourDue ∧ (l.foldl State.discardContext s).audits = s.audits ∧
      (l.foldl State.discardContext s).link = s.link ∧ (l.foldl State.discardContext s).desk = s.desk ∧
      (l.foldl State.discardContext s).params = s.params ∧ (l.foldl State.discardContext s).hold = s.hold ∧
      (l.foldl State.discardContext s).flushes = s.flushes ∧ (l.foldl State.discardContext s).buses = s.buses ∧
      (l.foldl State.discardContext s).steps = s.steps ∧ (l.foldl State.discardContext s).plans = s.plans ∧
      (l.foldl State.discardContext s).chans = s.chans ∧ (l.foldl State.discardContext s).cal = s.cal ∧
      (l.foldl State.discardContext s).limits = s.limits ∧ (l.foldl State.discardContext s).tickets = s.tickets ∧
      (l.foldl State.discardContext s).choice = s.choice ∧ (l.foldl State.discardContext s).pending = s.pending := by
  induction l generalizing s with
  | nil => simp
  | cons a l ih => simp [ih]

@[simp] theorem State.drain_keeps (s : State) :
    (s.drain).phase = s.phase ∧ (s.drain).now = s.now ∧ (s.drain).minute = s.minute ∧ (s.drain).nextFlap = s.nextFlap ∧
      (s.drain).nextMinute = s.nextMinute ∧ (s.drain).hourDue = s.hourDue ∧ (s.drain).audits = s.audits ∧
      (s.drain).link = s.link ∧ (s.drain).desk = s.desk ∧ (s.drain).params = s.params ∧ (s.drain).hold = s.hold ∧
      (s.drain).flushes = s.flushes ∧ (s.drain).buses = s.buses ∧ (s.drain).steps = s.steps ∧
      (s.drain).plans = s.plans ∧ (s.drain).chans = s.chans ∧ (s.drain).cal = s.cal ∧ (s.drain).limits = s.limits ∧
      (s.drain).tickets = s.tickets ∧ (s.drain).choice = s.choice ∧ (s.drain).pending = s.pending := by
  simp [State.drain]

@[simp] theorem State.doSweepStart_keeps (t : Byte) (p : Bytes) (s : State) :
    (State.doSweepStart t p s).phase = s.phase ∧ (State.doSweepStart t p s).now = s.now ∧ (State.doSweepStart t p s).minute = s.minute ∧
      (State.doSweepStart t p s).nextFlap = s.nextFlap ∧ (State.doSweepStart t p s).nextMinute = s.nextMinute ∧
      (State.doSweepStart t p s).hourDue = s.hourDue ∧ (State.doSweepStart t p s).params = s.params ∧
      (State.doSweepStart t p s).hold = s.hold ∧ (State.doSweepStart t p s).flushes = s.flushes ∧
      (State.doSweepStart t p s).steps = s.steps ∧ (State.doSweepStart t p s).plans = s.plans ∧ (State.doSweepStart t p s).cal = s.cal ∧
      (State.doSweepStart t p s).limits = s.limits ∧ (State.doSweepStart t p s).choice = s.choice ∧
      (State.doSweepStart t p s).pending = s.pending ∧ (State.doSweepStart t p s).link.down = s.link.down ∧
      (State.doSweepStart t p s).link.up = s.link.up ∧ (State.doSweepStart t p s).desk.commands = s.desk.commands := by
  dsimp only [State.doSweepStart]
  (repeat' split) <;> simp

@[simp] theorem State.doSweepResume_keeps (t : Byte) (p : Bytes) (s : State) :
    (State.doSweepResume t p s).phase = s.phase ∧ (State.doSweepResume t p s).now = s.now ∧
      (State.doSweepResume t p s).minute = s.minute ∧ (State.doSweepResume t p s).nextFlap = s.nextFlap ∧
      (State.doSweepResume t p s).nextMinute = s.nextMinute ∧ (State.doSweepResume t p s).hourDue = s.hourDue ∧
      (State.doSweepResume t p s).params = s.params ∧ (State.doSweepResume t p s).hold = s.hold ∧
      (State.doSweepResume t p s).flushes = s.flushes ∧ (State.doSweepResume t p s).steps = s.steps ∧
      (State.doSweepResume t p s).plans = s.plans ∧ (State.doSweepResume t p s).cal = s.cal ∧
      (State.doSweepResume t p s).limits = s.limits ∧ (State.doSweepResume t p s).choice = s.choice ∧
      (State.doSweepResume t p s).pending = s.pending ∧ (State.doSweepResume t p s).link.down = s.link.down ∧
      (State.doSweepResume t p s).link.up = s.link.up ∧ (State.doSweepResume t p s).desk.commands = s.desk.commands := by
  dsimp only [State.doSweepResume]
  (repeat' split) <;> simp

@[simp] theorem State.doSweepStop_keeps (t : Byte) (p : Bytes) (s : State) :
    (State.doSweepStop t p s).phase = s.phase ∧ (State.doSweepStop t p s).now = s.now ∧ (State.doSweepStop t p s).minute = s.minute ∧
      (State.doSweepStop t p s).nextFlap = s.nextFlap ∧ (State.doSweepStop t p s).nextMinute = s.nextMinute ∧
      (State.doSweepStop t p s).hourDue = s.hourDue ∧ (State.doSweepStop t p s).params = s.params ∧
      (State.doSweepStop t p s).hold = s.hold ∧ (State.doSweepStop t p s).flushes = s.flushes ∧
      (State.doSweepStop t p s).steps = s.steps ∧ (State.doSweepStop t p s).plans = s.plans ∧ (State.doSweepStop t p s).cal = s.cal ∧
      (State.doSweepStop t p s).limits = s.limits ∧ (State.doSweepStop t p s).choice = s.choice ∧
      (State.doSweepStop t p s).pending = s.pending ∧ (State.doSweepStop t p s).link.down = s.link.down ∧
      (State.doSweepStop t p s).link.up = s.link.up ∧ (State.doSweepStop t p s).desk.commands = s.desk.commands := by
  dsimp only [State.doSweepStop]
  (repeat' split) <;> simp

@[simp] theorem State.doSweepPause_keeps (t : Byte) (p : Bytes) (s : State) :
    (State.doSweepPause t p s).phase = s.phase ∧ (State.doSweepPause t p s).now = s.now ∧ (State.doSweepPause t p s).minute = s.minute ∧
      (State.doSweepPause t p s).nextFlap = s.nextFlap ∧ (State.doSweepPause t p s).nextMinute = s.nextMinute ∧
      (State.doSweepPause t p s).hourDue = s.hourDue ∧ (State.doSweepPause t p s).lines = s.lines ∧
      (State.doSweepPause t p s).audits = s.audits ∧ (State.doSweepPause t p s).params = s.params ∧
      (State.doSweepPause t p s).hold = s.hold ∧ (State.doSweepPause t p s).flushes = s.flushes ∧
      (State.doSweepPause t p s).buses = s.buses ∧ (State.doSweepPause t p s).steps = s.steps ∧
      (State.doSweepPause t p s).plans = s.plans ∧ (State.doSweepPause t p s).chans = s.chans ∧ (State.doSweepPause t p s).cal = s.cal ∧
      (State.doSweepPause t p s).limits = s.limits ∧ (State.doSweepPause t p s).tickets = s.tickets ∧
      (State.doSweepPause t p s).choice = s.choice ∧ (State.doSweepPause t p s).pending = s.pending ∧
      (State.doSweepPause t p s).link.down = s.link.down ∧ (State.doSweepPause t p s).link.up = s.link.up ∧
      (State.doSweepPause t p s).desk.commands = s.desk.commands := by
  dsimp only [State.doSweepPause]
  (repeat' split) <;> simp

@[simp] theorem State.doSweepMark_keeps (t : Byte) (p : Bytes) (s : State) :
    (State.doSweepMark t p s).phase = s.phase ∧ (State.doSweepMark t p s).now = s.now ∧ (State.doSweepMark t p s).minute = s.minute ∧
      (State.doSweepMark t p s).nextFlap = s.nextFlap ∧ (State.doSweepMark t p s).nextMinute = s.nextMinute ∧
      (State.doSweepMark t p s).hourDue = s.hourDue ∧ (State.doSweepMark t p s).lines = s.lines ∧
      (State.doSweepMark t p s).audits = s.audits ∧ (State.doSweepMark t p s).params = s.params ∧
      (State.doSweepMark t p s).hold = s.hold ∧ (State.doSweepMark t p s).flushes = s.flushes ∧
      (State.doSweepMark t p s).buses = s.buses ∧ (State.doSweepMark t p s).steps = s.steps ∧ (State.doSweepMark t p s).plans = s.plans ∧
      (State.doSweepMark t p s).chans = s.chans ∧ (State.doSweepMark t p s).cal = s.cal ∧ (State.doSweepMark t p s).limits = s.limits ∧
      (State.doSweepMark t p s).tickets = s.tickets ∧ (State.doSweepMark t p s).choice = s.choice ∧
      (State.doSweepMark t p s).pending = s.pending ∧ (State.doSweepMark t p s).link.down = s.link.down ∧
      (State.doSweepMark t p s).link.up = s.link.up ∧ (State.doSweepMark t p s).desk.commands = s.desk.commands := by
  dsimp only [State.doSweepMark]
  (repeat' split) <;> simp

@[simp] theorem State.doSuspect_keeps (t : Byte) (p : Bytes) (s : State) :
    (State.doSuspect t p s).phase = s.phase ∧ (State.doSuspect t p s).now = s.now ∧ (State.doSuspect t p s).minute = s.minute ∧
      (State.doSuspect t p s).nextFlap = s.nextFlap ∧ (State.doSuspect t p s).nextMinute = s.nextMinute ∧
      (State.doSuspect t p s).hourDue = s.hourDue ∧ (State.doSuspect t p s).params = s.params ∧ (State.doSuspect t p s).hold = s.hold ∧
      (State.doSuspect t p s).flushes = s.flushes ∧ (State.doSuspect t p s).steps = s.steps ∧ (State.doSuspect t p s).plans = s.plans ∧
      (State.doSuspect t p s).cal = s.cal ∧ (State.doSuspect t p s).limits = s.limits ∧ (State.doSuspect t p s).choice = s.choice ∧
      (State.doSuspect t p s).pending = s.pending ∧ (State.doSuspect t p s).link.down = s.link.down ∧
      (State.doSuspect t p s).link.up = s.link.up ∧ (State.doSuspect t p s).desk.commands = s.desk.commands := by
  dsimp only [State.doSuspect]
  (repeat' split) <;> simp

@[simp] theorem State.closeTicket_keeps (s : State) (t : Ticket) :
    (s.closeTicket t).phase = s.phase ∧ (s.closeTicket t).now = s.now ∧ (s.closeTicket t).minute = s.minute ∧
      (s.closeTicket t).nextFlap = s.nextFlap ∧ (s.closeTicket t).nextMinute = s.nextMinute ∧
      (s.closeTicket t).hourDue = s.hourDue ∧ (s.closeTicket t).audits = s.audits ∧ (s.closeTicket t).link = s.link ∧
      (s.closeTicket t).desk = s.desk ∧ (s.closeTicket t).params = s.params ∧ (s.closeTicket t).hold = s.hold ∧
      (s.closeTicket t).flushes = s.flushes ∧ (s.closeTicket t).buses = s.buses ∧ (s.closeTicket t).steps = s.steps ∧
      (s.closeTicket t).plans = s.plans ∧ (s.closeTicket t).chans = s.chans ∧ (s.closeTicket t).cal = s.cal ∧
      (s.closeTicket t).limits = s.limits ∧ (s.closeTicket t).sweep = s.sweep ∧ (s.closeTicket t).choice = s.choice ∧
      (s.closeTicket t).pending = s.pending := by
  dsimp only [State.closeTicket]
  (repeat' split) <;> simp

@[simp] theorem State.answerTicket_keeps (s : State) (t : Byte) (x : Option Ticket) :
    (s.answerTicket t x).phase = s.phase ∧ (s.answerTicket t x).now = s.now ∧ (s.answerTicket t x).minute = s.minute ∧
      (s.answerTicket t x).nextFlap = s.nextFlap ∧ (s.answerTicket t x).nextMinute = s.nextMinute ∧
      (s.answerTicket t x).hourDue = s.hourDue ∧ (s.answerTicket t x).lines = s.lines ∧
      (s.answerTicket t x).audits = s.audits ∧ (s.answerTicket t x).params = s.params ∧
      (s.answerTicket t x).hold = s.hold ∧ (s.answerTicket t x).flushes = s.flushes ∧
      (s.answerTicket t x).buses = s.buses ∧ (s.answerTicket t x).steps = s.steps ∧
      (s.answerTicket t x).plans = s.plans ∧ (s.answerTicket t x).chans = s.chans ∧ (s.answerTicket t x).cal = s.cal ∧
      (s.answerTicket t x).limits = s.limits ∧ (s.answerTicket t x).sweep = s.sweep ∧
      (s.answerTicket t x).tickets = s.tickets ∧ (s.answerTicket t x).choice = s.choice ∧
      (s.answerTicket t x).pending = s.pending ∧ (s.answerTicket t x).link.down = s.link.down ∧
      (s.answerTicket t x).link.up = s.link.up ∧ (s.answerTicket t x).link.sOwn = s.link.sOwn ∧
      (s.answerTicket t x).link.offers = s.link.offers ∧ (s.answerTicket t x).link.serial = s.link.serial ∧
      (s.answerTicket t x).link.portS = s.link.portS ∧ (s.answerTicket t x).desk.commands = s.desk.commands ∧
      (s.answerTicket t x).desk.lost = s.desk.lost := by
  cases x <;> simp [State.answerTicket]

@[simp] theorem State.doTicketRead_keeps (t : Byte) (p : Bytes) (s : State) :
    (State.doTicketRead t p s).phase = s.phase ∧ (State.doTicketRead t p s).now = s.now ∧ (State.doTicketRead t p s).minute = s.minute ∧
      (State.doTicketRead t p s).nextFlap = s.nextFlap ∧ (State.doTicketRead t p s).nextMinute = s.nextMinute ∧
      (State.doTicketRead t p s).hourDue = s.hourDue ∧ (State.doTicketRead t p s).lines = s.lines ∧
      (State.doTicketRead t p s).audits = s.audits ∧ (State.doTicketRead t p s).params = s.params ∧
      (State.doTicketRead t p s).hold = s.hold ∧ (State.doTicketRead t p s).flushes = s.flushes ∧
      (State.doTicketRead t p s).buses = s.buses ∧ (State.doTicketRead t p s).steps = s.steps ∧
      (State.doTicketRead t p s).plans = s.plans ∧ (State.doTicketRead t p s).chans = s.chans ∧ (State.doTicketRead t p s).cal = s.cal ∧
      (State.doTicketRead t p s).limits = s.limits ∧ (State.doTicketRead t p s).sweep = s.sweep ∧
      (State.doTicketRead t p s).tickets = s.tickets ∧ (State.doTicketRead t p s).choice = s.choice ∧
      (State.doTicketRead t p s).pending = s.pending ∧ (State.doTicketRead t p s).link.down = s.link.down ∧
      (State.doTicketRead t p s).link.up = s.link.up ∧ (State.doTicketRead t p s).desk.commands = s.desk.commands := by
  dsimp only [State.doTicketRead]
  (repeat' split) <;> simp

@[simp] theorem State.doTicketAck_keeps (t : Byte) (p : Bytes) (s : State) :
    (State.doTicketAck t p s).phase = s.phase ∧ (State.doTicketAck t p s).now = s.now ∧ (State.doTicketAck t p s).minute = s.minute ∧
      (State.doTicketAck t p s).nextFlap = s.nextFlap ∧ (State.doTicketAck t p s).nextMinute = s.nextMinute ∧
      (State.doTicketAck t p s).hourDue = s.hourDue ∧ (State.doTicketAck t p s).lines = s.lines ∧
      (State.doTicketAck t p s).audits = s.audits ∧ (State.doTicketAck t p s).params = s.params ∧
      (State.doTicketAck t p s).hold = s.hold ∧ (State.doTicketAck t p s).flushes = s.flushes ∧
      (State.doTicketAck t p s).buses = s.buses ∧ (State.doTicketAck t p s).steps = s.steps ∧ (State.doTicketAck t p s).plans = s.plans ∧
      (State.doTicketAck t p s).chans = s.chans ∧ (State.doTicketAck t p s).cal = s.cal ∧ (State.doTicketAck t p s).limits = s.limits ∧
      (State.doTicketAck t p s).sweep = s.sweep ∧ (State.doTicketAck t p s).choice = s.choice ∧
      (State.doTicketAck t p s).pending = s.pending ∧ (State.doTicketAck t p s).link.down = s.link.down ∧
      (State.doTicketAck t p s).link.up = s.link.up ∧ (State.doTicketAck t p s).desk.commands = s.desk.commands := by
  dsimp only [State.doTicketAck]
  (repeat' split) <;> simp

@[simp] theorem State.doTicketClose_keeps (t : Byte) (p : Bytes) (s : State) :
    (State.doTicketClose t p s).phase = s.phase ∧ (State.doTicketClose t p s).now = s.now ∧
      (State.doTicketClose t p s).minute = s.minute ∧ (State.doTicketClose t p s).nextFlap = s.nextFlap ∧
      (State.doTicketClose t p s).nextMinute = s.nextMinute ∧ (State.doTicketClose t p s).hourDue = s.hourDue ∧
      (State.doTicketClose t p s).audits = s.audits ∧ (State.doTicketClose t p s).params = s.params ∧
      (State.doTicketClose t p s).hold = s.hold ∧ (State.doTicketClose t p s).flushes = s.flushes ∧
      (State.doTicketClose t p s).buses = s.buses ∧ (State.doTicketClose t p s).steps = s.steps ∧
      (State.doTicketClose t p s).plans = s.plans ∧ (State.doTicketClose t p s).chans = s.chans ∧
      (State.doTicketClose t p s).cal = s.cal ∧ (State.doTicketClose t p s).limits = s.limits ∧
      (State.doTicketClose t p s).sweep = s.sweep ∧ (State.doTicketClose t p s).choice = s.choice ∧
      (State.doTicketClose t p s).pending = s.pending ∧ (State.doTicketClose t p s).link.down = s.link.down ∧
      (State.doTicketClose t p s).link.up = s.link.up ∧ (State.doTicketClose t p s).desk.commands = s.desk.commands := by
  dsimp only [State.doTicketClose]
  (repeat' split) <;> simp

@[simp] theorem State.doTicketNote_keeps (t : Byte) (p : Bytes) (s : State) :
    (State.doTicketNote t p s).phase = s.phase ∧ (State.doTicketNote t p s).now = s.now ∧ (State.doTicketNote t p s).minute = s.minute ∧
      (State.doTicketNote t p s).nextFlap = s.nextFlap ∧ (State.doTicketNote t p s).nextMinute = s.nextMinute ∧
      (State.doTicketNote t p s).hourDue = s.hourDue ∧ (State.doTicketNote t p s).lines = s.lines ∧
      (State.doTicketNote t p s).audits = s.audits ∧ (State.doTicketNote t p s).params = s.params ∧
      (State.doTicketNote t p s).hold = s.hold ∧ (State.doTicketNote t p s).flushes = s.flushes ∧
      (State.doTicketNote t p s).buses = s.buses ∧ (State.doTicketNote t p s).steps = s.steps ∧
      (State.doTicketNote t p s).plans = s.plans ∧ (State.doTicketNote t p s).chans = s.chans ∧ (State.doTicketNote t p s).cal = s.cal ∧
      (State.doTicketNote t p s).limits = s.limits ∧ (State.doTicketNote t p s).sweep = s.sweep ∧
      (State.doTicketNote t p s).choice = s.choice ∧ (State.doTicketNote t p s).pending = s.pending ∧
      (State.doTicketNote t p s).link.down = s.link.down ∧ (State.doTicketNote t p s).link.up = s.link.up ∧
      (State.doTicketNote t p s).desk.commands = s.desk.commands := by
  dsimp only [State.doTicketNote]
  (repeat' split) <;> simp

@[simp] theorem State.doSetParam_keeps (t : Byte) (p : Bytes) (s : State) :
    (State.doSetParam t p s).phase = s.phase ∧ (State.doSetParam t p s).now = s.now ∧ (State.doSetParam t p s).minute = s.minute ∧
      (State.doSetParam t p s).nextFlap = s.nextFlap ∧ (State.doSetParam t p s).nextMinute = s.nextMinute ∧
      (State.doSetParam t p s).hourDue = s.hourDue ∧ (State.doSetParam t p s).lines = s.lines ∧
      (State.doSetParam t p s).audits = s.audits ∧ (State.doSetParam t p s).hold = s.hold ∧ (State.doSetParam t p s).flushes = s.flushes ∧
      (State.doSetParam t p s).buses = s.buses ∧ (State.doSetParam t p s).steps = s.steps ∧ (State.doSetParam t p s).plans = s.plans ∧
      (State.doSetParam t p s).chans = s.chans ∧ (State.doSetParam t p s).cal = s.cal ∧ (State.doSetParam t p s).limits = s.limits ∧
      (State.doSetParam t p s).sweep = s.sweep ∧ (State.doSetParam t p s).tickets = s.tickets ∧
      (State.doSetParam t p s).choice = s.choice ∧ (State.doSetParam t p s).pending = s.pending ∧
      (State.doSetParam t p s).link.down = s.link.down ∧ (State.doSetParam t p s).link.up = s.link.up ∧
      (State.doSetParam t p s).desk.commands = s.desk.commands := by
  dsimp only [State.doSetParam]
  (repeat' split) <;> simp

@[simp] theorem State.doStatus_keeps (t : Byte) (p : Bytes) (s : State) :
    (State.doStatus t p s).phase = s.phase ∧ (State.doStatus t p s).now = s.now ∧ (State.doStatus t p s).minute = s.minute ∧
      (State.doStatus t p s).nextFlap = s.nextFlap ∧ (State.doStatus t p s).nextMinute = s.nextMinute ∧
      (State.doStatus t p s).hourDue = s.hourDue ∧ (State.doStatus t p s).lines = s.lines ∧ (State.doStatus t p s).audits = s.audits ∧
      (State.doStatus t p s).params = s.params ∧ (State.doStatus t p s).hold = s.hold ∧ (State.doStatus t p s).flushes = s.flushes ∧
      (State.doStatus t p s).buses = s.buses ∧ (State.doStatus t p s).steps = s.steps ∧ (State.doStatus t p s).plans = s.plans ∧
      (State.doStatus t p s).chans = s.chans ∧ (State.doStatus t p s).cal = s.cal ∧ (State.doStatus t p s).limits = s.limits ∧
      (State.doStatus t p s).sweep = s.sweep ∧ (State.doStatus t p s).tickets = s.tickets ∧ (State.doStatus t p s).choice = s.choice ∧
      (State.doStatus t p s).pending = s.pending ∧ (State.doStatus t p s).link.down = s.link.down ∧
      (State.doStatus t p s).link.up = s.link.up ∧ (State.doStatus t p s).desk.commands = s.desk.commands := by
  simp [State.doStatus]

@[simp] theorem State.restartTap_keeps (s : State) (h : Nat) :
    (s.restartTap h).phase = s.phase ∧ (s.restartTap h).now = s.now ∧ (s.restartTap h).minute = s.minute ∧
      (s.restartTap h).nextFlap = s.nextFlap ∧ (s.restartTap h).nextMinute = s.nextMinute ∧
      (s.restartTap h).hourDue = s.hourDue ∧ (s.restartTap h).audits = s.audits ∧ (s.restartTap h).desk = s.desk ∧
      (s.restartTap h).params = s.params ∧ (s.restartTap h).hold = s.hold ∧ (s.restartTap h).flushes = s.flushes ∧
      (s.restartTap h).steps = s.steps ∧ (s.restartTap h).plans = s.plans ∧ (s.restartTap h).cal = s.cal ∧
      (s.restartTap h).limits = s.limits ∧ (s.restartTap h).sweep = s.sweep ∧ (s.restartTap h).tickets = s.tickets ∧
      (s.restartTap h).choice = s.choice ∧ (s.restartTap h).pending = s.pending ∧
      (s.restartTap h).link.down = s.link.down ∧ (s.restartTap h).link.up = s.link.up ∧
      (s.restartTap h).link.portU = s.link.portU := by
  dsimp only [State.restartTap]
  (repeat' split) <;> simp

@[simp] theorem State.restartReleasing_keeps (s : State) (h : Nat) :
    (s.restartReleasing h).phase = s.phase ∧ (s.restartReleasing h).now = s.now ∧
      (s.restartReleasing h).minute = s.minute ∧ (s.restartReleasing h).nextFlap = s.nextFlap ∧
      (s.restartReleasing h).nextMinute = s.nextMinute ∧ (s.restartReleasing h).hourDue = s.hourDue ∧
      (s.restartReleasing h).lines = s.lines ∧ (s.restartReleasing h).audits = s.audits ∧
      (s.restartReleasing h).link = s.link ∧ (s.restartReleasing h).desk = s.desk ∧
      (s.restartReleasing h).params = s.params ∧ (s.restartReleasing h).hold = s.hold ∧
      (s.restartReleasing h).flushes = s.flushes ∧ (s.restartReleasing h).buses = s.buses ∧
      (s.restartReleasing h).steps = s.steps ∧ (s.restartReleasing h).plans = s.plans ∧
      (s.restartReleasing h).cal = s.cal ∧ (s.restartReleasing h).limits = s.limits ∧
      (s.restartReleasing h).sweep = s.sweep ∧ (s.restartReleasing h).tickets = s.tickets ∧
      (s.restartReleasing h).choice = s.choice ∧ (s.restartReleasing h).pending = s.pending := by
  simp [State.restartReleasing]

@[simp] theorem State.restartChannel_keeps (s : State) (h : Nat) :
    (s.restartChannel h).phase = s.phase ∧ (s.restartChannel h).now = s.now ∧ (s.restartChannel h).minute = s.minute ∧
      (s.restartChannel h).nextFlap = s.nextFlap ∧ (s.restartChannel h).nextMinute = s.nextMinute ∧
      (s.restartChannel h).hourDue = s.hourDue ∧ (s.restartChannel h).audits = s.audits ∧
      (s.restartChannel h).params = s.params ∧ (s.restartChannel h).hold = s.hold ∧
      (s.restartChannel h).flushes = s.flushes ∧ (s.restartChannel h).steps = s.steps ∧
      (s.restartChannel h).plans = s.plans ∧ (s.restartChannel h).cal = s.cal ∧ (s.restartChannel h).limits = s.limits ∧
      (s.restartChannel h).choice = s.choice ∧ (s.restartChannel h).pending = s.pending ∧
      (s.restartChannel h).link.down = s.link.down ∧ (s.restartChannel h).link.up = s.link.up ∧
      (s.restartChannel h).desk.commands = s.desk.commands := by
  dsimp only [State.restartChannel]
  (repeat' split) <;> simp

@[simp] theorem State.foldRestart_keeps (s : State) (l : List Nat) :
    (l.foldl State.restartChannel s).phase = s.phase ∧ (l.foldl State.restartChannel s).now = s.now ∧
      (l.foldl State.restartChannel s).minute = s.minute ∧ (l.foldl State.restartChannel s).nextFlap = s.nextFlap ∧
      (l.foldl State.restartChannel s).nextMinute = s.nextMinute ∧
      (l.foldl State.restartChannel s).hourDue = s.hourDue ∧ (l.foldl State.restartChannel s).audits = s.audits ∧
      (l.foldl State.restartChannel s).params = s.params ∧ (l.foldl State.restartChannel s).hold = s.hold ∧
      (l.foldl State.restartChannel s).flushes = s.flushes ∧ (l.foldl State.restartChannel s).steps = s.steps ∧
      (l.foldl State.restartChannel s).plans = s.plans ∧ (l.foldl State.restartChannel s).cal = s.cal ∧
      (l.foldl State.restartChannel s).limits = s.limits ∧ (l.foldl State.restartChannel s).choice = s.choice ∧
      (l.foldl State.restartChannel s).pending = s.pending ∧ (l.foldl State.restartChannel s).link.down = s.link.down ∧
      (l.foldl State.restartChannel s).link.up = s.link.up ∧
      (l.foldl State.restartChannel s).desk.commands = s.desk.commands := by
  induction l generalizing s with
  | nil => simp
  | cons a l ih => simp [ih]

@[simp] theorem State.restartChannels_keeps (s : State) :
    (s.restartChannels).phase = s.phase ∧ (s.restartChannels).now = s.now ∧ (s.restartChannels).minute = s.minute ∧
      (s.restartChannels).nextFlap = s.nextFlap ∧ (s.restartChannels).nextMinute = s.nextMinute ∧
      (s.restartChannels).hourDue = s.hourDue ∧ (s.restartChannels).audits = s.audits ∧
      (s.restartChannels).params = s.params ∧ (s.restartChannels).hold = s.hold ∧
      (s.restartChannels).flushes = s.flushes ∧ (s.restartChannels).steps = s.steps ∧
      (s.restartChannels).plans = s.plans ∧ (s.restartChannels).cal = s.cal ∧ (s.restartChannels).limits = s.limits ∧
      (s.restartChannels).pending = s.pending ∧ (s.restartChannels).link.down = s.link.down ∧
      (s.restartChannels).link.up = s.link.up ∧ (s.restartChannels).desk.commands = s.desk.commands := by
  simp [State.restartChannels]

@[simp] theorem State.foldFlush_keeps (s : State) (l : List Nat) (b : Bool) :
    (l.foldl (fun s l => s.beginFlush l b) s).phase = s.phase ∧ (l.foldl (fun s l => s.beginFlush l b) s).now = s.now ∧
      (l.foldl (fun s l => s.beginFlush l b) s).minute = s.minute ∧
      (l.foldl (fun s l => s.beginFlush l b) s).nextFlap = s.nextFlap ∧
      (l.foldl (fun s l => s.beginFlush l b) s).nextMinute = s.nextMinute ∧
      (l.foldl (fun s l => s.beginFlush l b) s).hourDue = s.hourDue ∧
      (l.foldl (fun s l => s.beginFlush l b) s).audits = s.audits ∧
      (l.foldl (fun s l => s.beginFlush l b) s).desk = s.desk ∧
      (l.foldl (fun s l => s.beginFlush l b) s).params = s.params ∧
      (l.foldl (fun s l => s.beginFlush l b) s).buses = s.buses ∧
      (l.foldl (fun s l => s.beginFlush l b) s).steps = s.steps ∧
      (l.foldl (fun s l => s.beginFlush l b) s).plans = s.plans ∧
      (l.foldl (fun s l => s.beginFlush l b) s).chans = s.chans ∧
      (l.foldl (fun s l => s.beginFlush l b) s).cal = s.cal ∧
      (l.foldl (fun s l => s.beginFlush l b) s).limits = s.limits ∧
      (l.foldl (fun s l => s.beginFlush l b) s).sweep = s.sweep ∧
      (l.foldl (fun s l => s.beginFlush l b) s).tickets = s.tickets ∧
      (l.foldl (fun s l => s.beginFlush l b) s).choice = s.choice ∧
      (l.foldl (fun s l => s.beginFlush l b) s).pending = s.pending ∧
      (l.foldl (fun s l => s.beginFlush l b) s).link.down = s.link.down ∧
      (l.foldl (fun s l => s.beginFlush l b) s).link.up = s.link.up ∧
      (l.foldl (fun s l => s.beginFlush l b) s).desk.commands = s.desk.commands := by
  induction l generalizing s with
  | nil => simp
  | cons a l ih => simp [ih]

@[simp] theorem State.restartFlushes_keeps (s : State) :
    (s.restartFlushes).phase = s.phase ∧ (s.restartFlushes).now = s.now ∧ (s.restartFlushes).minute = s.minute ∧
      (s.restartFlushes).nextFlap = s.nextFlap ∧ (s.restartFlushes).nextMinute = s.nextMinute ∧
      (s.restartFlushes).hourDue = s.hourDue ∧ (s.restartFlushes).audits = s.audits ∧ (s.restartFlushes).desk = s.desk ∧
      (s.restartFlushes).params = s.params ∧ (s.restartFlushes).buses = s.buses ∧ (s.restartFlushes).steps = s.steps ∧
      (s.restartFlushes).plans = s.plans ∧ (s.restartFlushes).chans = s.chans ∧ (s.restartFlushes).cal = s.cal ∧
      (s.restartFlushes).limits = s.limits ∧ (s.restartFlushes).sweep = s.sweep ∧
      (s.restartFlushes).tickets = s.tickets ∧ (s.restartFlushes).pending = s.pending ∧
      (s.restartFlushes).link.down = s.link.down ∧ (s.restartFlushes).link.up = s.link.up ∧
      (s.restartFlushes).desk.commands = s.desk.commands := by
  simp [State.restartFlushes]

@[simp] theorem State.restartNotices_keeps (s : State) :
    (s.restartNotices).phase = s.phase ∧ (s.restartNotices).now = s.now ∧ (s.restartNotices).minute = s.minute ∧
      (s.restartNotices).nextFlap = s.nextFlap ∧ (s.restartNotices).nextMinute = s.nextMinute ∧
      (s.restartNotices).hourDue = s.hourDue ∧ (s.restartNotices).lines = s.lines ∧
      (s.restartNotices).audits = s.audits ∧ (s.restartNotices).link = s.link ∧ (s.restartNotices).params = s.params ∧
      (s.restartNotices).hold = s.hold ∧ (s.restartNotices).flushes = s.flushes ∧ (s.restartNotices).buses = s.buses ∧
      (s.restartNotices).steps = s.steps ∧ (s.restartNotices).plans = s.plans ∧ (s.restartNotices).chans = s.chans ∧
      (s.restartNotices).cal = s.cal ∧ (s.restartNotices).limits = s.limits ∧ (s.restartNotices).sweep = s.sweep ∧
      (s.restartNotices).tickets = s.tickets ∧ (s.restartNotices).choice = s.choice ∧
      (s.restartNotices).pending = s.pending ∧ (s.restartNotices).desk.commands = s.desk.commands ∧
      (s.restartNotices).desk.reservations = s.desk.reservations := by
  simp [State.restartNotices]

@[simp] theorem State.warmRestart_keeps (s : State) :
    (s.warmRestart).phase = s.phase ∧ (s.warmRestart).now = s.now ∧ (s.warmRestart).minute = s.minute ∧
      (s.warmRestart).nextFlap = s.nextFlap ∧ (s.warmRestart).nextMinute = s.nextMinute ∧
      (s.warmRestart).hourDue = s.hourDue ∧ (s.warmRestart).audits = s.audits ∧ (s.warmRestart).params = s.params ∧
      (s.warmRestart).steps = s.steps ∧ (s.warmRestart).plans = s.plans ∧ (s.warmRestart).cal = s.cal ∧
      (s.warmRestart).limits = s.limits ∧ (s.warmRestart).pending = s.pending ∧
      (s.warmRestart).link.down = s.link.down ∧ (s.warmRestart).link.up = s.link.up ∧
      (s.warmRestart).desk.commands = s.desk.commands := by
  simp [State.warmRestart]

@[simp] theorem State.doRestart_keeps (t : Byte) (p : Bytes) (s : State) :
    (State.doRestart t p s).phase = s.phase ∧ (State.doRestart t p s).now = s.now ∧ (State.doRestart t p s).minute = s.minute ∧
      (State.doRestart t p s).nextFlap = s.nextFlap ∧ (State.doRestart t p s).nextMinute = s.nextMinute ∧
      (State.doRestart t p s).hourDue = s.hourDue ∧ (State.doRestart t p s).audits = s.audits ∧
      (State.doRestart t p s).params = s.params ∧ (State.doRestart t p s).steps = s.steps ∧ (State.doRestart t p s).plans = s.plans ∧
      (State.doRestart t p s).cal = s.cal ∧ (State.doRestart t p s).limits = s.limits ∧ (State.doRestart t p s).pending = s.pending ∧
      (State.doRestart t p s).link.down = s.link.down ∧ (State.doRestart t p s).link.up = s.link.up ∧
      (State.doRestart t p s).desk.commands = s.desk.commands := by
  dsimp only [State.doRestart]
  (repeat' split) <;> simp

end Sys2Proof.Machine
end

