-- ==== Sys2Proof/Laws/Notices.lean ====
section
/-! SUPPORT. The room of the notice queue (R181): what each shared operation does to it, said once. -/

namespace Sys2Proof.Machine

open State (NoticesHeld)

/-- The notice queue is held as long as it, its reservations and the channels stay as they are. -/
theorem State.NoticesHeld.congr {k s t} (hp : NoticesHeld k s) (h1 : t.chans = s.chans) (h2 : t.desk.notices = s.desk.notices)
    (h3 : t.desk.reservations = s.desk.reservations) : NoticesHeld k t := by
  refine ⟨h1 ▸ hp.chans, h2 ▸ hp.unsolicited, by rw [h2, h3]; exact hp.room, ?_⟩
  have := hp.reserved
  unfold State.owed at *
  rw [h1, h3]; exact this

/-- What is reserved beyond need may stand unused. -/
theorem State.NoticesHeld.le {j k s} (hp : NoticesHeld k s) (h : j ≤ k) :
    NoticesHeld j s := ⟨hp.1, hp.2, hp.3, by have := hp.4; omega⟩

/-- The responses that the channels of a store owe (R181). -/
def owedSum (t : Table Channel) : Nat := (t.map fun e => e.2.owed).sum

theorem owedSum_erase {t : Table Channel} {n : Nat} (h : Table.wf Channel.cold t = true) :
    owedSum (t.erase n) + (Table.get Channel.cold t n).owed = owedSum t := by
  have hp := ((Table.wf_iff t).1 h).1
  clear h
  induction t with
  | nil => simp [owedSum, Table.erase, Table.get, Channel.owed, Channel.cold]
  | cons p t ih =>
    obtain ⟨k, v⟩ := p
    rw [List.pairwise_cons] at hp
    have ih := ih hp.2
    by_cases hk : k = n
    · have he : ∀ q ∈ t, q.1 ≠ n := fun q hq => by have := hp.1 q hq; simp at this; omega
      have h1 := Table.erase_eq_self he
      subst hk
      simp [owedSum, Table.erase, Table.get, h1, Nat.add_comm] 
    · simp [owedSum, Table.erase, Table.get, hk] at ih ⊢
      omega

theorem owedSum_insert (t : Table Channel) (n : Nat) (c : Channel) : owedSum (t.insert n c) = owedSum t + c.owed := by
  induction t with
  | nil => simp [owedSum, Table.insert]
  | cons p t ih =>
    obtain ⟨k, v⟩ := p
    by_cases hk : n < k <;> simp [owedSum, Table.insert, hk] at ih ⊢ <;> omega

theorem owedSum_set {t : Table Channel} {n : Nat} (c : Channel) (h : Table.wf Channel.cold t = true) :
    owedSum (Table.set Channel.cold t n c) + (Table.get Channel.cold t n).owed = owedSum t + c.owed := by
  have h1 := owedSum_erase (n := n) h
  unfold Table.set
  split
  · rename_i hc; subst hc
    have : Channel.cold.owed = 0 := rfl
    omega
  · rw [owedSum_insert]; omega

/-- A channel may come to owe as many responses more as were reserved besides, or free those it owed. -/
theorem State.NoticesHeld.set {k j s} (h : Nat) (c : Channel) (hp : NoticesHeld k s) (hc : c.owed + j ≤ (s.chan h).owed + k) :
    NoticesHeld j (s.setChan h c) := by
  have hw : (s.setChan h c).owed + (s.chan h).owed = s.owed + c.owed := owedSum_set c hp.chans
  exact ⟨Table.set_wf hp.chans h c, hp.unsolicited, hp.room, by have := hp.reserved; show _ ≤ s.desk.reservations; omega⟩

/-- A channel that goes on owing what it owes keeps the notice queue held. -/
theorem State.NoticesHeld.same {k s} (h : Nat) (c : Channel)
    (hp : NoticesHeld k s) (h1 : c.pendingAbort = (s.chan h).pendingAbort)
    (h2 : c.run = (s.chan h).run) : NoticesHeld k (s.setChan h c) :=
  hp.set h c (by simp [Channel.owed, h1, h2])

/-- A notice may be placed where there is room for it (R181). -/
theorem State.NoticesHeld.place {k s} (n : Notice)
    (hp : NoticesHeld k s) (hr : s.desk.notices.length + s.desk.reservations < 64)
    (hu : n.unsolicited = true → s.desk.notices.countP Notice.unsolicited < 56) : NoticesHeld k (s.placeNotice n) := by
  refine ⟨by simpa using hp.chans, ?_, by simp; omega, ?_⟩
  · show (s.placeNotice n).desk.notices.countP Notice.unsolicited ≤ 56
    have h1 : s.desk.notices.countP Notice.unsolicited ≤ 56 := hp.unsolicited
    rw [State.placeNotice_notices, List.countP_append, List.countP_singleton]
    split
    · have := hu ‹_›; omega
    · exact h1
  · have := hp.reserved
    simpa [State.owed] using this

/-- An unsolicited notice enters only where there is room for it (R181). -/
theorem State.NoticesHeld.notify {k s} (e b) (hp : NoticesHeld k s) : NoticesHeld k (s.notify e b) := by
  unfold State.notify
  split
  · rename_i h
    obtain ⟨h1, h2⟩ := h
    have h1' : s.desk.notices.countP Notice.unsolicited < 56 := h1
    have h2' : ¬ 64 ≤ s.desk.notices.length + s.desk.reservations := of_decide_eq_false h2
    exact hp.place _ (by omega) (fun _ => h1')
  · exact hp.congr rfl rfl rfl

/-- A response takes the entry reserved for it (R181). -/
theorem State.NoticesHeld.respond {k s} (t r b) (hp : NoticesHeld (k + 1) s) : NoticesHeld k (s.respond t r b) := by
  unfold State.respond
  have h3 := hp.room
  have h4 := hp.reserved
  apply NoticesHeld.place
  · refine ⟨hp.chans, hp.unsolicited, ?_, ?_⟩
    · show s.desk.notices.length + (s.desk.reservations - 1) ≤ 64; omega
    · show s.owed + k ≤ s.desk.reservations - 1; omega
  · show s.desk.notices.length + (s.desk.reservations - 1) < 64; omega
  · intro h; exact absurd h (by simp [Notice.unsolicited])

theorem State.NoticesHeld.offer {k s} (b t) (hp : NoticesHeld k s) :
    NoticesHeld k (s.offer b t) :=
  hp.congr (by simp) (by simp) (by simp)

theorem State.NoticesHeld.update {k s} (a b) (hp : NoticesHeld k s) : NoticesHeld k (s.updateTicket a b) :=
  NoticesHeld.notify _ _ (hp.congr rfl rfl rfl)

theorem State.NoticesHeld.countUp {k s} (a b) (hp : NoticesHeld k s) :
    NoticesHeld k (s.countUp a b) :=
  hp.congr (by simp) (by simp) (by simp)

theorem State.NoticesHeld.create {k s} (a b c d) (hp : NoticesHeld k s) : NoticesHeld k (s.createTicket a b c d) :=
  NoticesHeld.countUp _ _ (NoticesHeld.notify _ _ (hp.congr rfl rfl rfl))

/-- A raise offers unsolicited notices only (R167, R173). -/
theorem State.NoticesHeld.raise {k s} (a b c d) (hp : NoticesHeld k s) : NoticesHeld k (s.raise a b c d) := by
  unfold State.raise
  split
  · exact hp.update _ _
  · split
    · exact hp.create _ _ _ _
    · split
      · apply NoticesHeld.create
        apply NoticesHeld.notify
        exact hp.congr (by simp) (by simp) (by simp)
      · dsimp only [State.loseRaise]
        split
        · exact NoticesHeld.notify _ _ (hp.congr rfl rfl rfl)
        · exact hp.congr rfl rfl rfl

/-- A clear request offers unsolicited notices only (R172, R173). -/
theorem State.NoticesHeld.clear {k s} (a b c) (hp : NoticesHeld k s) : NoticesHeld k (s.clearTicket a b c) := by
  unfold State.clearTicket
  split
  · split
    · exact hp
    · exact NoticesHeld.notify _ _ (hp.congr rfl rfl rfl)
  · exact hp

theorem State.NoticesHeld.noteIdle {k s} (h) (hp : NoticesHeld k s) :
    NoticesHeld k (s.noteIdle h) :=
  hp.congr (by simp) (by simp) (by simp)

theorem State.NoticesHeld.access {k s} (l a) (hp : NoticesHeld k s) :
    NoticesHeld k (s.setAccess l a) :=
  hp.congr (by simp) (by simp) (by simp)

theorem State.NoticesHeld.setBus {k s} (b r) (hp : NoticesHeld k s) : NoticesHeld k (s.setBus b r) := hp.congr rfl rfl rfl

theorem State.NoticesHeld.claimAndTap {k s} (h l b) (hp : NoticesHeld k s) : NoticesHeld k (s.claimAndTap h l b) := by
  dsimp only [State.claimAndTap, State.beginTapping]
  apply NoticesHeld.setBus
  apply NoticesHeld.offer
  apply NoticesHeld.same
  · exact NoticesHeld.access _ _ (NoticesHeld.setBus _ _ (hp.setBus _ _))
  all_goals simp

theorem State.NoticesHeld.startTest {k s} (h b t o) (hp : NoticesHeld k s) : NoticesHeld k (s.startTest h b t o) := by
  dsimp only [State.startTest]
  exact NoticesHeld.claimAndTap _ _ _ (hp.same _ _ rfl rfl)

theorem State.NoticesHeld.release {k s} (h l b) (hp : NoticesHeld k s) : NoticesHeld k (s.release h l b) := by
  dsimp only [State.release]
  apply NoticesHeld.setBus
  apply NoticesHeld.offer
  apply NoticesHeld.offer
  apply NoticesHeld.access
  exact hp.same _ _ rfl rfl

theorem State.NoticesHeld.endByCause {k s} (h o) (hp : NoticesHeld k s) : NoticesHeld k (s.endByCause h o) := by
  dsimp only [State.endByCause]
  split
  · split
    · exact NoticesHeld.release _ _ _ (hp.same _ _ rfl rfl)
    · exact hp
  · exact hp

/-- No act of the Sweep Unit takes the hold away. -/
theorem noticesHeld_sweepFree (k) : SweepFree (NoticesHeld k) where
  sweep := fun _ _ hp => hp.congr rfl rfl rfl
  start := fun _ h b t o _ _ hp => hp.startTest h b t o
  write := fun _ _ _ _ hp => hp.congr (by simp) (by simp) (by simp)
  raise := fun _ _ _ _ hp => hp.raise _ _ _ _
  clear := fun _ _ hp => hp.clear _ _ _
  note := fun _ _ _ hp => hp.notify _ _
  audit := fun _ _ hp => hp.congr (by simp) (by simp) (by simp)

/-- Settling an act answers no command. -/
theorem State.NoticesHeld.settle {k s} (hp : NoticesHeld k s) : NoticesHeld k s.settle := (noticesHeld_sweepFree k).settle hp

theorem State.NoticesHeld.runPass {k s} (hp : NoticesHeld k s) : NoticesHeld k s.runPass := (noticesHeld_sweepFree k).runPass hp

theorem State.NoticesHeld.sendReport {k s} (r) (hp : NoticesHeld k s) : NoticesHeld k (s.sendReport r) := by
  unfold State.sendReport; split
  · exact hp.notify _ _
  · exact hp

/-- The end of a test answers the ABORT that waited for it, and no other command (R90, R92). -/
theorem State.NoticesHeld.endTest {k s} (h) (hp : NoticesHeld k s) : NoticesHeld k (s.endTest h) := by
  dsimp only [State.endTest]
  have h1 : NoticesHeld (k + if (s.chan h).pendingAbort.isSome then 1 else 0) ((s.setChan h (s.chan h).givenUp).noteIdle h) := by
    apply NoticesHeld.noteIdle
    apply hp.set
    show (0 + if (s.chan h).run.isSome = true then 1 else 0) + (k + _) ≤ (_ + if (s.chan h).run.isSome = true then 1 else 0) + k
    omega
  generalize (s.setChan h (s.chan h).givenUp).noteIdle h = u at h1
  have h0 : NoticesHeld k u := h1.le (by omega)
  split
  · exact h0
  · rename_i t ht
    have h2 : NoticesHeld k (u.answerAbort h (s.chan h).pendingAbort t) := by
      unfold State.answerAbort
      cases hpa : (s.chan h).pendingAbort with
      | none => exact h0
      | some tag =>
        simp only [hpa, Option.isSome_some, if_true] at h1
        have hr := h1.respond tag .ok (u.abortBody h t)
        simp only
        split
        · exact hr
        · exact hr.congr rfl rfl rfl
    generalize u.answerAbort h (s.chan h).pendingAbort t = v at h2
    split
    · exact h2
    · split
      · exact h2.sendReport _
      · exact (noticesHeld_sweepFree k).routineEnded _ (h2.sendReport _)

theorem State.NoticesHeld.releasePath {k s} (l b) (hp : NoticesHeld k s) :
    NoticesHeld k (s.releasePath l b) :=
  hp.congr (by simp) (by simp) (by simp)

theorem State.NoticesHeld.finishRelease {k s} (h) (hp : NoticesHeld k s) : NoticesHeld k (s.finishRelease h) := by
  dsimp only [State.finishRelease]
  split
  · exact hp.endTest _
  · split
    · have h1 : NoticesHeld k (s.setChan h { s.chan h with releaseLine := none, handover := false }) := hp.same _ _ rfl rfl
      split
      · exact h1.claimAndTap _ _ _
      · exact NoticesHeld.endTest _ (NoticesHeld.releasePath _ _ (h1.same _ _ rfl rfl))
    · split
      · exact NoticesHeld.endTest _ (NoticesHeld.releasePath _ _ (hp.same _ _ rfl rfl))
      · exact hp.endTest _

theorem State.NoticesHeld.completeRelease {k s} (h b l) (hp : NoticesHeld k s) : NoticesHeld k (s.completeRelease h b l) := by
  dsimp only [State.completeRelease]
  apply NoticesHeld.finishRelease
  apply NoticesHeld.releasePath
  exact NoticesHeld.same _ _ (hp.congr (by simp) (by simp) (by simp)) rfl rfl

theorem State.NoticesHeld.stickRelay {k s} (b l) (hp : NoticesHeld k s) : NoticesHeld k (s.stickRelay b l) := by
  dsimp only [State.stickRelay]
  exact NoticesHeld.releasePath _ _ (NoticesHeld.raise _ _ _ _ (hp.congr rfl rfl rfl))

theorem State.NoticesHeld.timeOutRelease {k s} (h b l) (hp : NoticesHeld k s) : NoticesHeld k (s.timeOutRelease h b l) := by
  dsimp only [State.timeOutRelease]
  exact NoticesHeld.finishRelease _ (NoticesHeld.stickRelay _ _ (hp.same _ _ rfl rfl))

theorem State.NoticesHeld.line {k s} (l r) (hp : NoticesHeld k s) : NoticesHeld k (s.setLine l r) := hp.congr rfl rfl rfl

theorem State.NoticesHeld.idleHead {k s} (h) (hp : NoticesHeld k s) : NoticesHeld k (s.idleHead h) := by
  dsimp only [State.idleHead]
  exact NoticesHeld.offer _ _ (hp.same _ _ rfl rfl)

theorem State.NoticesHeld.beginPhase {k s} (h p) (hp : NoticesHeld k s) : NoticesHeld k (s.beginPhase h p) := by
  dsimp only [State.beginPhase]
  exact NoticesHeld.offer _ _ (hp.same _ _ rfl rfl)

theorem State.NoticesHeld.setRunOnly {k j s} (h : Nat) (c : Channel)
    (hp : NoticesHeld k s) (h1 : c.pendingAbort = (s.chan h).pendingAbort)
    (h2 : (if c.run.isSome then 1 else 0) + j ≤ (if (s.chan h).run.isSome then 1 else 0) + k) :
    NoticesHeld j (s.setChan h c) := by
  apply hp.set
  simp only [Channel.owed, h1]; omega

/-- A calibration run owes the response reserved for its CALIBRATE (R133, R180). -/
theorem State.NoticesHeld.beginRun {k s} (h t) (hp : NoticesHeld (k + 1) s) : NoticesHeld k (s.beginRun h t) := by
  dsimp only [State.beginRun]
  apply NoticesHeld.beginPhase
  refine hp.setRunOnly _ _ rfl ?_
  show 1 + k ≤ _
  omega

/-- A channel that leaves its calibration run frees the response it owed for the run. -/
theorem State.NoticesHeld.leaveRun {k s} (h b) (hp : NoticesHeld k s) :
    NoticesHeld (k + if (s.chan h).run.isSome then 1 else 0) (s.leaveRun h b) := by
  dsimp only [State.leaveRun]
  apply NoticesHeld.noteIdle
  refine hp.setRunOnly _ _ rfl ?_
  show 0 + _ ≤ _
  omega

/-- Idling a head keeps its channel's calibration run (R138). -/
theorem State.idleHead_run (s : State) (h : Nat) : ((s.idleHead h).chan h).run = (s.chan h).run := by
  simp [State.idleHead]

/-- A calibration run that fails answers its CALIBRATE (R136). -/
theorem State.NoticesHeld.failRun {k s} (h c) (hp : NoticesHeld k s) : NoticesHeld k (s.failRun h c) := by
  dsimp only [State.failRun]
  have h1 : ∀ u, u = (if c = .restart then s.idleHead h else (s.idleHead h).raise .head h .headCalFail none) →
      NoticesHeld k u ∧ (u.chan h).run = (s.chan h).run := by
    rintro u rfl
    split
    · exact ⟨hp.idleHead _, State.idleHead_run _ _⟩
    · exact ⟨(hp.idleHead _).raise _ _ _ _, by rw [State.raise_chan]; exact State.idleHead_run _ _⟩
  generalize (if c = .restart then s.idleHead h else (s.idleHead h).raise .head h .headCalFail none) = u at h1
  obtain ⟨h1, h2⟩ := h1 u rfl
  have h3 := h1.leaveRun h (s.chan h).headOut
  rw [h2] at h3
  split
  · rename_i hr _
    rw [hr] at h3
    exact NoticesHeld.respond _ _ _ h3
  · exact h3.le (by omega)

/-- A calibration run that succeeds answers its CALIBRATE (R137). -/
theorem State.NoticesHeld.finishRun {k s} (h r v i j t) (hr : (s.chan h).run = some r) (hp : NoticesHeld k s) :
    NoticesHeld k (s.finishRun h r v i j t) := by
  dsimp only [State.finishRun]
  apply NoticesHeld.respond
  have h3 : ∀ x, (((s.idleHead h).setHeadCal h x).chan h).run = some r := fun x => (State.idleHead_run s h).trans hr
  have h1 : ∀ x, NoticesHeld k ((s.idleHead h).setHeadCal h x) := fun x => (hp.idleHead h).congr rfl rfl rfl
  have h2 : ∀ x, NoticesHeld (k + 1) (((((s.idleHead h).setHeadCal h x).clearTicket .head h .headCalDue).clearTicket .head h
      .headCalFail).clearTicket .head h .headSilent |>.leaveRun h false) := by
    intro x
    have h4 := ((((h1 x).clear .head h .headCalDue).clear .head h .headCalFail).clear .head h .headSilent).leaveRun h false
    rw [State.clearTicket_chan, State.clearTicket_chan, State.clearTicket_chan, h3] at h4
    exact h4
  exact h2 _

theorem State.NoticesHeld.setRun {k s} (h r) (hr : (s.chan h).run.isSome) (hp : NoticesHeld k s) :
    NoticesHeld k (s.setRun h r) := by
  dsimp only [State.setRun]
  apply hp.set
  simp [Channel.owed, hr]

theorem State.NoticesHeld.phaseDone {k s} (h w) (hp : NoticesHeld k s) : NoticesHeld k (s.phaseDone h w) := by
  have hs : ∀ r q, (s.chan h).run.isSome = true → NoticesHeld k ((s.setRun h r).beginPhase h q) :=
    fun r q hr => (hp.setRun h r hr).beginPhase h q
  have hf : ∀ c, NoticesHeld k (s.failRun h c) := fun c => hp.failRun h c
  have hd : ∀ r v i j t, (s.chan h).run = some r → NoticesHeld k (s.finishRun h r v i j t) :=
    fun r v i j t hr => hp.finishRun h r v i j t hr
  cases hr : (s.chan h).run with
  | none => simp only [State.phaseDone, hr]; exact hp
  | some run =>
    have hr' : (s.chan h).run.isSome = true := by rw [hr]; rfl
    cases hc : (s.chan h).calPhase with
    | none => simp only [State.phaseDone, hr, hc]; exact hp
    | some p =>
      cases p with
      | zHigh => simp only [State.phaseDone, hr, hc]; exact hs _ _ hr'
      | zLow => simp only [State.phaseDone, hr, hc]; exact hs _ _ hr'
      | refV =>
        simp only [State.phaseDone, hr, hc]
        split
        · exact hf _
        · exact hs _ _ hr'
      | refIHigh =>
        simp only [State.phaseDone, hr, hc]
        split
        · exact hf _
        · exact hs _ _ hr'
      | refILow =>
        simp only [State.phaseDone, hr, hc]
        split
        · exact hf _
        · split
          · exact hd _ _ _ _ _ hr
          · exact hp

theorem State.NoticesHeld.beginRepetition {k s} (h r p) (hp : NoticesHeld k s) : NoticesHeld k (s.beginRepetition h r p) := by
  dsimp only [State.beginRepetition]
  exact NoticesHeld.offer _ _ (hp.same _ _ rfl rfl)

theorem State.NoticesHeld.beginStep {k s} (h i p) (hp : NoticesHeld k s) : NoticesHeld k (s.beginStep h i p) := by
  unfold State.beginStep; split
  · exact hp.beginRepetition _ _ _
  · exact hp

theorem State.NoticesHeld.resultTickets {k s} (t r x) (hp : NoticesHeld k s) : NoticesHeld k (s.resultTickets t r x) := by
  unfold State.resultTickets; split
  · exact hp.raise _ _ _ _
  · dsimp only; split
    · exact (hp.clear _ _ _).clear _ _ _
    · exact hp.clear _ _ _
  all_goals exact hp

theorem State.NoticesHeld.formResult {k s} (h t r p x) (hp : NoticesHeld k s) : NoticesHeld k (s.formResult h t r p x) := by
  dsimp only [State.formResult]
  have h1 : NoticesHeld k (s.setChan h { s.chan h with test := some { t with results := t.results ++ [x] } }) :=
    hp.same _ _ rfl rfl
  generalize s.setChan h { s.chan h with test := some { t with results := t.results ++ [x] } } = u at h1
  have h2 : NoticesHeld k (if r.notify = true then u.stepNotice h t p.position x else u) := by
    split
    · exact h1.notify _ _
    · exact h1
  have h3 := h2.resultTickets t r x
  split
  · exact h3.endByCause _ _
  · split
    · exact h3.endByCause _ _
    · exact h3.beginStep _ _ _

theorem State.NoticesHeld.evaluate {k s} (h t r p w) (hp : NoticesHeld k s) : NoticesHeld k (s.evaluate h t r p w) := by
  dsimp only [State.evaluate]
  have h1 : NoticesHeld k (s.assessUsed h w.temp r.kind r.range) := by
    dsimp only [State.assessUsed]; split
    · exact NoticesHeld.raise _ _ _ _ (hp.congr rfl rfl rfl)
    · exact hp.congr rfl rfl rfl
  split
  · exact h1.beginRepetition _ _ _
  · exact h1.formResult _ _ _ _ _

theorem State.NoticesHeld.windowDone {k s} (h w) (hp : NoticesHeld k s) : NoticesHeld k (s.windowDone h w) := by
  dsimp only [State.windowDone]; split
  · split
    · exact hp.evaluate _ _ _ _ _
    · exact hp
  · exact hp

theorem State.NoticesHeld.settleBlock {k s} (h w p) (hp : NoticesHeld k s) : NoticesHeld k (s.settleBlock h w p) := by
  dsimp only [State.settleBlock]; split
  · split <;> exact hp.same _ _ rfl rfl
  · split <;> exact hp.same _ _ rfl rfl
  · split
    · exact NoticesHeld.failRun _ _ (hp.same _ _ rfl rfl)
    · exact hp.same _ _ rfl rfl

theorem State.NoticesHeld.loss {k s} (h w p) (hp : NoticesHeld k s) : NoticesHeld k (s.loss h w p) := by
  dsimp only [State.loss]; split
  · split
    · exact NoticesHeld.failRun _ _ (hp.same _ _ rfl rfl)
    · exact NoticesHeld.endByCause _ _ (hp.same _ _ rfl rfl)
  · apply NoticesHeld.settleBlock
    split <;> exact hp.same _ _ rfl rfl

theorem State.NoticesHeld.accumulate {k s} (h w t p) (hp : NoticesHeld k s) : NoticesHeld k (s.accumulate h w t p) := by
  dsimp only [State.accumulate]; split
  · split
    · exact NoticesHeld.phaseDone _ _ (hp.same _ _ rfl rfl)
    · exact NoticesHeld.windowDone _ _ (hp.same _ _ rfl rfl)
  · exact hp.same _ _ rfl rfl

theorem State.NoticesHeld.actOnFrame {k s} (h c t p) (hp : NoticesHeld k s) : NoticesHeld k (s.actOnFrame h c t p) := by
  unfold State.actOnFrame; split
  · exact hp
  · split <;> first | exact hp.settleBlock _ _ _ | exact hp.loss _ _ _ | exact hp.accumulate _ _ _ _ | exact hp

theorem State.NoticesHeld.trip {k s} (h) (hp : NoticesHeld k s) : NoticesHeld k (s.trip h) := by
  dsimp only [State.trip]; split
  · exact hp
  · exact NoticesHeld.raise _ _ _ _ (NoticesHeld.line _ _ (NoticesHeld.endByCause _ _ (hp.same _ _ rfl rfl)))

theorem State.NoticesHeld.takeSample {k s} (x) (hp : NoticesHeld k s) : NoticesHeld k (s.takeSample x) := by
  unfold State.takeSample; split
  · dsimp only [State.handleSample]; split
    · exact NoticesHeld.actOnFrame _ _ _ _ (hp.same _ _ rfl rfl)
    · split
      · exact NoticesHeld.trip _ (hp.same _ _ rfl rfl)
      · exact NoticesHeld.actOnFrame _ _ _ _ (hp.same _ _ rfl rfl)
  · exact hp

theorem State.NoticesHeld.headSilent {k s} (h) (hp : NoticesHeld k s) : NoticesHeld k (s.headSilent h) := by
  dsimp only [State.headSilent]; split
  · exact NoticesHeld.failRun _ _ (NoticesHeld.raise _ _ _ _ (hp.same _ _ rfl rfl))
  · exact NoticesHeld.endByCause _ _ (NoticesHeld.raise _ _ _ _ (hp.same _ _ rfl rfl))

theorem State.NoticesHeld.counted {k s} (l) (hp : NoticesHeld k s) : NoticesHeld k (s.countedTransition l) := by
  dsimp only [State.countedTransition]; split
  · exact (noticesHeld_sweepFree k).offerSuspect _ _ _ (NoticesHeld.raise _ _ _ _ (hp.congr rfl rfl rfl))
  · exact hp.congr rfl rfl rfl

theorem State.NoticesHeld.yieldTrigger {k s} (l) (hp : NoticesHeld k s) : NoticesHeld k (s.yieldTrigger l) := by
  unfold State.yieldTrigger; split
  · split
    · exact hp.endByCause _ _
    · exact hp
  · exact hp

theorem State.NoticesHeld.cond {k s} (l c) (hp : NoticesHeld k s) :
    NoticesHeld k (s.setCondition l c) :=
  hp.congr (by simp) (by simp) (by simp)

theorem State.NoticesHeld.audit {k s} (c) (hp : NoticesHeld k s) :
    NoticesHeld k (s.requestAudit c) :=
  hp.congr (by simp) (by simp) (by simp)

theorem State.NoticesHeld.loopEvent {k s} (l e) (hp : NoticesHeld k s) : NoticesHeld k (s.loopEvent l e) := by
  unfold State.loopEvent; split
  · exact hp
  · split
    · exact hp
    · rename_i c counted _
      have h1 : NoticesHeld k (if counted = true then (s.setCondition l c).countedTransition l else s.setCondition l c) := by
        split
        · exact (hp.cond _ _).counted _
        · exact hp.cond _ _
      dsimp only
      split
      · exact h1.yieldTrigger _
      · exact h1

/-- An operation that keeps the notice queue held keeps it over a list. -/
theorem State.NoticesHeld.fold {k α} (f : State → α → State)
    (hf : ∀ s a, NoticesHeld k s → NoticesHeld k (f s a)) (L : List α) {s} (hp : NoticesHeld k s) :
    NoticesHeld k (L.foldl f s) := by
  induction L generalizing s with
  | nil => exact hp
  | cons a L ih => exact ih (hf _ _ hp)

theorem State.NoticesHeld.setCardCondition {k s} (c d) (hp : NoticesHeld k s) : NoticesHeld k (s.setCardCondition c d) :=
  NoticesHeld.fold _ (fun _ _ h => h.cond _ _) _ hp

theorem State.NoticesHeld.free {k s} {α} (L : List α) (hp : NoticesHeld k s) : NoticesHeld k (s.inFreeOrder L).2 := by
  exact NoticesHeld.congr hp rfl rfl rfl

theorem State.NoticesHeld.cardState {k s} (c b) (hp : NoticesHeld k s) : NoticesHeld k (s.cardState c b) := by
  dsimp only [State.cardState]
  have h1 : NoticesHeld k ((circuitsOf c).foldl (fun s l => s.setLine l ((s.line l).onCardState (closedIn b l))) s) :=
    NoticesHeld.fold _ (fun _ _ h => h.line _ _) _ hp
  generalize (circuitsOf c).foldl (fun s l => s.setLine l ((s.line l).onCardState (closedIn b l))) s = u at h1
  generalize List.filter u.wouldYield (List.filter (fun l => (s.line l).goesOffHook (closedIn b l)) (circuitsOf c)) = L
  have h2 : NoticesHeld k ((u.inFreeOrder L).1.foldl State.yieldTrigger (u.inFreeOrder L).2) :=
    NoticesHeld.fold _ (fun _ _ h => h.yieldTrigger _) _ (h1.free L)
  split
  · exact h2.congr rfl rfl rfl
  · exact h2

/-- Taking a command reserves an entry for its response (R181). -/
theorem State.NoticesHeld.taking {k s} (rest) (hp : NoticesHeld k s) (hc : s.desk.notices.length + s.desk.reservations < 64) :
    NoticesHeld (k + 1) (s.taking rest) :=
  ⟨hp.chans, hp.unsolicited, by show s.desk.notices.length + (s.desk.reservations + 1) ≤ 64; omega,
    by have := hp.reserved; show s.owed + (k + 1) ≤ s.desk.reservations + 1; omega⟩

/-- A desk command keeps the notice queue held if its handler uses the one reservation it is given (R178, R181). -/
theorem State.NoticesHeld.onCommand {s} (c g)
    (hp : NoticesHeld 0 s) (hg : ∀ tag ps u, NoticesHeld 1 u → NoticesHeld 0 (g tag ps u)) :
    NoticesHeld 0 (s.onCommand c g) := by
  rcases s.onCommand_cases c g with h | ⟨f, rest, _, h, _, he⟩
  · rw [h]; exact hp
  · rw [he]
    apply hg
    apply hp.taking
    simp only [State.canTake, Bool.and_eq_true] at h
    have hf : s.noticesFull = false := by simpa using h.2
    have : ¬ 64 ≤ s.desk.notices.length + s.desk.reservations := of_decide_eq_false hf
    omega

theorem State.NoticesHeld.badParam {k s} (t) (hp : NoticesHeld (k + 1) s) : NoticesHeld k (s.badParam t) := hp.respond _ _ _

end Sys2Proof.Machine
end

