-- ==== Sys2Proof/Laws/PerInstr.lean ====
section
/-! SUPPORT. What is said of every command, one lemma a command: the codes of the desk commands. -/

namespace Sys2Proof.Laws.Codes

open Sys2Proof.Machine

/-- The code of a desk command (R179); 0, the code of no command, for every other row. -/
def codeOf : Instr → Nat
  | .loadLines => 0x01
  | .lineRead => 0x02
  | .inhibit => 0x03
  | .clearHazard => 0x04
  | .loadBusmap => 0x10
  | .clearStuck => 0x11
  | .loadStep => 0x20
  | .loadPlan => 0x21
  | .test => 0x22
  | .abort => 0x23
  | .returnHead => 0x24
  | .loadProfile => 0x30
  | .calibrate => 0x31
  | .setCalCoef => 0x32
  | .sweepLoad => 0x40
  | .sweepStart => 0x41
  | .sweepStop => 0x42
  | .sweepPause => 0x43
  | .sweepResume => 0x44
  | .sweepMark => 0x45
  | .suspect => 0x46
  | .ticketRead => 0x50
  | .ticketAck => 0x51
  | .ticketClose => 0x52
  | .ticketNote => 0x53
  | .setParam => 0x60
  | .status => 0x61
  | .restart => 0x62
  | .coldReset | .rstnRelease | .bypassEnd | .frameArrivesPortU _ | .frameArrivesPortS _
  | .creditAnnouncement _ _ | .frameLeavesPort _ | .sOwnOfferEnters | .holdRecordLapse _ | .flushOffer _
  | .auditTimerExpiry _ | .tapConfirmTimerExpiry _ | .releaseConfirmTimerExpiry _ | .restartReleaseTimeout _
  | .strayReleaseTimerExpiry _ | .lockoutEnd _ | .intervalTimerExpiry | .headTimerExpiry _
  | .flapUnitBoundary | .minuteCounterAdvance | .hourTick | .unknownCommand | .receptionBrokenOff _ => 0

/-- A desk command's codes (R179): a desk command has a code, a row that is no desk command has none, and no command but the unknown one
has two. -/
def Statement (i : Instr) : Prop :=
  (isDeskCommand i = true → ∃ c, c < 256 ∧ commandOfCode c = i) ∧
    (isDeskCommand i = false → ∀ c, commandOfCode c ≠ i) ∧
    (i ≠ .unknownCommand → ∀ c, commandOfCode c = i → c = codeOf i)

/-- A code names the unknown command, or a desk command whose code it is. -/
theorem commandOfCode_code (c : Nat) :
    commandOfCode c = .unknownCommand ∨ (c = codeOf (commandOfCode c) ∧ isDeskCommand (commandOfCode c) = true) := by
  unfold commandOfCode
  split <;> first | exact .inr ⟨rfl, rfl⟩ | exact .inl rfl

/-- No command but the unknown one has two codes. -/
theorem code_unique {i : Instr} (h : i ≠ .unknownCommand) {c : Nat} (hc : commandOfCode c = i) : c = codeOf i := by
  rcases commandOfCode_code c with hu | ⟨hc', -⟩
  · exact absurd (hc.symm.trans hu) h
  · rw [← hc]; exact hc'

/-- A command that a code names is a desk command. -/
theorem code_desk {i : Instr} {c : Nat} (hc : commandOfCode c = i) : isDeskCommand i = true := by
  rcases commandOfCode_code c with hu | ⟨-, hd⟩
  · rw [← hc, hu]; rfl
  · rw [← hc]; exact hd

/-- A row that is no desk command. -/
theorem of_no_desk {i : Instr} (h : isDeskCommand i = false) : Statement i :=
  ⟨fun h' => by simp [h] at h', fun _ _ hc => by simp [code_desk hc] at h,
    fun hi _ hc => code_unique hi hc⟩

/-- A desk command with its code. -/
theorem of_code {i : Instr} (c : Nat) (h : c < 256) (hc : commandOfCode c = i) : Statement i :=
  ⟨fun _ => ⟨c, h, hc⟩, fun h' => by simp [code_desk hc] at h', fun hi _ hd => code_unique hi hd⟩

theorem coldReset : Statement .coldReset := of_no_desk rfl
theorem rstnRelease : Statement .rstnRelease := of_no_desk rfl
theorem bypassEnd : Statement .bypassEnd := of_no_desk rfl
theorem frameArrivesPortU (bytes : Bytes) : Statement (.frameArrivesPortU bytes) := of_no_desk rfl
theorem frameArrivesPortS (bytes : Bytes) : Statement (.frameArrivesPortS bytes) := of_no_desk rfl
theorem creditAnnouncement (port : PortId) (credit : Nat) : Statement (.creditAnnouncement port credit) := of_no_desk rfl
theorem frameLeavesPort (port : PortId) : Statement (.frameLeavesPort port) := of_no_desk rfl
theorem sOwnOfferEnters : Statement .sOwnOfferEnters := of_no_desk rfl
theorem holdRecordLapse (place : Nat) : Statement (.holdRecordLapse place) := of_no_desk rfl
theorem flushOffer (line : Nat) : Statement (.flushOffer line) := of_no_desk rfl
theorem auditTimerExpiry (card : Nat) : Statement (.auditTimerExpiry card) := of_no_desk rfl
theorem tapConfirmTimerExpiry (bus : Nat) : Statement (.tapConfirmTimerExpiry bus) := of_no_desk rfl
theorem releaseConfirmTimerExpiry (bus : Nat) : Statement (.releaseConfirmTimerExpiry bus) := of_no_desk rfl
theorem restartReleaseTimeout (bus : Nat) : Statement (.restartReleaseTimeout bus) := of_no_desk rfl
theorem strayReleaseTimerExpiry (bus : Nat) : Statement (.strayReleaseTimerExpiry bus) := of_no_desk rfl
theorem lockoutEnd (bus : Nat) : Statement (.lockoutEnd bus) := of_no_desk rfl
theorem intervalTimerExpiry : Statement .intervalTimerExpiry := of_no_desk rfl
theorem headTimerExpiry (channel : Nat) : Statement (.headTimerExpiry channel) := of_no_desk rfl
theorem flapUnitBoundary : Statement .flapUnitBoundary := of_no_desk rfl
theorem minuteCounterAdvance : Statement .minuteCounterAdvance := of_no_desk rfl
theorem hourTick : Statement .hourTick := of_no_desk rfl
theorem unknownCommand : Statement .unknownCommand := of_code 0 (by decide) rfl
theorem loadLines : Statement .loadLines := of_code 0x01 (by decide) rfl
theorem lineRead : Statement .lineRead := of_code 0x02 (by decide) rfl
theorem inhibit : Statement .inhibit := of_code 0x03 (by decide) rfl
theorem clearHazard : Statement .clearHazard := of_code 0x04 (by decide) rfl
theorem loadBusmap : Statement .loadBusmap := of_code 0x10 (by decide) rfl
theorem clearStuck : Statement .clearStuck := of_code 0x11 (by decide) rfl
theorem loadStep : Statement .loadStep := of_code 0x20 (by decide) rfl
theorem loadPlan : Statement .loadPlan := of_code 0x21 (by decide) rfl
theorem test : Statement .test := of_code 0x22 (by decide) rfl
theorem abort : Statement .abort := of_code 0x23 (by decide) rfl
theorem returnHead : Statement .returnHead := of_code 0x24 (by decide) rfl
theorem loadProfile : Statement .loadProfile := of_code 0x30 (by decide) rfl
theorem calibrate : Statement .calibrate := of_code 0x31 (by decide) rfl
theorem setCalCoef : Statement .setCalCoef := of_code 0x32 (by decide) rfl
theorem sweepLoad : Statement .sweepLoad := of_code 0x40 (by decide) rfl
theorem sweepStart : Statement .sweepStart := of_code 0x41 (by decide) rfl
theorem sweepStop : Statement .sweepStop := of_code 0x42 (by decide) rfl
theorem sweepPause : Statement .sweepPause := of_code 0x43 (by decide) rfl
theorem sweepResume : Statement .sweepResume := of_code 0x44 (by decide) rfl
theorem sweepMark : Statement .sweepMark := of_code 0x45 (by decide) rfl
theorem suspect : Statement .suspect := of_code 0x46 (by decide) rfl
theorem ticketRead : Statement .ticketRead := of_code 0x50 (by decide) rfl
theorem ticketAck : Statement .ticketAck := of_code 0x51 (by decide) rfl
theorem ticketClose : Statement .ticketClose := of_code 0x52 (by decide) rfl
theorem ticketNote : Statement .ticketNote := of_code 0x53 (by decide) rfl
theorem setParam : Statement .setParam := of_code 0x60 (by decide) rfl
theorem status : Statement .status := of_code 0x61 (by decide) rfl
theorem restart : Statement .restart := of_code 0x62 (by decide) rfl
theorem receptionBrokenOff (port : PortId) : Statement (.receptionBrokenOff port) := of_no_desk rfl

end Sys2Proof.Laws.Codes
end

