-- ==== Sys2Proof/Laws/Searches.lean ====
section
/-! SUPPORT. What the searches and folds of the model can do: plan chains, cards that want an audit, discarded contexts, free orders,
the flush or the entry found among others, entries of LOAD_LINES that are not read; what tickets and their notices depend on. -/

namespace Sys2Proof.Machine

/-! ## Plans (R77, R78) -/

/-- The chain from a step: loaded steps, each linked to the next, none seen before and none twice, END at the last. -/
theorem chainFrom_eq_some (T : Table (Option StepRec)) : ∀ (fuel : Nat) (seen : List Nat) (i : Nat) (steps : List Nat),
    chainFrom T fuel seen i = some steps ↔ steps.length ≤ fuel ∧ steps.Nodup ∧ (∀ x ∈ steps, x ∉ seen) ∧ steps.head? = some i ∧
        ∀ k x, steps[k]? = some x → ∃ r, Table.get none T x = some r ∧ r.link = steps[k + 1]?
  | 0, seen, i, steps => by
    simp only [chainFrom]
    constructor
    · intro h; cases h
    · rintro ⟨h, _, _, h', _⟩
      cases steps <;> simp_all
  | fuel + 1, seen, i, steps => by
    simp only [chainFrom]
    by_cases hs : i ∈ seen
    · simp only [List.contains_eq_mem, hs, decide_true, if_true]
      constructor
      · intro h; cases h
      · rintro ⟨_, _, h, h', _⟩
        exact absurd hs (h i (List.mem_of_mem_head? h'))
    simp only [List.contains_eq_mem, hs, decide_false, Bool.false_eq_true, if_false]
    cases hg : Table.get none T i with
    | none =>
      simp only
      constructor
      · intro h; cases h
      · rintro ⟨_, _, _, h', h⟩
        cases steps with
        | nil => cases h'
        | cons a t =>
          simp at h'; subst h'
          obtain ⟨r, hr, _⟩ := h 0 a rfl
          rw [hg] at hr; cases hr
    | some r =>
      simp only
      cases hl : r.link with
      | none =>
        simp only
        constructor
        · intro h; cases h
          refine ⟨by simp, by simp, by simpa using hs, rfl, ?_⟩
          intro k x hk
          cases k with
          | zero => simp at hk; subst hk; exact ⟨r, hg, by simpa using hl⟩
          | succ k => simp at hk
        · rintro ⟨_, _, _, h', h⟩
          cases steps with
          | nil => cases h'
          | cons a t =>
            simp at h'; subst h'
            obtain ⟨r', hr, hr'⟩ := h 0 a rfl
            rw [hg] at hr; cases hr
            cases t with
            | nil => rfl
            | cons b t => simp [hl] at hr'
      | some j =>
        simp only [Option.map_eq_some_iff]
        constructor
        · rintro ⟨t, ht, rfl⟩
          obtain ⟨h1, h2, h3, h4, h5⟩ := (chainFrom_eq_some T fuel _ _ _).1 ht
          refine ⟨by simpa using h1, ?_, ?_, rfl, ?_⟩
          · rw [List.nodup_cons]; exact ⟨fun hi => h3 i hi (by simp), h2⟩
          · intro x hx; rw [List.mem_cons] at hx
            rcases hx with rfl | hx
            · exact hs
            · intro hx'; exact h3 x hx (by simp [hx'])
          · intro k x hk
            cases k with
            | zero => simp at hk; subst hk; refine ⟨r, hg, ?_⟩; rw [hl]; simp [← List.head?_eq_getElem?, h4]
            | succ k => exact h5 k x (by simpa using hk)
        · rintro ⟨h1, h2, h3, h4, h5⟩
          cases steps with
          | nil => cases h4
          | cons a t =>
            simp at h4; subst h4
            refine ⟨t, (chainFrom_eq_some T fuel _ _ _).2 ⟨by simpa using h1, (List.nodup_cons.1 h2).2, ?_, ?_, ?_⟩, rfl⟩
            · intro x hx hx'
              rw [List.mem_cons] at hx'
              rcases hx' with rfl | hx'
              · exact (List.nodup_cons.1 h2).1 hx
              · exact h3 x (by simp [hx]) hx'
            · obtain ⟨r', hr, hr'⟩ := h5 0 a rfl
              rw [hg] at hr; cases hr
              rw [hl] at hr'
              simpa [List.head?_eq_getElem?] using hr'.symm
            · intro k x hk; exact h5 (k + 1) x (by simpa using hk)

/-- A plan is in use by a test on a channel or by a suspended context. -/
theorem State.planInUse_iff (s : State) (p : Nat) : s.planInUse p = true ↔
      (∃ h t, h < 4 ∧ (s.chan h).test = some t ∧ t.plan = p) ∨ ∃ c ∈ s.sweep.suspended, c.plan = p := by
  simp only [State.planInUse, State.plansInUse, List.contains_eq_mem, decide_eq_true_eq, List.mem_append, List.mem_filterMap,
    List.mem_map, Option.map_eq_some_iff]
  have : ∀ h, h ∈ allChannels ↔ h < 4 := by intro h; simp [allChannels]; omega
  simp only [this]
  constructor
  · rintro (⟨h, a, t, b, c⟩ | h)
    · exact .inl ⟨h, t, a, b, c⟩
    · exact .inr h
  · rintro (⟨h, t, a, b, c⟩ | h)
    · exact .inl ⟨h, a, t, b, c⟩
    · exact .inr h

/-! ## Audits (R11, R152) -/

/-- Every number of a rising store lies above its bound. -/
theorem Table.lt_of_rising {α : Type} : ∀ (t : Table α) (lo : Nat), Table.rising lo t = true → ∀ p ∈ t, lo < p.1
  | [], _, _, _, hp => by cases hp
  | (k, v) :: t, lo, h, p, hp => by
    simp only [Table.rising, Bool.and_eq_true, decide_eq_true_eq] at h
    rw [List.mem_cons] at hp
    rcases hp with rfl | hp
    · exact h.1
    · have := Table.lt_of_rising t k h.2 p hp; omega

/-- The cards that want an audit are those with a record that does. -/
theorem mem_cardsWanting (T : Table LineRec) (c : Nat) : c ∈ cardsWanting T ↔ ∃ p ∈ T, p.1 / 16 = c ∧ p.2.wantsAudit = true := by
  induction T with
  | nil => simp [cardsWanting]
  | cons a t ih =>
    obtain ⟨n, l⟩ := a
    simp only [cardsWanting]
    by_cases hw : l.wantsAudit = true
    · by_cases hh : (cardsWanting t).head? = some (n / 16)
      · have : n / 16 ∈ cardsWanting t := List.mem_of_mem_head? hh
        simp only [hw, hh, bne_self_eq_false, Bool.and_false, Bool.false_eq_true, if_false, List.mem_cons, exists_eq_or_imp]
        rw [ih]
        constructor
        · exact .inr
        · rintro (h | h)
          · rw [← ih]; rw [← h.1]; exact this
          · exact h
      · have : ((cardsWanting t).head? != some (n / 16)) = true := by simpa using hh
        simp only [hw, this, Bool.and_true, if_true, List.mem_cons, ih, exists_eq_or_imp, and_true]
        exact or_congr_left ⟨Eq.symm, Eq.symm⟩
    · simp only [hw, Bool.false_and, Bool.false_eq_true, if_false, List.mem_cons, exists_eq_or_imp, and_false, false_or, ih]

/-- The cards that want an audit rise. -/
theorem cardsWanting_pairwise : ∀ (t : Table LineRec) (n : Nat) (l : LineRec), Table.rising n t = true →
    (cardsWanting ((n, l) :: t)).Pairwise (· < ·)
  | [], n, l, h => by cases hw : l.wantsAudit <;> simp [cardsWanting, hw]
  | (n', l') :: t', n, l, hr => by
    have hr' := hr
    simp only [Table.rising, Bool.and_eq_true, decide_eq_true_eq] at hr'
    have ih := cardsWanting_pairwise t' n' l' hr'.2
    have h : True ∧ _ := ⟨trivial, hr⟩
    generalize (n', l') :: t' = t at *
    rw [cardsWanting]
    split
    · rename_i hc
      rw [Bool.and_eq_true] at hc
      rw [List.pairwise_cons]
      refine ⟨fun c hcm => ?_, ih⟩
      obtain ⟨p, hp, hpc, _⟩ := (mem_cardsWanting t c).1 hcm
      have h1 := Table.lt_of_rising t n h.2 p hp
      have h2 : n / 16 ≤ c := by omega
      rcases Nat.lt_or_eq_of_le h2 with h3 | h3
      · exact h3
      · exfalso
        have hne : (cardsWanting t).head? ≠ some (n / 16) := by simpa using hc.2
        cases hcs : cardsWanting t with
        | nil => rw [hcs] at hcm; cases hcm
        | cons a r =>
          rw [hcs] at hcm ih hne
          have ha : a ∈ cardsWanting t := by rw [hcs]; simp
          obtain ⟨q, hq, hqa, _⟩ := (mem_cardsWanting t a).1 ha
          have := Table.lt_of_rising t n h.2 q hq
          have hge : n / 16 ≤ a := by omega
          rw [List.mem_cons] at hcm
          rcases hcm with rfl | hcm
          · exact hne (by simp [h3])
          · have := (List.pairwise_cons.1 ih).1 c hcm; omega
    · exact ih

/-- Over a canonical store: the cards with an equipped line in UNKNOWN. -/
theorem mem_cardsWanting_iff (T : Table LineRec) (h : Table.wf LineRec.cold T = true) (c : Nat) :
    c ∈ cardsWanting T ↔ ∃ l, l / 16 = c ∧ (Table.get LineRec.cold T l).cls ≠ 0 ∧
      (Table.get LineRec.cold T l).condition = .unknown := by
  rw [mem_cardsWanting]
  have key : ∀ (T : Table LineRec), Table.wf LineRec.cold T = true →
      (∀ p ∈ T, Table.get LineRec.cold T p.1 = p.2) ∧ (∀ n, (∀ p ∈ T, p.1 ≠ n) → Table.get LineRec.cold T n = LineRec.cold) := by
    intro T
    induction T with
    | nil => intro _; exact ⟨by simp, fun _ _ => rfl⟩
    | cons a t ih =>
      intro h
      obtain ⟨k, v⟩ := a
      simp only [Table.wf, Bool.and_eq_true] at h
      have hr := Table.lt_of_rising t k h.1.1
      have hwt : Table.wf LineRec.cold t = true := by
        cases t with
        | nil => rfl
        | cons b t =>
          obtain ⟨k', v'⟩ := b
          have h1 := h.1.1
          have h2 := h.2
          simp only [Table.rising, Bool.and_eq_true] at h1
          simp only [List.all_cons, Bool.and_eq_true] at h2
          simp only [Table.wf, Bool.and_eq_true]
          exact ⟨⟨h1.2, h2.1⟩, h2.2⟩
      obtain ⟨i1, i2⟩ := ih hwt
      refine ⟨fun p hp => ?_, fun n hn => ?_⟩
      · rw [List.mem_cons] at hp
        rcases hp with rfl | hp
        · simp [Table.get]
        · have := hr p hp
          simp only [Table.get]
          rw [← i1 p hp]
          simp [show k ≠ p.1 by omega]
      · simp only [Table.get]
        have h1 := hn (k, v) (by simp)
        have h1' : k ≠ n := h1
        rw [if_neg h1']
        exact i2 n (fun p hp => hn p (by simp [hp]))
  obtain ⟨k1, k2⟩ := key T h
  constructor
  · rintro ⟨p, hp, h1, h2⟩
    refine ⟨p.1, h1, ?_⟩
    rw [k1 p hp]
    simpa [LineRec.wantsAudit] using h2
  · rintro ⟨l, h1, h2, h3⟩
    by_cases hx : ∃ p ∈ T, p.1 = l
    · obtain ⟨p, hp, rfl⟩ := hx
      refine ⟨p, hp, h1, ?_⟩
      rw [k1 p hp] at h2 h3
      simp [LineRec.wantsAudit, h2, h3]
    · exfalso
      rw [k2 l (fun p hp he => hx ⟨p, hp, he⟩)] at h2
      exact h2 rfl

/-- Requests of audits read no more of the state than its link, its audits and its phase. -/
theorem foldAudits_congr : ∀ (L : List Nat) (s t : State), s.link = t.link → s.audits = t.audits → s.phase = t.phase →
    (L.foldl State.requestAudit s).audits = (L.foldl State.requestAudit t).audits ∧
    (L.foldl State.requestAudit s).link = (L.foldl State.requestAudit t).link
  | [], _, _, h1, h2, _ => ⟨h2, h1⟩
  | a :: L, s, t, h1, h2, h3 => by
    simp only [List.foldl_cons]
    have ha : s.audit a = t.audit a := by simp [State.audit, h2]
    apply foldAudits_congr L
    · simp only [State.requestAudit, ha]
      split
      · exact h1
      · simp [State.offer, State.setAudit, State.sOwnOpen, State.enterSOwn, State.fillS, h1, h3]; (repeat' split) <;> simp_all
    · simp only [State.requestAudit, ha]
      split
      · exact h2
      · simp [State.setAudit, h1, h2]
    · simpa using h3

/-! ## Discarded contexts (R153) -/

/-- What discarding contexts does: the MISSED count and the records of the lines of the pass under way, and nothing else. -/
theorem foldDiscard_eq : ∀ (L : List Context) (s : State),
    let mine := L.filter fun c => s.sweep.underWay && c.startedInPass && c.pass == s.sweep.passNumber
    let v := L.foldl State.discardContext s
    v.sweep = { s.sweep with counts := if mine = [] then s.sweep.counts
          else { s.sweep.counts with missed := min 65535 (s.sweep.counts.missed + mine.length) } } ∧
      (∀ m, ((∃ c ∈ mine, c.line = m) → v.line m = { s.line m with
          lastPass := s.sweep.passNumber, lastOutcome := .missed }) ∧
        ((∀ c ∈ mine, c.line ≠ m) → v.line m = s.line m)) ∧
      v = { s with sweep := v.sweep, lines := v.lines }
  | [], s => ⟨rfl, fun m => ⟨by simp, fun _ => rfl⟩, rfl⟩
  | a :: L, s => by
    intro mine v
    obtain ⟨h1, h2, h3⟩ := foldDiscard_eq L (s.discardContext a)
    by_cases hb : (s.sweep.underWay && a.startedInPass && a.pass == s.sweep.passNumber) = true
    · have hb' : s.belongs a.pass a.startedInPass = true := by
        simpa [State.belongs] using hb
      have hu : s.sweep.underWay = true := by simp only [Bool.and_eq_true] at hb; exact hb.1.1
      have hp : a.pass = s.sweep.passNumber := by simp only [Bool.and_eq_true, beq_iff_eq] at hb; exact hb.2
      have hd : s.discardContext a = (s.count Counts.addMissed).writeRoutine a.line a.pass .missed := by
        simp [State.discardContext, hb']
      have hsw : (s.discardContext a).sweep = { s.sweep with
          counts := { s.sweep.counts with missed := min 65535 (s.sweep.counts.missed + 1) } } := by
        rw [hd]; simp [State.writeRoutine, State.count, hu, Counts.addMissed, bump, satAdd]
      have hln : ∀ m, (s.discardContext a).line m = if m = a.line then { s.line m with
          lastPass := s.sweep.passNumber, lastOutcome := .missed } else s.line m := by
        intro m; rw [hd]; by_cases hm : m = a.line
        · subst hm; simp [State.writeRoutine, hp]
        · simp [State.writeRoutine, hm]
      have hm : mine = a :: (L.filter fun c => s.sweep.underWay && c.startedInPass && c.pass == s.sweep.passNumber) := by
        simp only [mine, List.filter_cons, hb, if_true]
      rw [hsw] at h1 h2
      simp only at h1 h2
      generalize hr : (L.filter fun c => s.sweep.underWay && c.startedInPass && c.pass == s.sweep.passNumber) = rest at h1 h2 hm
      refine ⟨?_, fun m => ⟨fun hc => ?_, fun hc => ?_⟩, ?_⟩
      · show (L.foldl State.discardContext (s.discardContext a)).sweep = _
        rw [h1, hm]
        by_cases hz : rest = []
        · simp [hz]
        · simp only [hz, if_false, List.length_cons]
          simp
          omega
      · show (L.foldl State.discardContext (s.discardContext a)).line m = _
        by_cases hx : ∃ c ∈ rest, c.line = m
        · rw [(h2 m).1 hx, hln m]; split <;> rfl
        · rw [(h2 m).2 (by simpa using hx), hln m]
          rw [hm] at hc
          have : m = a.line := by
            obtain ⟨c, hc, rfl⟩ := hc
            rw [List.mem_cons] at hc
            rcases hc with rfl | hc
            · rfl
            · exact absurd ⟨c, hc, rfl⟩ hx
          rw [if_pos this]
      · show (L.foldl State.discardContext (s.discardContext a)).line m = _
        rw [hm] at hc
        rw [(h2 m).2 (fun c hc' => hc c (by simp [hc'])), hln m, if_neg (fun he => hc a (by simp) he.symm)]
      · show L.foldl State.discardContext (s.discardContext a) = _
        have hk : ∀ X Y, ({ s.discardContext a with sweep := X, lines := Y } : State) = { s with sweep := X, lines := Y } := by
          intro X Y; rw [hd]; unfold State.count; split <;> rfl
        exact h3.trans (hk _ _)
    · have hb' : s.belongs a.pass a.startedInPass = false := by
        simpa [State.belongs] using hb
      have hd : s.discardContext a = s := by simp [State.discardContext, hb']
      have hm : mine = (L.filter fun c => s.sweep.underWay && c.startedInPass && c.pass == s.sweep.passNumber) := by
        simp only [mine, List.filter_cons, hb]; rfl
      rw [hd] at h1 h2 h3
      rw [hm]
      have hv : v = L.foldl State.discardContext s := by simp only [v, List.foldl_cons, hd]
      rw [hv]
      exact ⟨h1, h2, h3⟩

/-! ## Orders left open -/

/-- A free order is an order of the same things. -/
theorem freeOrder_perm {α : Type} : ∀ (k : Nat) (l : List α) (n : Nat), l.length ≤ k → (freeOrder k l n).1.Perm l
  | 0, l, n, _ => by simp [freeOrder]
  | k + 1, [], n, _ => by simp [freeOrder]
  | k + 1, [a], n, _ => by simp [freeOrder]
  | k + 1, a :: b :: rest, n, h => by
    simp only [freeOrder]
    have hi : Config.freeChoice n % (a :: b :: rest).length < (a :: b :: rest).length := Nat.mod_lt _ (by simp)
    generalize Config.freeChoice n % (a :: b :: rest).length = i at hi ⊢
    refine ((freeOrder_perm k _ _ ?_).cons _).trans ?_
    · rw [List.length_eraseIdx]; simp only [hi, if_true]; simp at h ⊢; omega
    · rw [List.getD_eq_getElem?_getD, List.getElem?_eq_getElem hi]
      exact List.getElem_cons_eraseIdx_perm hi

/-- Updates of distinct lines, each from its own record. -/
theorem foldLines_line (g : Nat → LineRec → LineRec) : ∀ (L : List Nat) (s : State), L.Nodup →
    let u := L.foldl (fun s l => s.setLine l (g l (s.line l))) s
    u = { s with lines := u.lines } ∧ ∀ m, u.line m = if m ∈ L then g m (s.line m) else s.line m
  | [], s, _ => ⟨rfl, fun m => by simp⟩
  | a :: L, s, h => by
    rw [List.nodup_cons] at h
    obtain ⟨h1, h2⟩ := foldLines_line g L (s.setLine a (g a (s.line a))) h.2
    refine ⟨?_, fun m => ?_⟩
    · simp only [List.foldl_cons]; rw [h1]; rfl
    · simp only [List.foldl_cons]; rw [h2 m]
      by_cases hm : m = a
      · subst hm; simp [h.1]
      · simp [hm]

/-! ## Flushes and tickets -/

/-- The flush of a line among others. -/
theorem flush_found {before after : List Flush} {l : Nat} {out stuck} (hb : ∀ x ∈ before ++ after, x.line ≠ l) :
    (before ++ (⟨l, out, stuck⟩ : Flush) :: after).find? (fun f => f.line == l) = some ⟨l, out, stuck⟩ := by
  rw [List.find?_append, List.find?_eq_none.2]
  · simp
  · intro x hx; simpa using hb x (by simp [hx])

/-- A flush replaced among others. -/
theorem flush_replaced {before after : List Flush} {l : Nat} {out stuck} (g : Flush) (hg : g.line = l)
    (hb : ∀ x ∈ before ++ after, x.line ≠ l) :
    (before ++ (⟨l, out, stuck⟩ : Flush) :: after).map (fun f => if f.line = g.line then g else f) = before ++ g :: after := by
  have h : ∀ L : List Flush, (∀ x ∈ L, x.line ≠ l) → L.map (fun f => if f.line = g.line then g else f) = L := by
    intro L hL
    conv => rhs; rw [← List.map_id L]
    apply List.map_congr_left; intro x hx; simp [hg, hL x hx]
  rw [List.map_append, h before (fun x hx => hb x (by simp [hx])), List.map_cons, h after (fun x hx => hb x (by simp [hx]))]
  simp [hg]

/-- A flush removed from among others. -/
theorem flush_removed {before after : List Flush} {l : Nat} {out stuck} (hb : ∀ x ∈ before ++ after, x.line ≠ l) :
    (before ++ (⟨l, out, stuck⟩ : Flush) :: after).filter (fun f => f.line != l) = before ++ after := by
  have h : ∀ L : List Flush, (∀ x ∈ L, x.line ≠ l) → L.filter (fun f => f.line != l) = L := by
    intro L hL; rw [List.filter_eq_self]; intro x hx; simpa using hL x hx
  rw [List.filter_append, h before (fun x hx => hb x (by simp [hx])), List.filter_cons]
  simp [h after (fun x hx => hb x (by simp [hx]))]

/-- No entry is about a subject and a class. -/
theorem State.findTicket_none {s : State} {k n c} (h : ∀ x ∈ s.tickets.entries, ¬ (x.kind = k ∧ x.subject = n ∧ x.cls = c)) :
    s.findTicket k n c = none := by
  unfold State.findTicket; rw [List.find?_eq_none]; intro x hx
  have := h x hx; simp [Ticket.isAbout]; exact fun a b c => this ⟨a, b, c⟩

/-- The entry about a subject and a class. -/
theorem State.findTicket_some {s : State} {k n c before t after} (hs : s.tickets.entries = before ++ t :: after)
    (h1 : t.kind = k) (h2 : t.subject = n) (h3 : t.cls = c)
    (h : ∀ x ∈ before, ¬ (x.kind = k ∧ x.subject = n ∧ x.cls = c)) :
    s.findTicket k n c = some t := by
  unfold State.findTicket; rw [hs, List.find?_append, List.find?_eq_none.2]
  · simp [Ticket.isAbout, h1, h2, h3]
  · intro x hx; have := h x hx; simp [Ticket.isAbout]; exact fun a b c => this ⟨a, b, c⟩

/-- An entry replaced among others of other numbers. -/
theorem ticket_replaced {before after : List Ticket} {t t' : Ticket} (hn : ∀ x ∈ before ++ after, x.number ≠ t.number) :
    (before ++ t :: after).map (fun u => if u.number = t.number then t' else u) = before ++ t' :: after := by
  have h : ∀ L : List Ticket, (∀ x ∈ L, x.number ≠ t.number) → L.map (fun u => if u.number = t.number then t' else u) = L := by
    intro L hL
    conv => rhs; rw [← List.map_id L]
    apply List.map_congr_left; intro x hx; simp [hL x hx]
  rw [List.map_append, h before (fun x hx => hn x (by simp [hx])), List.map_cons, h after (fun x hx => hn x (by simp [hx]))]
  simp

/-! ## Raises -/

/-- In a table with room a raise leaves an entry about its subject and class, seen now and not CLEARED. -/
theorem State.raise_makes (s : State) (k : SubjectKind) (n : Nat) (c : FaultClass) (ev)
    (hl : s.tickets.entries.length < 256) :
    ∃ t ∈ (s.raise k n c ev).tickets.entries, t.kind = k ∧ t.subject = n ∧ t.cls = c ∧
      t.state ≠ .cleared ∧ t.lastSeen = s.minute ∧ t.evidence = ev := by
  unfold State.raise
  cases hf : s.findTicket k n c with
  | some t =>
    have hm : t ∈ s.tickets.entries := List.mem_of_find?_eq_some hf
    have hp := List.find?_some hf
    simp only [Ticket.isAbout, Bool.and_eq_true, beq_iff_eq] at hp
    refine ⟨t.again s.minute ev, ?_, by simp [Ticket.again, hp], by simp [Ticket.again, hp], by simp [Ticket.again, hp], ?_,
      by simp [Ticket.again], by simp [Ticket.again]⟩
    · simp only [State.updateTicket, State.ticketNotice_keeps, State.putTicket, List.mem_map]
      exact ⟨t, hm, by simp⟩
    · simp only [Ticket.again]; split <;> simp_all
  | none =>
    have : s.tickets.entries.length < Config.ticketRoom := hl
    simp only [this, if_true, State.createTicket, State.countUp_keeps, State.ticketNotice_keeps]
    exact ⟨_, List.mem_append_right _ (List.mem_singleton.2 rfl), rfl, rfl, rfl, by simp, rfl, rfl⟩

/-- A raise changes no line's access. -/
theorem State.raise_access (s : State) (k n c ev m) : ((s.raise k n c ev).line m).access = (s.line m).access := by
  have up : ∀ (s : State) k n, ((s.countUp k n).line m).access = (s.line m).access := by
    intro s k n; cases k <;> simp [State.countUp]
    by_cases h : m = n <;> simp [h]
  have dn : ∀ (s : State) k n, ((s.countDown k n).line m).access = (s.line m).access := by
    intro s k n; cases k <;> simp [State.countDown]
    by_cases h : m = n <;> simp [h]
  have cr : ∀ (s : State), ((s.createTicket k n c ev).line m).access = (s.line m).access := by
    intro s; simp only [State.createTicket]; rw [up]; simp [State.line]
  have tn : ∀ (s : State) e t, ((s.ticketNotice e t).line m) = s.line m := by intro s e t; simp [State.line]
  unfold State.raise
  split
  · simp only [State.updateTicket]; rw [tn]; rfl
  · split
    · rw [cr]
    · split
      · rw [cr, tn]; simp only [State.removeTicket]; rw [dn]; rfl
      · simp [State.line]

/-- What a raise does to the Ticket Table depends on the table and the minute alone. -/
theorem State.raise_tickets_congr {s t : State} (h1 : s.tickets = t.tickets) (h2 : s.minute = t.minute) (k n c ev) :
    (s.raise k n c ev).tickets = (t.raise k n c ev).tickets := by
  have hf : s.findTicket k n c = t.findTicket k n c := by simp [State.findTicket, h1]
  have he : s.evictee c = t.evictee c := by simp [State.evictee, h1]
  have cr : ∀ u v : State, u.tickets = v.tickets → u.minute = v.minute →
      (u.createTicket k n c ev).tickets = (v.createTicket k n c ev).tickets := by
    intro u v a b; simp [State.createTicket, a, b]
  unfold State.raise
  rw [hf, he, h1]
  split
  · simp [State.updateTicket, State.putTicket, h1, h2]
  · split
    · exact cr _ _ h1 h2
    · split
      · apply cr <;> simp [State.removeTicket, h1, h2]
      · simp only [State.loseRaise, h1]; split <;> simp

/-- LOAD_LINES with fewer entries than counted reads none (R3). -/
theorem readEntries_short : ∀ (n l : Nat) (ps : Bytes), ps.length < 4 * n → readEntries n l ps = none
  | 0, _, _, h => by omega
  | n + 1, l, a :: b :: c :: d :: rest, h => by
    simp only [readEntries]
    rw [readEntries_short n (l + 1) rest (by simp at h; omega)]
    cases flagOf d.toNat <;> rfl
  | n + 1, l, [], h => rfl
  | n + 1, l, [_], h => rfl
  | n + 1, l, [_, _], h => rfl
  | n + 1, l, [_, _, _], h => rfl

/-- LOAD_LINES with an entry out of range reads none (R3). -/
theorem readEntries_bad : ∀ (n l : Nat) (ps : Bytes) (k : Nat) (c t r i : Byte) (more : Bytes), k < n →
    ps.drop (4 * k) = c :: t :: r :: i :: more → 15 < c.toNat ∨ 7 < t.toNat ∨ 7 < r.toNat ∨ 1 < i.toNat →
    readEntries n l ps = none
  | 0, _, _, _, _, _, _, _, _, h, _, _ => by omega
  | n + 1, l, ps, 0, c, t, r, i, more, h, hd, hb => by
    simp at hd; subst hd
    simp only [readEntries]
    cases hf : flagOf i.toNat with
    | none => rfl
    | some x =>
      have : i.toNat ≤ 1 := by unfold flagOf at hf; split at hf <;> first | omega | cases hf
      have : ¬ (c.toNat ≤ 15 ∧ t.toNat ≤ 7 ∧ r.toNat ≤ 7) := by omega
      cases readEntries n (l + 1) more <;> simp [this]
  | n + 1, l, ps, k + 1, c, t, r, i, more, h, hd, hb => by
    match ps with
    | a :: b :: e :: d :: rest =>
      have : rest.drop (4 * k) = c :: t :: r :: i :: more := by
        rw [show 4 * (k + 1) = 4 * k + 1 + 1 + 1 + 1 by omega] at hd
        simpa using hd
      simp only [readEntries]
      rw [readEntries_bad n (l + 1) rest k c t r i more (by omega) this hb]
      cases flagOf d.toNat <;> rfl
    | [] => rfl
    | [_] => rfl
    | [_, _] => rfl
    | [_, _, _] => rfl

/-- What offering an unsolicited notice does to the Command Unit (R181). -/
theorem State.notify_desk (s : State) (k b) : (s.notify k b).desk =
    if s.desk.notices.countP Notice.unsolicited < Config.unsolicitedRoom ∧
        decide (Config.noticeRoom ≤ s.desk.notices.length + s.desk.reservations) = false then
      { s.desk with notices := s.desk.notices ++ [⟨0, k, 0, b⟩] }
    else { s.desk with lost := satAdd 65535 s.desk.lost 1 } := by
  unfold State.notify State.unsolicitedCount State.noticesFull
  split <;> simp [State.placeNotice]

/-- What a clear request does to the tickets and the notices depends on them alone (R172). -/
theorem State.clearTicket_congr {v w : State} (ht : v.tickets = w.tickets) (hd : v.desk = w.desk) (k n c) :
    (v.clearTicket k n c).tickets = (w.clearTicket k n c).tickets ∧ (v.clearTicket k n c).desk = (w.clearTicket k n c).desk := by
  unfold State.clearTicket State.findTicket
  rw [ht]
  split
  · split
    · exact ⟨ht, hd⟩
    · exact ⟨by simp [State.ticketNotice, State.putTicket, ht], by
        simp only [State.ticketNotice, State.notify_desk, State.putTicket, hd]⟩
  · exact ⟨ht, hd⟩

/-- The notice of a new ticket depends on the tickets, the Command Unit and the minute alone (R169). -/
theorem State.createTicket_desk_congr {v w : State} (ht : v.tickets = w.tickets) (hd : v.desk = w.desk) (hm : v.minute = w.minute)
    (k n c e) :
    (v.createTicket k n c e).desk = (w.createTicket k n c e).desk := by
  simp only [State.createTicket, State.countUp_keeps, State.ticketNotice, ht, hm]
  rw [State.notify_desk, State.notify_desk]; simp only [hd]

/-- The notices of a raise depend on the tickets, the Command Unit and the minute alone (R168). -/
theorem State.raise_desk_congr {v w : State} (ht : v.tickets = w.tickets) (hd : v.desk = w.desk) (hm : v.minute = w.minute)
    (k n c e) :
    (v.raise k n c e).desk = (w.raise k n c e).desk := by
  unfold State.raise State.findTicket State.evictee
  rw [ht]
  split
  · simp only [State.updateTicket, State.ticketNotice, hm]
    simp only [State.notify_desk, State.putTicket, hd]
  · split
    · exact State.createTicket_desk_congr ht hd hm _ _ _ _
    · split
      · apply State.createTicket_desk_congr
        · simp [State.ticketNotice, State.removeTicket, ht]
        · simp [State.ticketNotice, State.notify_desk, State.removeTicket, hd]
        · simp [State.ticketNotice, State.removeTicket, hm]
      · simp only [State.loseRaise, ht]
        split
        · rw [State.notify_desk, State.notify_desk]; simp only [hd]
        · exact hd

/-- Audits requested for a list of cards leave every audit flag set that was, and set those of the list (R11). -/
theorem foldAudits_flags : ∀ (L : List Nat) (s : State),
    (∀ c, (s.audit c).flag = true → ((L.foldl State.requestAudit s).audit c).flag = true) ∧
    ∀ c ∈ L, ((L.foldl State.requestAudit s).audit c).flag = true
  | [], s => ⟨fun _ h => h, fun _ h => by cases h⟩
  | a :: L, s => by
    have hk : ∀ c, (s.audit c).flag = true → ((s.requestAudit a).audit c).flag = true := by
      intro c hc; simp only [State.requestAudit]; split
      · exact hc
      · by_cases h : c = a <;> simp [h, hc]
    have ha : ((s.requestAudit a).audit a).flag = true := by
      simp only [State.requestAudit]; split
      · assumption
      · simp
    obtain ⟨h1, h2⟩ := foldAudits_flags L (s.requestAudit a)
    refine ⟨fun c hc => h1 c (hk c hc), fun c hc => ?_⟩
    rcases List.mem_cons.1 hc with rfl | hc
    · exact h1 _ ha
    · exact h2 c hc

end Sys2Proof.Machine
end

