-- ==== Sys2Proof/WellFormed.lean ====
section
/-! DEFINITION. Which commands can be spelled: each operand inside the range the spec gives the thing it names. -/

namespace Sys2Proof

/-- A command is well formed when it names a line, card, bus, channel or hold-queue place that exists. The bytes a port
receives may be any bytes at all (R20 judges their form), and a neighbour may announce any credit (R23). -/
def Instr.wellFormed : Instr → Bool
  | .holdRecordLapse place => place < Config.holdRoom
  | .flushOffer line => line < Config.lines
  | .auditTimerExpiry card => card < Config.cards
  | .tapConfirmTimerExpiry bus => bus < Config.buses
  | .releaseConfirmTimerExpiry bus => bus < Config.buses
  | .restartReleaseTimeout bus => bus < Config.buses
  | .strayReleaseTimerExpiry bus => bus < Config.buses
  | .lockoutEnd bus => bus < Config.buses
  | .headTimerExpiry channel => channel < Config.channels
  | .coldReset | .rstnRelease | .bypassEnd | .frameArrivesPortU _ | .frameArrivesPortS _
  | .creditAnnouncement _ _ | .frameLeavesPort _ | .sOwnOfferEnters | .intervalTimerExpiry
  | .flapUnitBoundary | .minuteCounterAdvance | .hourTick | .unknownCommand | .loadLines | .lineRead
  | .inhibit | .clearHazard | .loadBusmap | .clearStuck | .loadStep | .loadPlan | .test | .abort
  | .returnHead | .loadProfile | .calibrate | .setCalCoef | .sweepLoad | .sweepStart | .sweepStop
  | .sweepPause | .sweepResume | .sweepMark | .suspect | .ticketRead | .ticketAck | .ticketClose
  | .ticketNote | .setParam | .status | .restart | .receptionBrokenOff _ => true

end Sys2Proof
end

