-- ==== Sys2Proof/Tests/Slice0.lean ====
section
/-! SUPPORT. The model's own tests: ill-formed commands that the checks refuse, single steps worked out by hand from the spec, and
for every statement with hypotheses a state that meets them. -/

namespace Sys2Proof.Tests

open Sys2Proof.Machine

/-! ## Well-formedness: each check refuses a command one past the end of its range (00_scope.md) -/

theorem test_no_place_32 : Instr.wellFormed (.holdRecordLapse 32) = false := by decide
theorem test_no_line_4096 : Instr.wellFormed (.flushOffer 4096) = false := by decide
theorem test_no_card_256 : Instr.wellFormed (.auditTimerExpiry 256) = false := by decide
theorem test_no_tap_bus_8 : Instr.wellFormed (.tapConfirmTimerExpiry 8) = false := by decide
theorem test_no_release_bus_8 : Instr.wellFormed (.releaseConfirmTimerExpiry 8) = false := by decide
theorem test_no_restart_bus_8 : Instr.wellFormed (.restartReleaseTimeout 8) = false := by decide
theorem test_no_stray_bus_8 : Instr.wellFormed (.strayReleaseTimerExpiry 8) = false := by decide
theorem test_no_lockout_bus_8 : Instr.wellFormed (.lockoutEnd 8) = false := by decide
theorem test_no_channel_4 : Instr.wellFormed (.headTimerExpiry 4) = false := by decide
theorem test_last_line_is_well_formed : Instr.wellFormed (.flushOffer 4095) = true := by decide

/-! ## Small states -/

/-- A step of the worked sequence in section 11.7: RES, RG, LOW, limit slot 3, sense ABOVE, LOW_INSULATION_RG. -/
def step32 : StepRec :=
  ⟨.rg, .res, -100, .low, 4, 8, 3, 20, some 3, .above, .lowInsulationRg, 0, false, true, none⟩

/-- A routine test of line 705 by plan 3, in pass 7. -/
def routine705 : TestRec := ⟨705, 3, .routine, .sweep, false, false, 100, 2, 7, true, false, 0, 32, [], none⟩

/-- A desk's test of line 5. -/
def urgent5 : TestRec := ⟨5, 3, .urgent, .asked 2, false, false, 200, 2, 0, false, false, 0, 32, [], none⟩

/-- A channel that measures line 705 on bus 0, its head timer due at 1500. -/
def measuring0 : Channel :=
  { Channel.cold with
    stage := .measuring, epoch := 3, bus := some 0, test := some routine705
    step := some ⟨32, 1, 0, .clear, .clear⟩
    intake := { Intake.cold with phase := .measuring, timer := some 1500, expected := some 1 } }

/-- The part in normal passage, at 1000 ms: line 5 FREE and IDLE, line 9 STUCK by bus 2, line 705 TAPPED on bus 0 by channel 0. -/
def base : State :=
  { State.reset with
    phase := .normal, now := 1000, nextFlap := 1024, nextMinute := 60000
    link := { Link.cold with portU := ⟨none, 4, 0, 0⟩, portS := ⟨none, 4, 0, 0⟩ }
    lines := [(5, { LineRec.cold with cls := 1, condition := .idle }),
      (9, { LineRec.cold with cls := 1, condition := .idle, access := .stuck }),
      (705, { LineRec.cold with cls := 1, condition := .idle, access := .tapped 0 })]
    buses := [(0, { Bus.cold with state := .claimed 0, reach := 0xFFFF, commanded := some 705, confirmed := some 705 }),
      (1, { Bus.cold with reach := 0xFFFF }), (2, { Bus.cold with state := .outOfService, stuckLine := some 9 })]
    steps := [(32, some step32)], plans := [(3, some 32)], chans := [(0, measuring0)] }

/-- A DESK frame as it stands in the command queue. -/
def deskFrame (code : Byte) (ps : Bytes) : Bytes :=
  [0x30, 30, 1, BitVec.ofNat 8 (ps.length + 2), 7, code] ++ ps ++ [0, 0]

/-- A state with one desk command waiting, under tag 7. -/
def asked (s : State) (code : Byte) (ps : Bytes) : State := { s with desk.commands := [deskFrame code ps] }

/-- A frame with its check. -/
def frame (kind dest source : Nat) (payload : Bytes) : Bytes := makeFrame kind dest source payload

/-- An ORDER of the exchange to the shelf of line 5 or 705. -/
def order (line code : Nat) : Bytes := frame 0x10 (line / 256 + 1) 0 (byte2 line ++ byte1 code ++ byte1 0)

/-- A SCAN from the shelf of a line. -/
def scan (dest line event arg : Nat) : Bytes :=
  frame 0x11 dest (line / 256 + 1) (byte2 line ++ byte1 event ++ byte1 arg ++ byte1 0)

/-- The answer is a next state of which this holds. -/
def holds (a : Answer) (p : State → Bool) : Bool :=
  match a with
  | .next t => p t
  | .fault _ | .refused _ => false

/-- `State.Ready` as a computed test. -/
def ready (s : State) (c : Instr) (ps : Bytes) : Bool :=
  s.phase == .normal && allChannels.all (fun h => (s.chan h).pendingAbort == none) &&
    decide (s.desk.notices.length + s.desk.reservations < 64) &&
      match s.desk.commands with
      | [f] => deskTag f == 7 && deskCommand f == c && deskParams f == ps
      | _ => false

/-- The computed test shows the hypothesis. -/
theorem ready_sound {s : State} {c : Instr} {ps : Bytes} (h : ready s c ps = true) : s.Ready c 7 ps [] := by
  unfold ready at h
  simp only [Bool.and_eq_true, beq_iff_eq, List.all_eq_true, decide_eq_true_eq] at h
  obtain ⟨⟨⟨h1, h2⟩, h3⟩, h4⟩ := h
  refine ⟨h1, h2, h3, ?_⟩
  split at h4
  · rename_i f hf
    simp only [Bool.and_eq_true, beq_iff_eq] at h4
    exact ⟨f, hf, h4.1.1, h4.1.2, h4.2⟩
  · simp at h4

/-! ## Single steps, their results worked out from the spec -/

/-- R34: the bypass lasts 5 ms, and the first minute comes 60,000 ms after the release. -/
theorem test_release_begins_bypass :
    holds (exec .rstnRelease State.reset) (fun t => t.phase == .bypass 5 && t.nextMinute == 60000) = true := by decide

/-- R35: STARTED at the tail of the notice queue. -/
theorem test_bypass_end_places_started :
    holds (exec .bypassEnd { State.reset with phase := .bypass 5, now := 5 })
      (fun t => t.phase == .normal && t.desk.notices == [⟨0, .started, 0, []⟩]) = true := by decide

/-- Section 2.7, the check: 29B1 for the nine characters 1 to 9, the generator's well-known value. -/
theorem test_crc_of_digits : crc [0x31, 0x32, 0x33, 0x34, 0x35, 0x36, 0x37, 0x38, 0x39] = 0x29B1 := by decide +kernel

/-- R37 and section 2.7: a NOTICE frame to node 0, its length counting tag, kind and result. -/
theorem test_notice_frame_header : (noticeFrame ⟨7, .response, 0, [1, 2]⟩).take 9 = [0x31, 0, 30, 5, 7, 1, 0, 1, 2] := by decide

/-- R28: TAP_CONNECT for line 705 goes to node 3, the shelf's number plus 1; line 705 is 2C1. -/
theorem test_tap_connect_frame : (tapConnectFrame 705 1).take 8 = [0x10, 3, 30, 4, 0x02, 0xC1, 8, 1] := by decide

/-- R40: an ORDER for a FREE line crosses. -/
theorem test_order_for_free_line_crosses :
    holds (exec (.frameArrivesPortU (order 5 1)) base)
      (fun t => t.link.down == [order 5 1] && (t.line 5).condition == .ringing) = true := by decide +kernel

/-- R41: an ORDER for a tapped line is held, its record due t_hold later. -/
theorem test_order_for_tapped_line_is_held :
    holds (exec (.frameArrivesPortU (order 705 3)) base)
      (fun t => t.link.down == [] && t.hold == [⟨order 705 3, 705, 1000, 5000⟩]) = true := by decide +kernel

/-- R20: one bad bit of the check, and the frame counts as discarded. -/
theorem test_bad_check_is_discarded :
    holds (exec (.frameArrivesPortU [0x10, 1, 0, 4, 0, 5, 1, 0, 0, 0]) base)
      (fun t => t.link.down == [] && t.link.portU.discards == 1) = true := by decide +kernel

/-- R6: LOOP_CLOSED makes an IDLE line OFF_HOOK, and the SCAN goes on upstream. -/
theorem test_loop_closed_makes_off_hook :
    holds (exec (.frameArrivesPortS (scan 0 5 1 0)) base)
      (fun t => (t.line 5).condition == .offHook && t.link.up == [scan 0 5 1 0]) = true := by decide +kernel

/-- R30: a frame leaves Port S, one unit of credit used. -/
theorem test_frame_leaves_port_s :
    holds (exec (.frameLeavesPort .s)
        { base with link := { base.link with down := [order 5 3], portS := ⟨some .transit, 4, 1, 0⟩ } })
      (fun t => t.link.down == [] && t.link.portS == ⟨none, 3, 1, 0⟩) = true := by decide

/-- R31: the credit of a neighbour opens the slot of the frame that waits. -/
theorem test_credit_opens_slot :
    holds (exec (.creditAnnouncement .u 2)
        { base with link := { base.link with up := [scan 0 5 1 0], portU := ⟨none, 0, 0, 0⟩ } })
      (fun t => t.link.portU == ⟨some .transit, 2, 1, 0⟩) = true := by decide

/-- R20: a frame broken off counts as discarded. -/
theorem test_reception_broken_off :
    holds (exec (.receptionBrokenOff .s) base) (fun t => t.link.portS.discards == 1) = true := by decide

/-- R29: the oldest waiting offer enters the S-own queue. -/
theorem test_offer_enters :
    holds (exec .sOwnOfferEnters { base with link.offers := [⟨idleDirective 1 2, 4, .untied⟩] })
      (fun t => t.link.offers == [] && t.link.sOwn.length == 1) = true := by decide

/-- R44: a held order lapses at its expiry. -/
theorem test_held_order_lapses :
    holds (exec (.holdRecordLapse 0) { base with hold := [⟨order 705 3, 705, 0, 1000⟩] })
      (fun t => t.hold == [] && t.desk.notices == [⟨0, .orderLapsed, 0, [1, 2, 0xC1, 3, 0, 0, 0, 3, 0xE8]⟩]) = true := by decide

/-- R46: the flush of a line whose last held order enters the S-own queue leaves the line FREE. -/
theorem test_flush_ends_free :
    holds (exec (.flushOffer 5) { base with
        hold := [⟨order 5 3, 5, 0, 4000⟩], flushes := [⟨5, none, false⟩]
        lines := [(5, { LineRec.cold with cls := 1, access := .flushing })] })
      (fun t => t.hold == [] && t.flushes == [] && (t.line 5).access == .free) = true := by decide

/-- R12: an audit that is not answered clears its flag. -/
theorem test_audit_times_out :
    holds (exec (.auditTimerExpiry 3) { base with audits := [(3, ⟨true, .running 1000⟩)] }) (fun t => t.audits == []) = true := by
  decide

/-- R58: no TAP_MADE in time: RELAY_NO_MAKE on the line, and the release begins. -/
theorem test_tap_not_made :
    holds (exec (.tapConfirmTimerExpiry 0) { base with
        chans := [(0, { measuring0 with stage := .tapping, step := none, intake := .cold })]
        buses := [(0, { base.bus 0 with confirm := .running 1000, confirmed := none })] })
      (fun t => (t.chan 0).stage == .releasing && (t.line 705).ticketCount == 1) = true := by decide

/-- R62: no TAP_BROKEN in time: the bus out of service, the line STUCK. -/
theorem test_release_not_confirmed :
    holds (exec (.releaseConfirmTimerExpiry 0) { base with
        chans := [(0, { measuring0 with
          stage := .releasing, step := none, intake := .cold, test := some { routine705 with outcome := some .completed } })]
        buses := [(0, { base.bus 0 with confirm := .running 1000 })] })
      (fun t => (t.bus 0).state == .outOfService && (t.line 705).access == .stuck && (t.chan 0).stage == .idle) = true := by
  decide

/-- R73: the release of a restart is not confirmed: the bus names its stuck line. -/
theorem test_restart_release_times_out :
    holds (exec (.restartReleaseTimeout 0) { base with
        chans := [], buses := [(0, { base.bus 0 with state := .claimedRestart, confirm := .running 1000 })] })
      (fun t => (t.bus 0).stuckLine == some 705 && (t.line 705).access == .stuck) = true := by decide

/-- R65: a stray relay that does not let go puts a FREE bus out of service. -/
theorem test_stray_release_times_out :
    holds (exec (.strayReleaseTimerExpiry 1) { base with
        buses := [(1, { Bus.cold with stray := some ⟨6, .running 1000⟩ })] })
      (fun t => (t.bus 1).state == .outOfService && (t.bus 1).stuckLine == some 6) = true := by decide

/-- R67: a lockout ends with the bus FREE. -/
theorem test_lockout_ends :
    holds (exec (.lockoutEnd 1) { base with buses := [(1, { Bus.cold with state := .lockout 1000 })] })
      (fun t => (t.bus 1).state == .free) = true := by decide

/-- R152: the interval runs out in WAITING, and pass 8 follows pass 7. -/
theorem test_interval_starts_pass :
    holds (exec .intervalTimerExpiry { base with
        chans := [], sweep := { Sweep.cold with state := .waiting, passNumber := 7, timer := some 1000, ranges := [⟨5, 5, 3⟩] } })
      (fun t => t.sweep.passNumber == 8 && t.sweep.underWay && (t.chan 0).stage == .tapping) = true := by decide

/-- R99: a silent head goes out of service. -/
theorem test_silent_head :
    holds (exec (.headTimerExpiry 0) { base with now := 1500 })
      (fun t => (t.chan 0).headOut && (t.chan 0).stage == .releasing) = true := by decide

/-- R13: an interval counter at 255 stays there, another advances. -/
theorem test_flap_boundary :
    holds (exec .flapUnitBoundary { base with
        now := 1024, lines := [(5, { LineRec.cold with cls := 1, flapInterval := 12 })] })
      (fun t => (t.line 5).flapInterval == 13 && (t.line 6).flapInterval == 255 && t.nextFlap == 1056) = true := by decide

/-- R185 and R125: minute 60 brings the hour tick. -/
theorem test_sixtieth_minute :
    holds (exec .minuteCounterAdvance { base with now := 60000, minute := 59 })
      (fun t => t.minute == 60 && t.hourDue && t.nextMinute == 120000) = true := by decide

/-- R125: the hour tick ages the records. -/
theorem test_hour_ages_records :
    holds (exec .hourTick { base with hourDue := true })
      (fun t => (t.headCal 3).iLow.age == 1 && (t.headCal 0).v.due && !t.hourDue) = true := by decide

/-- R179: an unknown code gives BAD_COMMAND, result 0x10. -/
theorem test_unknown_command :
    holds (exec .unknownCommand (asked base 0x05 [])) (fun t => t.desk.notices == [⟨7, .response, 0x10, []⟩]) = true := by decide

/-- R3: LOAD_LINES of one line, class 2, profiles 1 and 3. -/
theorem test_load_lines :
    holds (exec .loadLines (asked base 0x01 [0, 6, 1, 2, 1, 3, 1]))
      (fun t => (t.line 6).cls == 2 && (t.line 6).inhibit && (t.audit 0).flag) = true := by decide

/-- R15: INHIBIT sets the flag. -/
theorem test_inhibit :
    holds (exec .inhibit (asked base 0x03 [0, 5, 1])) (fun t => (t.line 5).inhibit) = true := by decide

/-- R66: CLEAR_STUCK gives back bus 2 and line 9. -/
theorem test_clear_stuck :
    holds (exec .clearStuck (asked base 0x11 [2]))
      (fun t => (t.bus 2).state == .free && (t.line 9).access == .free) = true := by decide

/-- R75: window 3 is brought to 4, and the answer is CLAMPED, code 1. -/
theorem test_load_step_clamps :
    holds (exec .loadStep (asked base 0x20 [9, 2, 2, 1, 0xFF, 0x9C, 3, 0, 8, 3, 20, 3, 0, 2, 0, 0, 1, 0xFF]))
      (fun t => t.stepRec 9 == some step32 && t.desk.notices.all (fun n => n.result == 1)) = true := by decide +kernel

/-- R76: plan 4 starts at step 32, a chain of one. -/
theorem test_load_plan :
    holds (exec .loadPlan (asked base 0x21 [4, 32])) (fun t => t.desk.notices == [⟨7, .response, 0, [4, 1, 1]⟩]) = true := by
  decide

/-- R54: a test of line 5 gets channel 1 and bus 1. -/
theorem test_test_is_admitted :
    holds (exec .test (asked base 0x22 [0, 5, 3, 1, 0, 0, 2]))
      (fun t => (t.line 5).access == .tapPending 1 && (t.bus 1).state == .claimed 1) = true := by decide

/-- R92: ABORT of channel 0 releases its test and answers later. -/
theorem test_abort_waits :
    holds (exec .abort (asked base 0x23 [0, 0]))
      (fun t => (t.chan 0).stage == .releasing && (t.chan 0).pendingAbort == some 7 && t.desk.notices == []) = true := by decide

/-- R93: RETURN_HEAD. -/
theorem test_return_head :
    holds (exec .returnHead (asked { base with chans := [(1, { Channel.cold with stage := .outOfService, headOut := true })] }
        0x24 [1]))
      (fun t => (t.chan 1).stage == .idle && !(t.chan 1).headOut) = true := by decide

/-- R129: LOAD_PROFILE writes limits 3 and 4 of profile 1. -/
theorem test_load_profile :
    holds (exec .loadProfile (asked base 0x30 [1, 3, 2, 0, 0, 0, 9, 0, 0, 1, 0]))
      (fun t => t.limit 1 3 == 9 && t.limit 1 4 == 256 && t.limit 1 5 == 0) = true := by decide

/-- R133: CALIBRATE of an idle head begins with Z_HIGH. -/
theorem test_calibrate :
    holds (exec .calibrate (asked base 0x31 [2]))
      (fun t => (t.chan 2).stage == .calibrating && (t.chan 2).calPhase == some .zHigh) = true := by decide

/-- R132: SET_CAL_COEF. -/
theorem test_set_cal_coef :
    holds (exec .setCalCoef (asked base 0x32 [1, 2, 0, 100, 5, 6]))
      (fun t => t.headCal 1 == { HeadCal.cold with iLow := { CalRec.cold with u0 := 100, kT := 5, kA := 6 } }) = true := by decide

/-- R149: SWEEP_LOAD of one range. -/
theorem test_sweep_load :
    holds (exec .sweepLoad (asked base 0x40 [1, 0, 5, 2, 0xC1, 3])) (fun t => t.sweep.ranges == [⟨5, 705, 3⟩]) = true := by decide

/-- R151: SWEEP_PAUSE keeps the state it left. -/
theorem test_sweep_pause :
    holds (exec .sweepPause (asked { base with sweep := { Sweep.cold with state := .waiting } } 0x43 []))
      (fun t => t.sweep.state == .paused && t.sweep.left == some .waiting) = true := by decide

/-- R157: SUSPECT answers the position in the queue. -/
theorem test_suspect :
    holds (exec .suspect (asked { base with sweep := { Sweep.cold with state := .paused } } 0x46 [0, 5, 3]))
      (fun t => t.sweep.suspects == [⟨5, 3, .desk, false⟩] && t.desk.notices == [⟨7, .response, 0, [1]⟩]) = true := by decide

/-- R163: SWEEP_MARK. -/
theorem test_sweep_mark :
    holds (exec .sweepMark (asked base 0x45 [2, 0, 9])) (fun t => t.sweep.mark == some (2, 9)) = true := by decide

/-- The ticket of the worked sequence in section 11.7 at minute 1,200. -/
def ticket41 : Ticket := ⟨41, .line, 705, .lowInsulationRg, .opened, 1200, 1200, 1, 0, none, []⟩

/-- Section 11.7, minute 1,200: number 41 is given, and the next number becomes 42. -/
theorem test_ticket_41_created :
    holds (.next ({ base with minute := 1200, tickets := { Tickets.cold with nextNumber := 41 } }.raise .line 705
        .lowInsulationRg none))
      (fun t => t.tickets.entries == [ticket41] && t.tickets.nextNumber == 42 && (t.line 705).ticketCount == 1) = true := by
  decide

/-- Section 11.7, minute 1,210: TICKET_ACK 41 makes the entry CONFIRMED. -/
theorem test_ticket_41_acknowledged :
    holds (exec .ticketAck (asked { base with tickets := ⟨[ticket41], 42, 0, true⟩ } 0x51 [0, 41]))
      (fun t => t.tickets.entries == [{ ticket41 with state := .confirmed }]) = true := by decide

/-- Section 11.7, minute 2,940: a CLEARED entry reopens, its third occurrence. -/
theorem test_ticket_41_reopened :
    holds (.next ({ base with minute := 2940, tickets := ⟨[{ ticket41 with state := .cleared, occurrences := 2 }], 42, 0, true⟩ }.raise
        .line 705 .lowInsulationRg none))
      (fun t => t.tickets.entries == [{ ticket41 with lastSeen := 2940, occurrences := 3, reopens := 1 }]) = true := by decide

/-- R175: TICKET_CLOSE removes the entry and lowers the line's count. -/
theorem test_ticket_close :
    holds (exec .ticketClose (asked { base with
        tickets := ⟨[{ ticket41 with cls := .foreignVoltage }], 42, 0, false⟩
        lines := [(705, { LineRec.cold with cls := 1, hazard := true, ticketCount := 1 })] } 0x52 [0, 41]))
      (fun t => t.tickets == ⟨[], 42, 0, true⟩ && !(t.line 705).hazard && (t.line 705).ticketCount == 0) = true := by decide

/-- R184: parameter 5, the flap threshold. -/
theorem test_set_param :
    holds (exec .setParam (asked base 0x60 [5, 0, 0, 0, 254]))
      (fun t => t.params.flapThreshold == 254 && t.params.flapLimit == 6) = true := by decide

/-- R186: RESTART ends the test of channel 0 and keeps its bus for the release. -/
theorem test_restart :
    holds (exec .restart (asked base 0x62 [])) (fun t => t.sweep.state == .stopped) = true := by
  decide

/-- Section 7.2: a sum of −104 over 16 samples has the mean −6, one of 104 the mean 7. -/
theorem test_means_round_halves_up : windowMean (-104) 16 = -6 ∧ windowMean 104 16 = 7 ∧ windowMean (-112) 16 = -7 := by decide

/-- R112's table: 4,003,999 gives 2000, 4,004,001 gives 2001. -/
theorem test_roots : isqrt 4003999 = 2000 ∧ isqrt 4004001 = 2001 ∧ isqrt 1073741824 = 32768 ∧ isqrt 3 = 1 := by decide

/-! ## Witnesses: states and operands that meet the hypotheses of the statements, clause by clause -/

/-- `StepRunsFrontCommand`. -/
theorem witness_step : ({ base with pending := [.hourTick, .lineRead] } : State).pending = .hourTick :: [.lineRead] := by decide

/-- `EmptyQueueActsOrWaits`: held with nothing to do, waiting with nothing to do, and an act that can be taken. -/
theorem witness_idle :
    (State.reset.pending = [] ∧ State.reset.ownActs = [] ∧ State.reset.phase = .held) ∧
      (base.pending = [] ∧ base.ownActs = [] ∧ base.phase ≠ .held) ∧ ({ base with now := 1024 } : State).ownActs ≠ [] := by decide

/-- `ResetSequence`: the phase of each clause, the bypass just over and 1 ms short of its end. -/
theorem witness_reset_sequence :
    State.reset.phase = .held ∧ base.phase ≠ .held ∧ ((5 : Time) - 5).toNat < 2 ^ 47 ∧ 2 ^ 47 ≤ ((4 : Time) - 5).toNat := by decide

/-- A queue of 16 frames. -/
def sixteen : List Bytes := List.replicate 16 [0x40, 1, 0, 0, 0, 0]

/-- A frame that meets the form and the check (R20). -/
def sound (f : Bytes) : Bool :=
  f.length == byteAt f 3 + 6 && decide (byteAt f 3 ≤ 250) && crc (f.take (4 + byteAt f 3)) == wordAt f (4 + byteAt f 3)

/-- `FramesDiscardedOrPassedUnread`: a frame one byte short, a length of 251, a bad check, a full transit queue, a full command queue;
in the bypass a frame to node 30, one to node 29 and one too short to name its node. -/
theorem witness_discards :
    base.phase = .normal ∧ ([0x10, 1, 0, 0, 0] : Bytes).length ≠ byteAt [0x10, 1, 0, 0, 0] 3 + 6 ∧
      250 < byteAt [0x10, 1, 0, 251] 3 ∧ sound [0x10, 1, 0, 0, 0, 0] = false ∧ sixteen.length = 16 ∧
      (List.replicate 8 (deskFrame 0x61 [])).length = 8 ∧
      byteAt [0x10, 30] 1 = 30 ∧ byteAt [0x10, 29] 1 ≠ 30 ∧ ([0x10] : Bytes).length < 2 := by decide +kernel

/-- `PortUDispatch`: DESK to node 30 with 2 bytes and with 1, DIRECTIVE to node 30, a seventh kind, an ORDER for line 4096 and one for
line 4095; every one sound, and room in the queues. -/
theorem witness_port_u :
    (base.link.down.length < 16 ∧ base.desk.commands.length < 8) ∧
      ([frame 0x30 30 0 [7, 0x61], frame 0x30 30 0 [7], frame 0x21 30 0 [], frame 0x40 5 0 [], frame 0x10 1 0 [0x10, 0, 1, 0],
        order 4095 1].all sound) = true ∧
      readOrder (frame 0x10 1 0 [0x10, 0, 1, 0]) = none ∧ readOrder (order 4095 1) = some ⟨4095, .ringStart⟩ := by decide +kernel

/-- `OrderScreen`: a relay order, an order for a FREE and for a STUCK line, an order held at 31 records with and without the yield
trigger, and one lost at 32. -/
theorem witness_order_screen :
    readOrder (order 5 8) = some ⟨5, .tapConnect⟩ ∧ readOrder (order 5 1) = some ⟨5, .ringStart⟩ ∧
      readOrder (order 705 2) = some ⟨705, .ringStop⟩ ∧ (base.line 5).access = .free ∧ (base.line 9).access = .stuck ∧
      (base.line 705).access ∉ [Access.free, .stuck] ∧
      (List.replicate 31 (⟨order 705 3, 705, 0, 4000⟩ : HoldRec)).length < 32 := by decide +kernel

/-- `PortSDispatch`: a relay confirmation, a scan to node 30, a scan to node 0, a sample to node 30, a NOTICE to node 30, a seventh
kind to node 30 and a DESK frame to node 29. -/
theorem witness_port_s :
    base.link.up.length < 16 ∧
      ([scan 0 705 8 0, scan 30 5 1 0, scan 0 5 1 0, frame 0x20 30 17 (List.replicate 68 0), frame 0x31 30 0 [],
        frame 0x40 30 0 [], frame 0x30 29 0 []].all sound) = true ∧
      readScan (scan 0 705 8 0) = some ⟨705, .tapMade, 0, 0⟩ ∧ readScan (scan 30 5 1 0) = some ⟨5, .loopClosed, 0, 0⟩ ∧
      (readSample (frame 0x20 30 17 (List.replicate 68 0))).isSome = true ∧
      readScan (frame 0x31 30 0 []) = none ∧ readSample (frame 0x31 30 0 []) = none ∧ readScan (frame 0x30 29 0 []) = none := by
  decide +kernel

/-- A port that sends, one that does not, one without credit (`CreditAndTransitDepartures`, `ArbiterGivesSlots`). -/
theorem witness_ports :
    (⟨some .transit, 1, 0, 0⟩ : Port).sending = some .transit ∧ base.link.portS.sending = none ∧ 0 < base.link.portS.credit ∧
      base.link.portS.run ≤ 4 ∧ Port.cold.credit = 0 ∧
      (List.replicate 5 (true, false)).length = 5 := by decide

/-- `ArbiterGivesSlots`: a run count of 4; a transit head that an ORDER behind another frame of the S-own queue holds back, and one that an
ORDER for another line does not. -/
theorem witness_held_back :
    (⟨none, 4, 4, 0⟩ : Port).sending = none ∧ 0 < (⟨none, 4, 4, 0⟩ : Port).credit ∧ (⟨none, 4, 4, 0⟩ : Port).run = 4 ∧
      heldBack [order 5 3] [⟨idleDirective 0 3, 6, .untied⟩, ⟨order 5 4, 7, .untied⟩] = true ∧
      heldBack [order 5 3] [⟨order 705 4, 7, .untied⟩] = false ∧ base.phase ≠ .held ∧
      ({ base with phase := .held } : State).phase = .held := by decide

/-- A frame of the part's own for Port S with this tie, about to leave, in a state where a timer is tied to its serial number 6 or to
another. -/
def leaving (t : Tie) (s : State) : State :=
  { s with link := { s.link with sOwn := [⟨idleDirective 0 3, 6, t⟩], portS := ⟨some .own, 1, 0, 0⟩ } }

/-- `OwnFrameLeavesAndItsTimerStarts`: each kind of tie, matching and not. -/
theorem witness_ties :
    (leaving .untied base).link.portS.sending = some .own ∧
      (({ base with buses := [(0, { base.bus 0 with confirm := .tied 6 })] } : State).bus 0).confirm = .tied 6 ∧
      (base.bus 0).confirm ≠ .tied 6 ∧
      (({ base with buses := [(1, { Bus.cold with stray := some ⟨5, .tied 6⟩ })] } : State).bus 1).stray = some ⟨5, .tied 6⟩ ∧
      (base.bus 1).stray = none ∧
      (({ base with audits := [(3, ⟨true, .tied 6⟩)] } : State).audit 3).timer = .tied 6 ∧ (base.audit 3).timer ≠ .tied 6 ∧
      (let c : Channel := { measuring0 with stage := .sourcing, intake := { Intake.cold with tie := some 6 } }
       c.intake.tie = some 6 ∧ c.stage.accepting = true ∧ c.epoch = 3 ∧ c.epoch ≠ 4) ∧
      (base.chan 0).intake.tie ≠ some 6 := by decide

/-- `OwnFrameLeavesAndItsTimerStarts`, its frames: a level that one signed byte holds. -/
theorem witness_level : -128 ≤ step32.level ∧ step32.level ≤ 127 := by decide

/-- `NoticesAndLostCount`: the unsolicited count at 55 and at 56, the queue at 63 and at 64; an unsolicited notice and a response that
leave with the lost count at 1. -/
theorem witness_notices :
    (List.replicate 55 (⟨0, .sweep, 0, []⟩ : Notice)).countP (fun n => n.kind != .response) < 56 ∧
      56 ≤ (List.replicate 56 (⟨0, .sweep, 0, []⟩ : Notice)).countP (fun n => n.kind != .response) ∧
      (List.replicate 55 (⟨0, .sweep, 0, []⟩ : Notice)).length + 8 < 64 ∧
      64 ≤ (List.replicate 55 (⟨0, .sweep, 0, []⟩ : Notice)).length + 9 ∧
      (⟨0, .sweep, 0, []⟩ : Notice).kind ≠ .response ∧ (⟨7, .response, 0, []⟩ : Notice).kind = .response ∧
      NoticeKind.ticket ≠ .response := by decide

/-- A state in the flush of line 5, one record of line 5 behind one of line 705. -/
def flushing : State :=
  { base with
    hold := [⟨order 705 3, 705, 0, 4000⟩, ⟨order 5 3, 5, 0, 4000⟩], flushes := [⟨5, none, false⟩]
    lines := [(5, { LineRec.cold with cls := 1, access := .flushing }), (705, { LineRec.cold with access := .tapped 0 })] }

/-- `OwnOffersAndFlushes`: the last record of a flush, the offer of a released order, an S-own queue with room and a full one, an order
for the line in transit. -/
theorem witness_flush :
    flushing.flushes = [⟨5, none, false⟩] ∧ (flushing.line 5).access = .flushing ∧
      (∀ q ∈ [(⟨order 705 3, 705, 0, 4000⟩ : HoldRec)], q.line ≠ 5) ∧ flushing.link.down.any (isOrderFor 5) = false ∧
      [order 5 2].any (isOrderFor 5) = true ∧ flushing.link.offers = [] ∧ flushing.link.sOwn.length < 16 ∧
      16 ≤ (List.replicate 16 (⟨[], 0, .untied⟩ : OwnFrame)).length ∧
      (⟨order 5 3, 9, .flush 5⟩ : OwnFrame).tie = .flush 5 := by decide +kernel

/-- `OwnOffersAndFlushes`: two flushes at once, a line with a further record behind its oldest, a restart flush of a line that is not
FLUSHING, and orders whose commitment changes a condition. -/
theorem witness_flushes :
    let s : State := { flushing with
      hold := [⟨order 705 3, 705, 0, 4000⟩, ⟨order 5 1, 5, 0, 4000⟩, ⟨order 5 2, 5, 0, 4000⟩]
      flushes := [⟨705, none, true⟩, ⟨5, none, false⟩] }
    s.phase ≠ .held ∧ s.flushes = [⟨705, none, true⟩] ++ ⟨5, none, false⟩ :: [] ∧
      (∀ x ∈ [(⟨705, none, true⟩ : Flush)] ++ [], x.line ≠ 5) ∧
      s.hold = [⟨order 705 3, 705, 0, 4000⟩] ++ ⟨order 5 1, 5, 0, 4000⟩ :: [⟨order 5 2, 5, 0, 4000⟩] ∧
      s.link.down.any (isOrderFor 5) = false ∧ s.link.offers = [] ∧ s.link.sOwn.length < 16 ∧
      (s.line 705).access ≠ .flushing ∧ ((s.afterOrder (order 5 1)).line 5).condition = .ringing := by decide +kernel

/-- `HeldRecordLapses`: at the expiry and 1 ms before it; with another record of the line, with none, with a flush. -/
theorem witness_lapse :
    flushing.hold = [⟨order 705 3, 705, 0, 4000⟩] ++ ⟨order 5 3, 5, 0, 4000⟩ :: [] ∧ ((4000 : Time) - 4000).toNat < 2 ^ 47 ∧
      2 ^ 47 ≤ ((3999 : Time) - 4000).toNat ∧ (∀ f ∈ base.flushes, f.line ≠ 5) ∧ flushing.flushes = [⟨5, none, false⟩] ∧
      (∃ q ∈ flushing.hold, q.line = 705) := by decide +kernel

/-- `HeldRecordLapses`: the last record of line 5 with another flush running, with its own released order still offered, and in a restart
flush. -/
theorem witness_lapse_ends :
    (∀ q ∈ [(⟨order 705 3, 705, 0, 4000⟩ : HoldRec)], q.line ≠ 5) ∧
      ([⟨705, none, true⟩, ⟨5, none, false⟩] : List Flush) = [⟨705, none, true⟩] ++ ⟨5, none, false⟩ :: [] ∧
      (∀ f ∈ [(⟨705, none, true⟩ : Flush)] ++ [], f.line ≠ 5) ∧ (some 9 : Option Nat) ≠ none ∧
      (flushing.line 705).access ≠ .flushing := by decide +kernel

/-- `LoopEventsAndFlaps`: a line of class 0 and one of class 1, in the conditions of the table; a flap count one short of the limit and
one two short. -/
theorem witness_line_events :
    (base.line 6).cls = 0 ∧ (base.line 5).cls ≠ 0 ∧ (base.line 5).condition ∈ [Condition.unknown, .idle, .ringing] ∧
      ({ LineRec.cold with cls := 1, condition := .offHook } : LineRec).condition ∈ [Condition.unknown, .offHook] ∧
      base.params.flapLimit = 6 ∧ min 15 (5 + 1) = 6 ∧ min 15 (4 + 1) < 6 := by decide

/-- `CardEventsAndAnswers`: an audit outstanding, a table with room, a table of different entries. -/
theorem witness_card :
    (({ base with audits := [(0, ⟨true, .stopped⟩)] } : State).audit 0).flag = true ∧ base.tickets.entries.length < 256 ∧
      [ticket41].Pairwise (fun a b => a.number ≠ b.number ∧ ¬ (a.kind = b.kind ∧ a.subject = b.subject ∧ a.cls = b.cls)) := by
  decide

/-- `CardEventsAndAnswers`: a card with an audit outstanding and one without; line 705, TAPPED by a ROUTINE test in MEASURING and IDLE, goes
OFF_HOOK by bit 1 of its card's bitmap. -/
theorem witness_card_state :
    (({ base with audits := [(0, ⟨true, .stopped⟩)] } : State).audit 0).flag = true ∧ (base.audit 44).flag = false ∧
      705 / 16 = 44 ∧ (base.line 705).cls ≠ 0 ∧ (base.line 705).condition ∈ [Condition.unknown, .idle] ∧
      Nat.testBit 2 (705 % 16) = true ∧ (base.line 705).access.channel = some 0 ∧ (base.chan 0).test = some routine705 ∧
      routine705.priority = .routine ∧ (base.chan 0).stage.active = true := by decide

/-- `ClockEvents`: each time at hand and 1 ms away, the line records canonical. -/
theorem witness_clock :
    base.phase ≠ .held ∧ ((1024 : Time) - base.nextFlap).toNat < 2 ^ 47 ∧ 2 ^ 47 ≤ ((1023 : Time) - base.nextFlap).toNat ∧
      Table.wf LineRec.cold base.lines = true ∧ ((60000 : Time) - base.nextMinute).toNat < 2 ^ 47 ∧
      2 ^ 47 ≤ ((59999 : Time) - base.nextMinute).toNat ∧
      (({ base with audits := [(3, ⟨true, .running 1000⟩)] } : State).audit 3).timer = .running 1000 ∧
      (base.audit 3).timer = .stopped := by decide

/-- `ReleaseBegins`, `ProtectiveTrip`: channel 0 in an active stage with a ROUTINE test on bus 0; channel 1 in none; a line that names
channel 0 and one that names none. -/
theorem witness_release :
    (base.chan 0).stage.active = true ∧ (base.chan 0).test = some routine705 ∧ (base.chan 0).bus = some 0 ∧
      routine705.priority = .routine ∧ urgent5.priority = .urgent ∧ (base.chan 1).stage.active = false ∧
      (base.line 705).access.channel = some 0 ∧ (base.line 5).access.channel = none ∧
      base.tickets.entries.length < 256 := by decide

/-- `ProtectiveTrip`: the step in progress at a trip. -/
theorem witness_trip_evidence :
    (base.chan 0).step.isSome = true ∧ ((base.chan 0).step.bind fun p => base.stepRec p.step) = some step32 := by decide

/-- Channel 0 in TAPPING, the confirm timer of bus 0 due at 1000. -/
def tapping : State :=
  { base with
    chans := [(0, { measuring0 with stage := .tapping, step := none, intake := .cold })]
    buses := [(0, { Bus.cold with state := .claimed 0, commanded := some 705, confirm := .running 1000 })] }

/-- `TapConfirmed`: before the make, at the timer's expiry and 1 ms before it. -/
theorem witness_tapping :
    (tapping.bus 0).state = .claimed 0 ∧ (tapping.bus 0).commanded = some 705 ∧ (tapping.chan 0).stage = .tapping ∧
      (tapping.chan 0).test = some routine705 ∧ (tapping.chan 0).bus = some 0 ∧ (tapping.bus 0).confirmed ≠ some 705 ∧
      tapping.stepRec routine705.startStep = some step32 ∧ (tapping.bus 0).confirm = .running 1000 ∧
      (tapping.now - 1000).toNat < 2 ^ 47 ∧ 2 ^ 47 ≤ ((999 : Time) - 1000).toNat := by decide

/-- `TapConfirmed`: a make of the line that is confirmed already. -/
theorem witness_made_again : (base.bus 0).confirmed = some 705 := by decide

/-- `TapConfirmed`: the confirmed line of a channel that measures, with room in the Ticket Table; a tap still waiting with no stray release. -/
theorem witness_drop :
    (base.bus 0).state = .claimed 0 ∧ (base.chan 0).stage ∈ [Stage.sourcing, .settling, .measuring] ∧
      (base.bus 0).confirmed = some 705 ∧ (base.chan 0).test = some routine705 ∧ (base.chan 0).bus = some 0 ∧
      base.tickets.entries.length < 256 ∧ (tapping.chan 0).stage = .tapping ∧ (tapping.bus 0).stray = none := by decide

/-- Channel 0 in RELEASING, with no handover and with one. -/
def releasing (handover : Bool) (t : TestRec) : State :=
  { tapping with chans := [(0, { measuring0 with
      stage := .releasing, step := none, intake := .cold, test := some t, handover := handover
      releaseLine := if handover then some 705 else none })] }

/-- `ReleaseCompletes`, `UnconfirmedReleaseSticks`: a release with no handover; a handover with bus 1 free and with no bus free; no
record of the line held and no flush. -/
theorem witness_releasing :
    ((releasing false routine705).bus 0).state = .claimed 0 ∧ ((releasing false routine705).bus 0).commanded = some 705 ∧
      ((releasing false routine705).chan 0).stage = .releasing ∧ ((releasing false routine705).chan 0).handover = false ∧
      ((releasing false routine705).chan 0).releaseLine = none ∧ ((releasing false routine705).bus 0).confirmed ≠ some 705 ∧
      ((releasing true urgent5).chan 0).test = some urgent5 ∧ ((releasing true urgent5).chan 0).handover = true ∧
      (base.bus 1).state = .free ∧ (base.bus 1).stray = none ∧ (base.bus 1).reach.getLsbD (urgent5.line / 256) = true ∧
      (∀ c, c < 1 → ¬ ((base.bus c).state = .free ∧ (base.bus c).stray = none ∧ (base.bus c).reach.getLsbD 0 = true)) ∧
      (∀ c, c < 8 → ¬ (((releasing true urgent5).bus c).state = .free ∧ ((releasing true urgent5).bus c).stray = none ∧
        ((releasing true urgent5).bus c).reach.getLsbD 0 = true)) ∧
      (∀ q ∈ base.hold, q.line ≠ 5) ∧ (∀ f ∈ base.flushes, f.line ≠ 5) ∧
      ({ Bus.cold with state := .claimedRestart, commanded := some 705, confirm := .running 1000 } : Bus).state = .claimedRestart := by
  decide

/-- `ReleaseCompletes`: a test that ends, ROUTINE and URGENT, with an ABORT waiting and without; a report that is asked for, and a
COMPLETED test of PASS results under the exceptions policy, which asks for none. -/
theorem witness_ends :
    let t : TestRec := { routine705 with outcome := some .completed }
    let c : Channel := { measuring0 with stage := .releasing, test := some t, pendingAbort := some 7 }
    let s : State := { base with chans := [(0, c), (1, { c with test := some { urgent5 with outcome := some .noBus } })] }
    (s.chan 0).test = some t ∧ t.outcome = some .completed ∧ (s.chan 0).restartEnded = false ∧
      (s.chan 1).restartEnded = false ∧ urgent5.priority = .urgent ∧ t.priority ≠ .urgent ∧
      s.sweep.config.policy ≠ .all ∧ t.results = [] := by decide

/-- `ReleaseCompletes`: a handover cleared in the release; a bus CLAIMED(RESTART) with its mark and without; a test that a restart found in
RELEASING, with an ABORT waiting and no outcome, with an outcome, and with no ABORT; a line with a held order and no flush, and with one. -/
theorem witness_release_ends :
    let b : Bus := { Bus.cold with state := .claimedRestart, commanded := some 705 }
    let c : Channel := { measuring0 with stage := .releasing, restartEnded := true }
    let s : State := { base with
      buses := [(0, b), (1, { b with oosMark := true })]
      chans := [(0, { c with releaseLine := some 705, test := some urgent5 }), (1, { c with pendingAbort := some 7 }),
        (2, { c with pendingAbort := some 7, test := some { routine705 with outcome := some .aborted } })] }
    (s.chan 0).test = some urgent5 ∧ (s.chan 0).handover = false ∧ (s.chan 0).releaseLine ≠ none ∧
      (s.chan 0).restartEnded = true ∧ (s.chan 0).pendingAbort = none ∧ (s.chan 1).pendingAbort = some 7 ∧
      routine705.outcome = none ∧ ((s.chan 2).test.bind TestRec.outcome) = some .aborted ∧
      (s.bus 0).state = .claimedRestart ∧ (s.bus 0).commanded = some 705 ∧ (s.bus 0).oosMark = false ∧
      (s.bus 1).oosMark = true ∧ (s.bus 0).confirmed ≠ some 705 ∧ (∀ f ∈ base.flushes, f.line ≠ 705) ∧
      (∃ q ∈ ({ flushing with flushes := [] } : State).hold, q.line = 705) := by decide +kernel

/-- `UnconfirmedReleaseSticks`: a release due on a claimed bus; a line with no held order and no flush, with a held order and no flush, and
with a flush. -/
theorem witness_sticks :
    let s := releasing false routine705
    (s.bus 0).commanded = some 705 ∧ (s.bus 0).confirm = .running 1000 ∧ (s.bus 0).state = .claimed 0 ∧
      (s.chan 0).stage = .releasing ∧ (s.now - 1000).toNat < 2 ^ 47 ∧ (∀ f ∈ s.flushes, f.line ≠ 705) ∧
      (∀ q ∈ s.hold, q.line ≠ 705) ∧ (∃ q ∈ flushing.hold, q.line = 705) ∧ (∀ f ∈ flushing.flushes, f.line ≠ 705) ∧
      flushing.flushes = [] ++ ⟨5, none, false⟩ :: [] := by decide +kernel

/-- `UnconfirmedReleaseSticks`: a bus out of service with its stuck line commanded, confirmed and not confirmed. -/
theorem witness_late :
    let b : Bus := { Bus.cold with state := .outOfService, commanded := some 9, stuckLine := some 9 }
    let s : State := { base with buses := [(2, b), (3, { b with confirmed := some 9 })] }
    (s.bus 2).state = .outOfService ∧ (s.bus 2).commanded = some 9 ∧ (s.bus 2).confirmed ≠ some 9 ∧
      (s.bus 3).state = .outOfService ∧ (s.bus 3).confirmed = some 9 := by decide

/-- `StrayRelaysAndLockouts`: a make that matches nothing; a stray release due on a FREE, a locked-out and a claimed bus; a lockout. -/
theorem witness_strays :
    (base.bus 0).confirmed ≠ some 5 ∧ (base.bus 0).commanded ≠ some 5 ∧
      ({ Bus.cold with stray := some ⟨6, .running 1000⟩ } : Bus).stray = some ⟨6, .running 1000⟩ ∧
      ({ Bus.cold with state := .lockout 1000 } : Bus).state = .lockout 1000 ∧ (base.now - 1000).toNat < 2 ^ 47 := by decide

/-- `StrayRelaysAndLockouts`: a stray release on a FREE and on a locked-out bus. -/
theorem witness_stray_ends :
    let y : Stray := ⟨6, .running 1000⟩
    let s : State := { base with
      buses := [(1, { Bus.cold with stray := some y }), (2, { Bus.cold with state := .lockout 2000, stray := some y })] }
    (s.bus 1).state = .free ∧ (s.bus 1).stray = some y ∧ (s.bus 2).state = .lockout 2000 ∧ (s.bus 2).stray = some y := by
  decide

/-- `StrayRelaysAndLockouts`: a stray release on a claimed bus in TAPPING and in RELEASING, on a bus CLAIMED(RESTART) and on one out of
service, none of them the break the bus waits for; a bus that is none. -/
theorem witness_stray_anywhere :
    let y : Stray := ⟨6, .running 1000⟩
    let s : State := { base with
      chans := [(0, { measuring0 with stage := .tapping }), (1, { measuring0 with stage := .releasing })]
      buses := [(0, { Bus.cold with state := .claimed 0, commanded := some 705, stray := some y }),
        (1, { Bus.cold with state := .claimed 1, commanded := some 705, stray := some y }),
        (2, { Bus.cold with state := .claimedRestart, commanded := some 705, stray := some y }),
        (3, { Bus.cold with state := .outOfService, commanded := some 705, stray := some y })] }
    (∀ b, b < 4 → (s.bus b).stray = some y ∧ (s.bus b).commanded ≠ some 6 ∧ (s.bus b).confirmed ≠ some 6) ∧
      (s.bus 0).state = .claimed 0 ∧ (s.chan 0).stage = .tapping ∧ (s.bus 1).state = .claimed 1 ∧
      (s.chan 1).stage = .releasing ∧ (s.bus 2).state = .claimedRestart ∧ (s.bus 3).state = .outOfService ∧ 8 ≤ 8 := by decide

/-- `WindowMeansAndRoot`: the sums of a window of 16 at both ends of their range. -/
theorem witness_windows :
    let w : Window := ⟨-32768 * 2 ^ 4, 32767 * 2 ^ 4, 0, false, false, 25, 4⟩
    4 ≤ w.k ∧ w.k ≤ 10 ∧ -32768 * 2 ^ w.k ≤ w.sv ∧ w.sv ≤ 32767 * 2 ^ w.k ∧ -32768 * 2 ^ w.k ≤ w.si ∧ w.si ≤ 32767 * 2 ^ w.k := by
  decide

/-- `EngineeringValues`: a corrected current of 15 codes and of 16, with the neutral record. -/
theorem witness_currents :
    (max (-32768) (min 32767 (((15 - 0) * (16384 : Int) + 8192) / 16384))).natAbs < 16 ∧
      16 ≤ (max (-32768) (min 32767 (((16 - 0) * (16384 : Int) + 8192) / 16384))).natAbs := by decide

/-- `EngineeringValues`: the largest residue, its root 32768 exactly, and a mean square smaller than the square of the mean, its residue 0. -/
theorem witness_roots :
    (1073741824 : Nat) ≤ 1073741824 ∧
      (let d := (max 0 (((1073741824 : Nat) : Int) - 0 * 0)).toNat
       32768 * 32768 ≤ d ∧ d < (32768 + 1) * (32768 + 1)) ∧
      (let d := (max 0 (((99 : Nat) : Int) - 10 * 10)).toNat
       0 * 0 ≤ d ∧ d < (0 + 1) * (0 + 1)) := by decide

/-- A measurement of 3,100,000 ohms (section 11.7). -/
def measured (clipped reversed : Bool) : Measurement := ⟨3100000, 3100000, clipped, false, reversed⟩

/-- `UncertaintyAndVerdict`: an uncertainty of 1000; a RES step; a clipped, a reversed and a plain reading; values at the lower edge of
the band, at its upper edge, and one beyond each. -/
theorem witness_verdicts :
    (1000 : Nat) ≤ 1000 ∧ step32.kind = .res ∧ (measured true false).clipped = true ∧ (measured false true).reversed = true ∧
      (3100000 * (1000 - 0) / 1000 ≤ (measured false false).compared ∧
        (measured false false).compared ≤ 3100000 * (1000 + 0) / 1000) ∧
      3099999 * (1000 + 0) / 1000 < (measured false false).compared ∧
      (measured false false).compared < 3100001 * (1000 - 0) / 1000 := by decide

/-- `UncertaintyAndVerdict`: a step under way, in its last repetition and in one before it; a FAIL that stops, the last step of a plan, and
a step with one after it. -/
theorem witness_results :
    let s : State := { base with steps := [(32, some step32), (33, some { step32 with rep := 1, link := some 32 })] }
    (s.chan 0).test = some routine705 ∧ (s.chan 0).step = some ⟨32, 1, 0, .clear, .clear⟩ ∧ s.stepRec 32 = some step32 ∧
      step32.rep ≤ 0 ∧ s.stepRec 33 = some { step32 with rep := 1, link := some 32 } ∧
      step32.link = none ∧ step32.stopOnFail = false := by decide

/-- `ScaleComputation`: spans at each edge. -/
theorem witness_spans :
    ((0 : Int) - 0 ≤ 0) ∧ (0 < (1 : Int) - 0 ∧ (16384 : Int) - 0 < 16385) ∧ (49155 < (49156 : Int) - 0) ∧
      (16385 ≤ (16385 : Int) - 0 ∧ (49155 : Int) - 0 ≤ 49155) := by decide

/-- Channel 0 in a phase of a calibration run that has every value the phase needs. -/
def running (p : CalPhase) : State :=
  { base with chans := [(0, { Channel.cold with
      stage := .calibrating, calPhase := some p
      run := some ⟨7, some 0, some 1, some (-1), none, none, none, some ⟨0, 16384⟩, some ⟨1, 16384⟩, none⟩ })] }

/-- `ScaleComputation`: a run in each phase; a scale that is computed, one without a span, one whose gain is out of range; causes other than
RESTART. -/
theorem witness_run :
    ((running .zHigh).chan 0).calPhase = some .zHigh ∧ ((running .zLow).chan 0).calPhase = some .zLow ∧
      ((running .refV).chan 0).calPhase = some .refV ∧ ((running .refIHigh).chan 0).calPhase = some .refIHigh ∧
      ((running .refILow).chan 0).calPhase = some .refILow ∧
      (∀ p ∈ [CalPhase.zHigh, .zLow, .refV, .refIHigh, .refILow], (((running p).chan 0).run.map CalRun.zV) = some (some 0) ∧
        (((running p).chan 0).run.map CalRun.zIH) = some (some 1) ∧ (((running p).chan 0).run.map CalRun.zIL) = some (some (-1)) ∧
        (((running p).chan 0).run.map CalRun.candV) = some (some ⟨0, 16384⟩) ∧
        (((running p).chan 0).run.map CalRun.candIH) = some (some ⟨1, 16384⟩)) ∧
      (computeScale 0 24576).toOption = some ⟨0, 16384⟩ ∧
      (match computeScale 0 0 with | .error .span => true | _ => false) = true ∧
      (match computeScale 0 1 with | .error .gain => true | _ => false) = true ∧
      CalCause.silent ≠ .restart := by decide

/-- `SettlingAndWindow`: a count that reaches the dwell, one that does not with the block limit reached, and one with it not reached. -/
theorem witness_settling : (2 + 1 = 3) ∧ (1 + 1 ≠ 3 ∧ 19 + 1 = 20) ∧ (1 + 1 ≠ 3 ∧ 18 + 1 ≠ 20) := by decide

/-- A pair of samples, 16 times: one frame. -/
def samples (v : Int) : List (Int × Int) := List.replicate 16 (v, v)

/-- `SettlingAndWindow`: the work of a step and of a phase; a block that settles, one that does not by the block limit, one that goes on;
a second restart and the third; the last frame of a window of 16 and the one before the last of a window of 32; the phases of intake. -/
theorem witness_frames :
    (base.work 0).isSome = true ∧ ((running .refV).work 0).isSome = true ∧
      (let w : Work := ⟨8, 3, 20, 4, true⟩
       let i : Intake := { Intake.cold with phase := .settling, blocks := 2, settle := 2, prev := some 0 }
       (i.judgeBlock w 8).2 = .settled ∧ ({ i with blocks := 19 }.judgeBlock w 9).2 = .unsettled ∧
         (i.judgeBlock w 9).2 = .going ∧ i.phase = .settling ∧ Intake.cold.phase = .awaiting ∧
         (base.chan 0).intake.phase = .measuring ∧
         (i.addFrame 4 25 (samples 1)).frames = 2 ^ 4 / 16 ∧ (i.addFrame 5 25 (samples 1)).frames ≠ 2 ^ 5 / 16) ∧
      ({ Intake.cold with restarts := 2 } : Intake).restarts = 2 ∧ Intake.cold.restarts ≠ 2 ∧
      (base.chan 0).stage ≠ .calibrating ∧ ((running .refV).chan 0).stage = .calibrating := by decide

/-- `ExposureAccount`: an account one below the limit, at the top of the range of the limit; a sample at the threshold and one above
it; an account that trips and one that does not. -/
theorem witness_exposure :
    1 ≤ 4294967295 ∧ 4294967294 < 4294967295 ∧ (∀ v ∈ [(13107 : Int)], v.natAbs ≤ 13107) ∧ (∃ v ∈ [(13108 : Int)], 13107 < v.natAbs) ∧
      (watchFrame 13107 1000000 0 0 [13108]).tripped = false ∧ (watchFrame 13107 1 0 0 [13108]).tripped = true := by decide

/-- `ExposureAccount`: a frame under the channel's epoch, which is accepted in a test and in a calibration run; one of another epoch and
one of a fifth head, which are not; sequence 0 behind 255. -/
theorem witness_samples :
    (let x : Sample := ⟨0, 3, 1, 125, samples 1⟩
     x.head < 4 ∧ (base.chan x.head).stage ∈ [Stage.sourcing, .settling, .measuring, .calibrating] ∧
       x.epoch = (base.chan x.head).epoch.toNat ∧ (base.chan x.head).intake.expected = some x.sequence) ∧
      (let x : Sample := ⟨0, 0, 0, -41, samples 1⟩
       x.epoch ≠ (base.chan x.head).epoch.toNat ∧ x.epoch = ((running .refV).chan x.head).epoch.toNat ∧
         ((running .refV).chan x.head).stage = .calibrating) ∧
      ¬ (⟨4, 0, 0, 0, []⟩ : Sample).head < 4 ∧ (255 + 1) % 256 = 0 ∧
      (watchFrame 13107 1 0 0 ((samples 13108).map Prod.fst)).tripped = true := by decide

/-- `SilentHeadAndHourTick`: the head timer at its expiry, in a test and in a calibration run; an hour tick that is due and one that is
not; a record that is due, and a table with room for four. -/
theorem witness_heads :
    (base.chan 0).intake.timer = some 1500 ∧ ((1500 : Time) - 1500).toNat < 2 ^ 47 ∧
      (base.chan 0).stage ∈ [Stage.sourcing, .settling, .measuring] ∧
      ({ Channel.cold with stage := .calibrating, calPhase := some .refV, run := some (.fresh 7) } : Channel).calPhase = some .refV ∧
      (base.chan 1).stage ∈ [Stage.idle, .tapping, .releasing, .outOfService] ∧ base.hourDue = false ∧
      ({ base with hourDue := true } : State).hourDue = true ∧
      holds (exec .hourTick { base with
        hourDue := true
        cal := [(3, { HeadCal.cold with
          v := { CalRec.cold with valid := true }, iHigh := { CalRec.cold with valid := true } })] })
        (fun t => !(t.headCal 3).v.due && !(t.headCal 3).iHigh.due && (t.headCal 3).iLow.due) = true ∧
      base.tickets.entries.length < 252 := by decide

/-- The sweep in a state, with the interval timer at 1000. -/
def sweeping (st : SweepState) : State :=
  { base with sweep := { Sweep.cold with state := st, timer := some 1000, ranges := [⟨5, 5, 3⟩] } }

/-- `IntervalExpiryStartsPass`: the timer at its expiry, in each state; room for PASS_START. -/
theorem witness_interval :
    (sweeping .waiting).sweep.timer = some 1000 ∧ ((sweeping .waiting).now - 1000).toNat < 2 ^ 47 ∧
      2 ^ 47 ≤ ((999 : Time) - 1000).toNat ∧ (sweeping .paused).sweep.state = .paused ∧
      (sweeping .draining).sweep.state ∈ [SweepState.stopped, .running, .draining] ∧
      (sweeping .waiting).desk.notices.countP (fun n => n.kind != .response) < 56 ∧
      (sweeping .waiting).desk.notices.length + (sweeping .waiting).desk.reservations < 64 := by decide

/-- `IntervalExpiryStartsPass`: two cards with an equipped line in UNKNOWN, and line records in their canonical form. -/
theorem witness_pass_audits :
    let r : LineRec := { LineRec.cold with cls := 1 }
    let s : State := { sweeping .waiting with lines := [(5, r), (6, r), (705, r)] }
    s.sweep.state = .waiting ∧ Table.wf LineRec.cold s.lines = true ∧ (s.line 5).cls ≠ 0 ∧
      (s.line 705).condition = .unknown ∧ 5 / 16 ≠ 705 / 16 := by decide

/-- A pass that has nothing left to do, on a part with no test. -/
def spent (st : SweepState) : State :=
  { base with
    chans := [], sweep := { Sweep.cold with state := st, underWay := true, walk := .done, passNumber := 7 } }

/-- `SettlingOfAnAct`: a pass that meets every condition of its end, a drain that is over, and a state in which nothing is judged. -/
theorem witness_settle :
    (spent .running).sweep.attemptDue = false ∧ (spent .running).sweep.underWay = true ∧ (spent .running).sweep.walk = .done ∧
      (spent .running).sweep.revisits = [] ∧ (spent .running).sweep.suspended = [] ∧
      (∀ h, h < 4 → ((spent .running).chan h).test = none) ∧ (spent .running).sweep.config.interval ≠ 0 ∧
      (spent .draining).sweep.state = .draining ∧ (spent .paused).sweep.state ∈ [SweepState.stopped, .waiting, .paused] ∧
      (spent .stopped).sweep.state = .stopped := by decide

/-- `SettlingOfAnAct`: a pass that ends at an interval of 0; a drain with no pass under way; a start attempt that is due, after which nothing
is left to judge. -/
theorem witness_settle_on :
    (let s : State := { spent .running with sweep.config.interval := 0 }
     s.passDone = true ∧ s.sweep.config.interval = 0) ∧
      (let s : State := { spent .draining with sweep.underWay := false }
       s.sweep.attemptDue = false ∧ s.sweep.state = .draining ∧ s.sweep.underWay = false ∧ ∀ h, h < 4 → (s.chan h).test = none) ∧
      (let s : State := { spent .waiting with sweep.underWay := false, sweep.attemptDue := true }
       let u := State.attempt 5 [] { s with sweep := { s.sweep with attemptDue := false } }
       s.sweep.attemptDue = true ∧ s.sweep.state ≠ .draining ∧ s.passDone = false ∧ u.sweep.attemptDue = false ∧
         u.sweep.state ≠ .draining ∧ u.passDone = false) := by decide

/-- `SettlingOfAnAct`, one round: the end of a pass at a nonzero interval and the end of a drain with an attempt due, as the end of the last
routine test leaves them, and a drain that goes on. -/
theorem witness_settle_due :
    (let s : State := { spent .running with sweep.attemptDue := true }
     s.passDone = true ∧ s.sweep.config.interval ≠ 0 ∧ s.sweep.attemptDue = true) ∧
      (let s : State := { spent .draining with sweep.attemptDue := true }
       s.sweep.state = .draining ∧ (∀ h, h < 4 → (s.chan h).test = none) ∧ s.sweep.attemptDue = true) ∧
      (let s : State := { spent .draining with chans := [(0, { measuring0 with test := some routine705 })], sweep.attemptDue := true }
       (s.chan 0).test = some routine705 ∧ routine705.priority = .routine ∧ s.passDone = false) := by decide

/-- R162, R153: with an attempt due, the pass ends and its interval timer starts; the drain ends and no attempt is left. -/
theorem test_settle_due :
    (let u := ({ spent .running with sweep.attemptDue := true } : State).settle
     u.sweep.state = .waiting ∧ u.sweep.underWay = false ∧ u.sweep.timer.isSome = true ∧ u.sweep.attemptDue = false ∧
       u.desk.notices.length = 1) ∧
      (let u := ({ spent .draining with sweep.attemptDue := true } : State).settle
       u.sweep.state = .stopped ∧ u.sweep.attemptDue = false ∧ u.desk.notices.length = 1) := by decide +kernel

/-- `SettlingOfAnAct`, an interval of 0: with no pass started in the act, and with a backlog that has not changed since. -/
theorem witness_zero_interval :
    let s : State := { spent .running with sweep.config.interval := 0 }
    s.passDone = true ∧ s.sweep.config.interval = 0 ∧ (none : Option Backlog) ≠ some s.backlog ∧ some s.backlog = some s.backlog := by
  decide

/-- A part in WAITING whose sweep list is empty, with this suspect queue and these suspended contexts, at the expiry of its timer. -/
def emptyList (suspects : List Suspect) (contexts : List Context) : State :=
  { spent .waiting with
    lines := [(5, { LineRec.cold with cls := 1, condition := .idle }), (705, { LineRec.cold with cls := 1, condition := .offHook })]
    sweep := { (spent .waiting).sweep with timer := some 1000, ranges := [], suspects := suspects, suspended := contexts } }

/-- R152 (step 6), R162: with an empty list the attempt of the start tests a suspect in RUNNING, as a test of the pass, behind a context
that it discards; the pass stays under way. -/
theorem test_empty_list_with_suspect :
    holds (exec .intervalTimerExpiry (emptyList [⟨5, 3, .desk, false⟩] [⟨705, 3, 32, 0, [], 6, false, .walk⟩]))
      (fun t => t.sweep.state == .running && t.sweep.underWay && t.sweep.suspects == [] && t.sweep.suspended == [] &&
        (t.chan 0).test.map (fun r => (r.line, r.startedInPass)) == some (5, true)) = true := by decide +kernel

/-- R162: with an empty list and nothing else pending the pass ends at its own start. -/
theorem test_empty_list : holds (exec .intervalTimerExpiry (emptyList [] []))
    (fun t => t.sweep.state == .waiting && !t.sweep.underWay && t.sweep.passNumber == 8 && t.desk.notices.length == 2) = true := by
  decide +kernel

/-- R162, an interval of 0: a suspect whose line is busy goes to the tail in a pass with no other candidate, which ends in the act of its
start; the next pass starts at once, tests the suspect behind it, and counts the first one, still busy, MISSED. -/
theorem test_next_pass_at_once :
    holds (exec .intervalTimerExpiry { spent .waiting with
      lines := [(5, { LineRec.cold with cls := 1, condition := .idle }), (705, { LineRec.cold with cls := 1, condition := .offHook })]
      params := { base.params with interval := 0 }
      sweep := { (spent .waiting).sweep with
        timer := some 1000, ranges := [⟨6, 7, 3⟩], suspects := [⟨705, 3, .desk, false⟩, ⟨5, 3, .desk, false⟩] } })
      (fun t => t.sweep.state == .running && t.sweep.underWay && t.sweep.passNumber == 9 &&
        t.sweep.suspects == [] && (t.line 705).lastOutcome == .missed &&
        (t.chan 0).test.map (fun r => (r.line, r.startedInPass)) == some (5, true)) = true := by decide

/-- A started request. -/
def started : Fate → Bool
  | .started _ => true
  | _ => false

/-- `RoutineStartsOnlyOnSoundLines`: a request that starts a test on line 5. -/
theorem witness_routine :
    started (base.requestRoutine { routine705 with line := 5 } .walk) = true ∧
      (⟨5, 3, true, false, false⟩ : Request).urgent = true := by decide

/-- A sweep in RUNNING on a part with no test, its walk on the first line of a range. -/
def walking (l : Nat) : State :=
  { spent .running with
    sweep := { Sweep.cold with
      state := .running, underWay := true, passNumber := 7, walk := .onLine 0 l
      config := { Sweep.cold.config with ranges := [⟨5, 9, 3⟩] } } }

/-- What a source answers. -/
def answersStarted : Served → Bool
  | .started _ => true
  | _ => false

/-- What a source answers, the entry being handled. -/
def answersHandled : Served → Bool
  | .handled _ => true
  | _ => false

/-- `RoutineStartsOnlyOnSoundLines`: each source with an entry to serve, room under the concurrency and under the four; lines that are
ready, unequipped, inhibited, hazardous, busy and not idle; the refusals that end an attempt and that pass a source over; a suspect
met first, one met again in the same attempt and one requeued before; the mark on the candidate; sources that answer each way. -/
theorem witness_sources :
    let c : Context := ⟨5, 3, 32, 0, [], 7, true, .walk⟩
    let s := walking 5
    let full : State := { s with chans := (List.range 4).map fun h => (h, { measuring0 with test := some urgent5 }) }
    let noBus : State := { s with buses := [] }
    (s.sweep.state = .running ∧ 0 < s.sweep.config.concurrency ∧ s.routineCount < s.sweep.config.concurrency ∧
        s.routineCount + s.sweep.suspended.length < 4 ∧ s.sweep.config.ranges[0]? = some ⟨5, 9, 3⟩) ∧
      ((s.line 5).cls ≠ 0 ∧ (s.line 5).inhibit = false ∧ (s.line 5).hazard = false ∧ (s.line 5).access = .free ∧
        (s.line 5).condition = .idle ∧ (s.line 6).cls = 0 ∧ (s.line 9).access ≠ .free) ∧
      answersStarted s.serveWalk = true ∧ answersHandled (walking 6).serveWalk = true ∧
      full.refusal (.routine 5 3) = some .noChannel ∧ noBus.refusal (.routine 5 3) = some .noBus ∧
      s.refusal (.routine 5 4) = some .planInvalid ∧
      answersStarted ({ s with sweep.suspended := [c] } : State).serveContext = true ∧
      answersHandled ({ s with sweep.suspended := [{ c with line := 6 }] } : State).serveContext = true ∧
      answersStarted (({ s with sweep.suspects := [⟨5, 3, .desk, false⟩] } : State).serveSuspect []).1 = true ∧
      answersHandled (({ s with sweep.suspects := [⟨9, 3, .desk, true⟩] } : State).serveSuspect []).1 = true ∧
      (({ s with sweep.suspects := [⟨9, 3, .desk, false⟩] } : State).serveSuspect []).2 = [9] ∧
      answersStarted ({ s with sweep.walk := .done, sweep.revisits := [⟨5, 3⟩] } : State).serveRevisit = true ∧
      answersHandled ({ s with sweep.walk := .done, sweep.revisits := [⟨9, 3⟩] } : State).serveRevisit = true ∧
      (({ s with sweep.mark := some (0, 0) } : State).sweep.mark = some (0, 5 - 5)) := by decide

/-- `RoutineEndBooked`: a test of the pass under way that ends FAIL, one that ends YIELDED from the walk and from the revisit list, and one
that does not belong. -/
theorem witness_booking :
    let s : State := spent .running
    (s.sweep.underWay && true && 7 == s.sweep.passNumber) = true ∧ (s.sweep.underWay && true && 6 == s.sweep.passNumber) = false ∧
      s.sweep.revisits.length < 64 ∧ (∀ r ∈ s.sweep.revisits, r.line ≠ 705) ∧ s.sweep.state ≠ .draining := by decide

/-- `RoutineEndBooked`: an end in the pass, YIELDED from each origin and not; DRAINING, a full revisit list and one that holds the line. -/
theorem witness_yields :
    let e : RoutineEnd := ⟨705, 3, 7, true, some .yielded, [], .suspect .flap⟩
    let s : State := spent .running
    s.sweep.underWay = true ∧ e.startedInPass = true ∧ e.pass = s.sweep.passNumber ∧ e.outcome = some .yielded ∧
      e.origin = .suspect .flap ∧ ({ e with outcome := some .completed } : RoutineEnd).outcome ≠ some .yielded ∧
      s.sweep.state ≠ .draining ∧ s.sweep.revisits.length < 64 ∧ (spent .draining).sweep.state = .draining ∧
      64 ≤ (List.replicate 64 (⟨5, 3⟩ : Revisit)).length ∧ (∃ r ∈ [(⟨705, 3⟩ : Revisit)], r.line = 705) := by decide

/-- A step result of step 32. -/
def result32 (v : Verdict) : StepResult := ⟨32, .res, .rg, .low, 3100000, v, .clear, 8, .lowInsulationRg, 1⟩

/-- `RoutineEndBooked`: results without a MARGINAL one, with one behind a PASS, and the step of a suspect test found and not found; a FLAP
test that passes and one that does not; a suspect queue in each state of an offer. -/
theorem witness_origins :
    (∀ r ∈ [result32 .pass], r.verdict ≠ .marginal) ∧
      ([result32 .pass, result32 .marginal] = [result32 .pass] ++ result32 .marginal :: [] ∧
        ∀ x ∈ [result32 .pass], x.verdict ≠ .marginal) ∧
      (∀ r ∈ [result32 .pass], r.step ≠ 33) ∧ (result32 .marginal).step = 32 ∧
      (∀ r ∈ [result32 .pass, result32 .unjudged], r.verdict = .pass ∨ r.verdict = .unjudged) ∧
      ¬ (∀ r ∈ [result32 .fail], r.verdict = .pass ∨ r.verdict = .unjudged) ∧
      (sweeping .draining).sweep.state ∈ [SweepState.stopped, .draining] ∧
      (sweeping .waiting).sweep.state ∉ [SweepState.stopped, .draining] ∧ (sweeping .waiting).sweep.suspects.length < 16 ∧
      16 ≤ ((List.range 16).map fun l => (⟨l, 3, .desk, false⟩ : Suspect)).length := by decide

/-- `TicketRaisedAndNumbered`: an entry found; none found with room; the CLEARED entry of a table; the ends of the range of numbers. -/
theorem witness_raise :
    [ticket41] = [] ++ ticket41 :: [] ∧ (∀ x ∈ [ticket41], ¬ (x.kind = .line ∧ x.subject = 705 ∧ x.cls = .foreignDc)) ∧
      [ticket41].length < 256 ∧ 256 ≤ (List.replicate 256 ticket41).length ∧ (∀ x ∈ [ticket41], x.state ≠ .cleared) ∧
      (∃ x ∈ [{ ticket41 with state := .cleared }], x.state = .cleared) ∧ FaultClass.foreignDc ≠ .foreignVoltage ∧
      FaultClass.foreignDc ≠ .relayStuck ∧ (1 ≤ 65535 ∧ 65535 ≤ 65535) := by decide +kernel

/-- 256 entries of different numbers, in one state. -/
def fullTable (st : TicketState) : List Ticket :=
  (List.range 256).map fun i => { ticket41 with number := i + 1, subject := i, state := st }

/-- `TicketRaisedAndNumbered`: a full table whose oldest CLEARED entry gives up its place, one whose oldest CONFIRMED entry of no safety
class does, one that has nothing to give; an entry to clear and one that is CLEARED already. -/
theorem witness_full_table :
    (let es := fullTable .cleared
     let x : Ticket := { ticket41 with number := 1, subject := 0, state := .cleared }
     256 ≤ es.length ∧ (∀ y ∈ es, ¬ (y.kind = .line ∧ y.subject = 705 ∧ y.cls = .foreignDc)) ∧ x ∈ es ∧ x.state = .cleared ∧
       (∀ y ∈ es, y.state = .cleared → x.lastSeen.toNat < y.lastSeen.toNat ∨ (x.lastSeen = y.lastSeen ∧ x.number ≤ y.number)) ∧
       (∀ y ∈ es, y.number = x.number → y = x)) ∧
      (let es := fullTable .confirmed
       let x : Ticket := { ticket41 with number := 1, subject := 0, state := .confirmed }
       (∀ y ∈ es, y.state ≠ .cleared) ∧ x ∈ es ∧ x.state = .confirmed ∧ x.cls ≠ .foreignVoltage ∧ x.cls ≠ .relayStuck ∧
         (∀ y ∈ es, x.lastSeen.toNat < y.lastSeen.toNat ∨ (x.lastSeen = y.lastSeen ∧ x.number ≤ y.number)) ∧
         (∀ y ∈ es, y.number = x.number → y = x)) ∧
      (∀ y ∈ fullTable .opened, y.state ≠ .cleared ∧ y.state ≠ .confirmed) ∧ ticket41.state ≠ .cleared := by decide +kernel

/-- `TicketRaisedAndNumbered`, its notices: a full table with an entry to evict, and one with none, armed and not. -/
theorem witness_raise_notices :
    (let s : State := { base with tickets := { base.tickets with entries := fullTable .cleared } }
     256 ≤ s.tickets.entries.length ∧ s.evictee .foreignDc = some { ticket41 with number := 1, subject := 0, state := .cleared }) ∧
      (let s : State := { base with tickets := { base.tickets with entries := fullTable .opened } }
       256 ≤ s.tickets.entries.length ∧ s.evictee .foreignVoltage = none ∧ s.tickets.armed = true ∧
         ({ s.tickets with armed := false } : Tickets).armed = false) := by decide +kernel

/-- A notice queue at its bounds: 56 unsolicited entries, 3 responses, 5 reservations, one of them owed to an ABORT that waits. -/
def crowded : State :=
  { base with
    desk := ⟨[], List.replicate 56 ⟨0, .sweep, 0, []⟩ ++ List.replicate 3 ⟨7, .response, 0, []⟩, 5, 0⟩
    chans := [(0, { measuring0 with pendingAbort := some 7 })] }

/-- The invariants hold of a state with a test under way, and the room of the notice queue where it is full; the queue after a cold reset
has room for STARTED. -/
theorem witness_invariants :
    base.Canonical ∧ base.WithinRooms ∧ base.RoutineWithinFour ∧ base.ExposureBelowLimit ∧ crowded.NoticesWithinRoom ∧
      (let s : State := { State.reset with phase := .bypass 5, pending := [.bypassEnd] }
       s.desk.notices.length + s.desk.reservations < 64 ∧ s.desk.notices.countP (fun n => n.kind != .response) < 56) := by
  refine ⟨⟨by decide, by decide, by decide, by decide, by decide, by decide, by decide, by decide⟩,
    ⟨by decide, by decide, by decide, by decide, by decide, by decide, by decide, by decide, by decide, by decide⟩,
    by unfold State.RoutineWithinFour; decide, ⟨by decide, by decide, by decide⟩, ⟨by decide, by decide, by decide, by decide⟩,
    by decide⟩

/-- Line 705 with its hazard flag set and a FOREIGN_VOLTAGE entry that names it. -/
def hazardous : State :=
  { base with
    tickets := ⟨[{ ticket41 with cls := .foreignVoltage }], 42, 0, true⟩
    lines := [(705, { LineRec.cold with cls := 1, condition := .idle, access := .tapped 0, hazard := true, ticketCount := 1 })] }

/-- A line of `hazardous`. -/
theorem hazardous_line (l : Nat) : hazardous.line l = if 705 = l then
    { LineRec.cold with cls := 1, condition := .idle, access := .tapped 0, hazard := true, ticketCount := 1 } else .cold := rfl

/-- The invariants of the Ticket Table hold of a state with an entry. -/
theorem witness_tickets_sound : hazardous.TicketsSound where
  lines := by decide
  room := by decide
  distinctFaults := by decide
  distinctNumbers := by decide
  numbers := by decide
  next := by decide
  counts l := by
    rw [hazardous_line]
    by_cases h : 705 = l
    · subst h; decide
    · rw [if_neg h]
      simp [hazardous, ticket41, Ticket.names, LineRec.cold, h]

/-- The hazard invariant holds of a state with a FOREIGN_VOLTAGE entry. -/
theorem witness_hazard : hazardous.HazardWithTicket where
  tickets := witness_tickets_sound
  hazard := by decide
  steps i r h := by
    have : r = step32 := by
      by_cases hi : 32 = i <;> simp_all [State.stepRec, hazardous, base, Table.get]
    subst this; decide
  running h t ht := by
    have : t = routine705 := by
      by_cases hi : 0 = h <;> simp_all [State.chan, hazardous, base, Table.get, measuring0, Channel.cold]
    subst this; decide
  suspended := by decide

/-- A line of class 0 is untracked in a state with lines of both classes. -/
theorem witness_untracked : hazardous.UnequippedUntracked where
  lines := by decide
  condition l h := by
    rw [hazardous_line] at h ⊢
    by_cases hl : 705 = l
    · rw [if_pos hl] at h; cases h
    · rw [if_neg hl]; exact .inl rfl

/-- `StepsKeep…`, `TransitFramesPassInOrder`, `OwnFramesAreNotWithdrawn`: a command that is no cold reset, and its next state. -/
theorem witness_next :
    Instr.hourTick ≠ .coldReset ∧ exec .hourTick base = .next base ∧
      step { base with pending := [.hourTick] } = .next base := ⟨by decide, rfl, rfl⟩

/-! ### Desk commands: for each, a frame that makes it ready (`ready_sound`), with parameters at the edges of its clauses -/

/-- `CommandsTakenAndRefused`: an unknown code, parameters one byte short, an empty queue, another command at the head. -/
theorem witness_taken :
    ready (asked base 0x05 []) .unknownCommand [] = true ∧ ready (asked base 0x02 [0]) .lineRead [0] = true ∧
      fewestBytes .lineRead = some 2 ∧ isDeskCommand .status = true ∧ base.desk.commands = [] ∧
      deskCommand (deskFrame 0x61 []) ≠ .lineRead := by decide

/-- `LineCommandsAndLoads`: line 4095 and line 4096; an inhibit value of 1 and of 2; a FOREIGN_VOLTAGE entry that names a line and none;
a group of 16 that ends at line 4095; a class of 0 for a line that is not FREE. -/
theorem witness_line_commands :
    ready (asked base 0x02 [0x0F, 0xFF]) .lineRead [0x0F, 0xFF] = true ∧ ready (asked base 0x02 [0x10, 0]) .lineRead [0x10, 0] = true ∧
      ready (asked base 0x03 [0, 5, 1]) .inhibit [0, 5, 1] = true ∧ ready (asked base 0x03 [0, 5, 2]) .inhibit [0, 5, 2] = true ∧
      ready (asked base 0x04 [0, 5]) .clearHazard [0, 5] = true ∧
      (∃ t ∈ [{ ticket41 with cls := .foreignVoltage }], t.kind = .line ∧ t.subject = 705 ∧ t.cls = .foreignVoltage) ∧
      (∀ t ∈ [ticket41], ¬ (t.kind = .line ∧ t.subject = 705 ∧ t.cls = .foreignVoltage)) ∧
      ready (asked base 0x01 [0, 6, 0]) .loadLines [0, 6, 0] = true ∧
      (let e : LineEntry := ⟨6, 15, 7, 7, true⟩
       ready (asked base 0x01 ([0, 6, 1] ++ e.bytes)) .loadLines ([0, 6, 1] ++ e.bytes) = true ∧ e.cls ≤ 15 ∧ e.tip ≤ 7) ∧
      4080 + 16 ≤ 4096 ∧ 4096 < 4081 + 16 ∧ (base.line 705).access ≠ .free ∧ (base.line 6).condition = .unknown := by decide

/-- `LineCommandsAndLoads`: an entry less than counted; the second entry with a class of 16, a profile of 8, an inhibit value of 2. -/
theorem witness_bad_entries :
    let bad : Bytes → Bool := fun e => ready (asked base 0x01 ([0, 6, 2, 1, 0, 0, 0] ++ e)) .loadLines ([0, 6, 2, 1, 0, 0, 0] ++ e)
    bad [15, 7, 7] = true ∧ bad [16, 7, 7, 1] = true ∧ bad [15, 8, 7, 1] = true ∧ bad [15, 7, 8, 1] = true ∧
      bad [15, 7, 7, 2] = true ∧ ([1, 0, 0, 0, 15, 7, 7] : Bytes).length < 4 * (2 : Byte).toNat ∧ 1 < (2 : Byte).toNat ∧
      15 < (16 : Byte).toNat ∧ 7 < (8 : Byte).toNat := by decide

/-- `BusCommands`: bus 7 and bus 8; a FREE bus and one that is not; an OUT_OF_SERVICE bus whose stuck line no other bus names; a claimed
bus with the mark. -/
theorem witness_bus_commands :
    ready (asked base 0x10 [7, 0, 1]) .loadBusmap [7, 0, 1] = true ∧ ready (asked base 0x10 [8, 0, 1]) .loadBusmap [8, 0, 1] = true ∧
      ready (asked base 0x11 [2]) .clearStuck [2] = true ∧ (base.bus 7).state = .free ∧ (base.bus 0).state ≠ .free ∧
      (base.bus 2).state = .outOfService ∧ (base.bus 2).stuckLine = some 9 ∧ (base.line 9).access = .stuck ∧
      (∀ c, c < 8 → c ≠ 2 → (base.bus c).stuckLine ≠ some 9) ∧ (base.bus 0).oosMark = false ∧
      ({ Bus.cold with state := .claimed 0, oosMark := true } : Bus).oosMark = true := by decide

/-- `BusCommands`: a ticket that CLEAR_STUCK clears, with its notice. -/
theorem witness_stuck_ticket :
    let s : State := { base with tickets := ⟨[{ ticket41 with kind := .bus, subject := 2, cls := .relayStuck, state := .opened }], 42, 0, true⟩ }
    ready (asked s 0x11 [2]) .clearStuck [2] = true ∧ (s.bus 2).state = .outOfService ∧
      (s.clearTicket .bus 2 .relayStuck).desk.notices.length = 1 := by decide

/-- `BusCommands`: an OUT_OF_SERVICE bus, and a claimed one with the mark, that name a FLUSHING line. -/
theorem witness_unstick :
    let s : State := { flushing with
      flushes := [⟨5, none, true⟩]
      buses := [(0, { Bus.cold with state := .claimed 0, oosMark := true, stuckLine := some 5 }),
        (1, { Bus.cold with state := .outOfService, stuckLine := some 9 })] }
    ready (asked s 0x11 [0]) .clearStuck [0] = true ∧ (s.bus 0).state ≠ .outOfService ∧ (s.bus 0).oosMark = true ∧
      (s.bus 0).stuckLine = some 5 ∧ (s.line 5).access = .flushing ∧ (∀ c, c < 8 → c ≠ 0 → (s.bus c).stuckLine ≠ some 5) ∧
      s.flushes = [] ++ ⟨5, none, true⟩ :: [] ∧ (s.bus 1).state = .outOfService := by decide

/-- `LoadStepAndPlan`: a step and a plan in use and not in use; a record kept and one clamped; the first step 127, 255 and one between. -/
theorem witness_plans :
    ready (asked base 0x20 [9, 2, 2, 1, 0xFF, 0x9C, 3, 0, 8, 3, 20, 3, 0, 2, 7, 0, 1, 0xFF]) .loadStep
        [9, 2, 2, 1, 0xFF, 0x9C, 3, 0, 8, 3, 20, 3, 0, 2, 7, 0, 1, 0xFF] = true ∧
      arrangementOf 2 = some .rg ∧ stepKindOf 2 = some .res ∧ rangeOf 1 = some .low ∧ slotOf 3 = some (some 3) ∧
      senseOf 0 = some .above ∧ stepClassOf 2 = some .lowInsulationRg ∧ flagOf 0 = some false ∧ linkOf 255 = some none ∧
      base.stepInUse 32 = true ∧ base.stepInUse 9 = false ∧ base.planInUse 3 = true ∧ base.planInUse 15 = false ∧
      ready (asked base 0x21 [15, 127]) .loadPlan [15, 127] = true ∧ ready (asked base 0x21 [15, 255]) .loadPlan [15, 255] = true ∧
      ready (asked base 0x21 [15, 128]) .loadPlan [15, 128] = true := by decide

/-- `LoadStepAndPlan`: each field outside its set by one; a chain of two steps. -/
theorem witness_bad_steps :
    ready (asked base 0x20 [128, 3, 3, 2, 0xFF, 0x9C, 3, 0, 8, 3, 20, 8, 2, 7, 8, 2, 2, 128]) .loadStep
        [128, 3, 3, 2, 0xFF, 0x9C, 3, 0, 8, 3, 20, 8, 2, 7, 8, 2, 2, 128] = true ∧ 127 < (128 : Byte).toNat ∧
      2 < (3 : Byte).toNat ∧ 1 < (2 : Byte).toNat ∧ (7 < (8 : Byte).toNat ∧ (8 : Byte).toNat < 255) ∧ (0 : Byte).toNat = 0 ∧
      6 < (7 : Byte).toNat ∧ 7 < (8 : Byte).toNat ∧ (127 < (128 : Byte).toNat ∧ (128 : Byte).toNat < 255) := by decide

/-- `LoadStepAndPlan`: a valid plan of two steps, one that visits a step twice, and one that names a step that is not loaded. -/
theorem witness_chains :
    let s : State := { base with
      steps := [(32, some { step32 with link := some 33 }), (33, some step32), (34, some { step32 with link := some 34 })]
      plans := [(3, some 32), (4, some 34), (5, some 35)] }
    s.planSteps 3 = some [32, 33] ∧ s.planSteps 4 = none ∧ s.planSteps 5 = none ∧ s.stepInUse 33 = true ∧
      s.stepInUse 34 = false := by decide

/-- `TestOnDemandAndPreemption`: a request that is admitted, one refused because its line is busy, one with an originator of 9; a victim on
another line. -/
theorem witness_test :
    ready (asked base 0x22 [0, 5, 3, 1, 0, 0, 8]) .test [0, 5, 3, 1, 0, 0, 8] = true ∧
      ready (asked base 0x22 [0, 5, 3, 1, 0, 0, 9]) .test [0, 5, 3, 1, 0, 0, 9] = true ∧
      base.refusal ⟨5, 3, true, false, false⟩ = none ∧ base.idleChannel = some 1 ∧ base.freeBus 5 = some 1 ∧
      base.refusal ⟨705, 3, true, false, false⟩ = some .lineBusy ∧
      routine705.line ≠ urgent5.line ∧ base.sweep.state ≠ .draining ∧ (sweeping .draining).sweep.state = .draining := by decide

/-- `TestOnDemandAndPreemption`: with channel 0 busy the lowest IDLE channel is 1. -/
theorem witness_idle_channel :
    (base.chan 1).stage = .idle ∧ (∀ g, g < 1 → (base.chan g).stage ≠ .idle) ∧ base.idleChannel = some 1 := by decide

/-- A part with a ROUTINE test on every channel, each on a line of its own, that of channel 2 started last, and channel 3 with it. -/
def occupied : State :=
  { base with
    chans := [(0, measuring0), (1, { measuring0 with test := some { routine705 with line := 706, startTime := 300 } }),
      (2, { measuring0 with test := some { routine705 with line := 707, startTime := 400 } }),
      (3, { measuring0 with test := some { routine705 with line := 708, startTime := 400 } })] }

/-- `TestOnDemandAndPreemption`: an admitted request with no IDLE channel and its victim, channel 2; each row of admission. -/
theorem witness_victim :
    ready (asked occupied 0x22 [0, 5, 3, 1, 0, 0, 2]) .test [0, 5, 3, 1, 0, 0, 2] = true ∧
      occupied.refusal ⟨5, 3, true, false, false⟩ = none ∧ (∀ g, g < 4 → (occupied.chan g).stage ≠ .idle) ∧
      (occupied.chan 2).stage.active = true ∧ (occupied.bus 1).state = .free ∧ (occupied.bus 1).stray = none ∧
      (occupied.bus 1).reach.getLsbD (5 / 256) = true ∧
      (∀ g, g < 4 → ((occupied.chan g).test.map fun t => decide (t.startTime.toNat < 400 ∨ (t.startTime = 400 ∧ 2 ≤ g))) =
        some true) ∧
      base.refusal ⟨6, 3, true, false, false⟩ = some .lineUnequipped ∧ base.refusal ⟨5, 4, true, false, false⟩ = some .planInvalid ∧
      occupied.refusal ⟨5, 3, false, false, false⟩ = some .noChannel ∧
      ({ base with buses := [] } : State).refusal ⟨5, 3, true, false, false⟩ = some .noBus ∧
      (let r : LineRec := { LineRec.cold with cls := 1, condition := .idle }
       let s : State := { base with lines := [(5, { r with inhibit := true }), (6, { r with hazard := true }),
         (7, { r with condition := .offHook }), (8, { r with condition := .ringing })] }
       s.refusal ⟨5, 3, false, false, false⟩ = some .lineInhibited ∧ s.refusal ⟨6, 3, true, false, false⟩ = some .lineHazard ∧
         s.refusal ⟨6, 3, true, false, true⟩ = none ∧ s.refusal ⟨7, 3, true, false, false⟩ = some .lineBusy ∧
         s.refusal ⟨7, 3, true, true, false⟩ = none ∧ s.refusal ⟨8, 3, true, true, false⟩ = some .lineBusy) := by decide

/-- `AbortCommand`: channel 3 and channel 4, line 4095 and line 4096, a line under test; a channel at rest, in a run, in a test, in
RELEASING. -/
theorem witness_abort :
    ready (asked base 0x23 [0, 3]) .abort [0, 3] = true ∧ ready (asked base 0x23 [0, 4]) .abort [0, 4] = true ∧
      ready (asked base 0x23 [1, 0x0F, 0xFF]) .abort [1, 0x0F, 0xFF] = true ∧
      ready (asked base 0x23 [1, 0x10, 0]) .abort [1, 0x10, 0] = true ∧ (base.line 705).access.channel = some 0 ∧
      (base.line 4095).access.channel = none ∧ (base.chan 3).stage ∈ [Stage.idle, .outOfService] ∧
      (base.chan 0).stage.active = true ∧ ((releasing true urgent5).chan 0).stage = .releasing ∧
      ({ Channel.cold with stage := .calibrating } : Channel).stage = .calibrating := by decide

/-- `AbortCommand`: a line without its second byte. -/
theorem witness_abort_short : ready (asked base 0x23 [1, 2]) .abort [1, 2] = true := by decide

/-- `HeadCommands`: head 3 and head 4, in service and out of it; a channel at rest and one that is not. -/
theorem witness_head_commands :
    ready (asked base 0x24 [3]) .returnHead [3] = true ∧ ready (asked base 0x24 [4]) .returnHead [4] = true ∧
      ready (asked base 0x31 [3]) .calibrate [3] = true ∧ ready (asked base 0x31 [4]) .calibrate [4] = true ∧
      (base.chan 3).headOut = false ∧ ({ Channel.cold with headOut := true, stage := .outOfService } : Channel).headOut = true ∧
      (base.chan 0).stage ∉ [Stage.idle, .outOfService] ∧ (base.chan 3).stage ∈ [Stage.idle, .outOfService] := by decide

/-- `ProfileAndCoefficients`: slot 7 with one limit and with two; U0 of 100 and of 101; head 3 and scale 2. -/
theorem witness_profiles :
    ready (asked base 0x30 ([7, 7, 1] ++ ([4294967295].flatMap byte4))) .loadProfile ([7, 7, 1] ++ ([4294967295].flatMap byte4)) = true ∧
      ready (asked base 0x30 [7, 7, 2]) .loadProfile [7, 7, 2] = true ∧ 7 + 1 ≤ 8 ∧ 8 < 7 + 2 ∧
      ready (asked base 0x32 [3, 2, 0, 100, 255, 255]) .setCalCoef [3, 2, 0, 100, 255, 255] = true ∧
      ready (asked base 0x32 [3, 2, 0, 101, 255, 255]) .setCalCoef [3, 2, 0, 101, 255, 255] = true ∧
      scaleOf 2 = some .iLow := by decide

/-- `ProfileAndCoefficients`: two values counted, one and a part of the second sent. -/
theorem witness_short_profile :
    ready (asked base 0x30 ([7, 0, 2] ++ List.replicate 7 0)) .loadProfile ([7, 0, 2] ++ List.replicate 7 0) = true ∧
      (List.replicate 7 (0 : Byte)).length < 4 * (2 : Byte).toNat := by decide

/-- `SweepListMarkAndSuspects`: a list of one range that ends at line 4095 and one with a plan of 16; mark 31, mark 32 and mark 255; a
suspect that joins, one the queue holds, one for which it is full, and a sweep that is STOPPED. -/
theorem witness_sweep_commands :
    (let r : SweepRange := ⟨0, 4095, 15⟩
     ready (asked base 0x40 ([1] ++ r.bytes)) .sweepLoad ([1] ++ r.bytes) = true ∧ r.first ≤ r.last ∧ r.last < 4096 ∧ r.plan ≤ 15) ∧
      (let r : SweepRange := ⟨0, 4095, 16⟩
       ready (asked base 0x40 ([1] ++ r.bytes)) .sweepLoad ([1] ++ r.bytes) = true ∧ ¬ r.plan ≤ 15) ∧
      ready (asked base 0x40 [33]) .sweepLoad [33] = true ∧ ready (asked base 0x45 [31, 0x0F, 0xFF]) .sweepMark [31, 0x0F, 0xFF] = true ∧
      ready (asked base 0x45 [32, 0, 0]) .sweepMark [32, 0, 0] = true ∧ ready (asked base 0x45 [255, 0, 0]) .sweepMark [255, 0, 0] = true ∧
      ready (asked (sweeping .waiting) 0x46 [0x0F, 0xFF, 15]) .suspect [0x0F, 0xFF, 15] = true ∧
      ready (asked (sweeping .waiting) 0x46 [0, 5, 16]) .suspect [0, 5, 16] = true ∧
      (sweeping .waiting).sweep.state ∉ [SweepState.stopped, .draining] ∧ (sweeping .waiting).sweep.suspects.length < 16 ∧
      (∃ e ∈ [(⟨5, 3, .desk, false⟩ : Suspect)], e.line = 5) ∧
      16 ≤ ((List.range 16).map fun l => (⟨l, 3, .desk, false⟩ : Suspect)).length ∧
      (sweeping .stopped).sweep.attemptDue = false := by decide

/-- `SweepListMarkAndSuspects`: one range counted and four bytes sent; a sweep in DRAINING with a ROUTINE test still on a channel. -/
theorem witness_draining :
    ready (asked base 0x40 [1, 0, 0, 0, 0]) .sweepLoad [1, 0, 0, 0, 0] = true ∧ 4 < 5 * (1 : Byte).toNat ∧
      ready (asked (sweeping .draining) 0x46 [0, 5, 3]) .suspect [0, 5, 3] = true ∧
      (sweeping .draining).sweep.state ∈ [SweepState.stopped, .draining] ∧ (sweeping .draining).sweep.attemptDue = false ∧
      ((sweeping .draining).chan 0).test = some routine705 := by decide

/-- `SweepStateCommands`: each command ready, in each state of its clauses. -/
theorem witness_sweep_states :
    ready (asked (sweeping .stopped) 0x41 []) .sweepStart [] = true ∧ ready (asked (sweeping .running) 0x43 []) .sweepPause [] = true ∧
      ready (asked (sweeping .paused) 0x44 []) .sweepResume [] = true ∧ ready (asked (sweeping .waiting) 0x42 []) .sweepStop [] = true ∧
      (sweeping .draining).sweep.state = .draining ∧ (sweeping .paused).sweep.startWaits = false ∧
      ({ Sweep.cold with state := .paused, left := some .running, startWaits := true } : Sweep).startWaits = true ∧
      (sweeping .running).sweep.suspended = [] := by decide

/-- `SweepStateCommands`, the pass started: SWEEP_START in STOPPED, SWEEP_RESUME with a start that waits, an UNKNOWN line, and line records
in their canonical form. -/
theorem witness_pass_started :
    let waits : State := { sweeping .paused with
      lines := [(5, { LineRec.cold with cls := 1 })], sweep.startWaits := true, sweep.left := some .waiting }
    ready (asked (sweeping .stopped) 0x41 []) .sweepStart [] = true ∧ (sweeping .stopped).sweep.state = .stopped ∧
      ready (asked waits 0x44 []) .sweepResume [] = true ∧ waits.sweep.state = .paused ∧ waits.sweep.startWaits = true ∧
      (waits.line 5).cls ≠ 0 ∧ (waits.line 5).condition = .unknown ∧ Table.wf LineRec.cold waits.lines = true := by decide

/-- `SweepStateCommands`: a stop with two contexts suspended, one of the pass under way and one that is not. -/
theorem witness_discards_of_stop :
    let c : Context := ⟨705, 3, 32, 0, [], 7, true, .walk⟩
    let s : State := { spent .running with sweep := { (spent .running).sweep with suspended := [c, { c with line := 5, pass := 6 }] } }
    ready (asked s 0x42 []) .sweepStop [] = true ∧ s.sweep.state ∈ [SweepState.running, .waiting, .paused] ∧
      (s.sweep.suspended.filter fun c => s.sweep.underWay && c.startedInPass && c.pass == s.sweep.passNumber) = [c] := by decide

/-- `TicketAcknowledged`, `TicketCommands`: number 41, which one entry holds, and 42, which none does; the states of an entry; a note of 24
characters and one of 25; a selector of 1 and of 2. -/
theorem witness_ticket_commands :
    let s : State := { base with tickets := ⟨[ticket41], 42, 0, true⟩ }
    ready (asked s 0x51 [0, 41]) .ticketAck [0, 41] = true ∧ ready (asked s 0x52 [0, 42]) .ticketClose [0, 42] = true ∧
      s.tickets.entries = [] ++ ticket41 :: [] ∧ ticket41.number = 41 ∧ (∀ t ∈ s.tickets.entries, t.number ≠ 42) ∧
      ticket41.state = .opened ∧ ({ ticket41 with state := .cleared } : Ticket).state = .cleared ∧
      s.tickets.entries.Pairwise (fun t u => t.number ≠ u.number) ∧
      ready (asked s 0x50 [1, 0, 40]) .ticketRead [1, 0, 40] = true ∧ 40 < ticket41.number ∧
      (∀ u ∈ s.tickets.entries, 40 < u.number → ticket41.number ≤ u.number) ∧ (∀ t ∈ s.tickets.entries, t.number ≤ 41) ∧
      ready (asked s 0x50 [2, 0, 40]) .ticketRead [2, 0, 40] = true ∧
      ready (asked s 0x53 ([0, 41, 24] ++ List.replicate 24 0x41)) .ticketNote ([0, 41, 24] ++ List.replicate 24 0x41) = true ∧
      ready (asked s 0x53 ([0, 41, 25] ++ List.replicate 25 0x41)) .ticketNote ([0, 41, 25] ++ List.replicate 25 0x41) = true := by
  decide

/-- `TicketCommands`: a note of one character less than its count. -/
theorem witness_short_note :
    ready (asked base 0x53 [0, 41, 2, 0x41]) .ticketNote [0, 41, 2, 0x41] = true ∧ ([0x41] : Bytes).length < (2 : Byte).toNat := by decide

/-- `ParametersAndStatus`: a value at the top of its range and one above it; a channel in a test and a part at rest; an order held. -/
theorem witness_parameters :
    ready (asked base 0x60 [5, 0, 0, 0, 254]) .setParam [5, 0, 0, 0, 254] = true ∧
      ready (asked base 0x60 [5, 0, 0, 0, 255]) .setParam [5, 0, 0, 0, 255] = true ∧
      ready (asked base 0x60 [15, 0, 0, 0, 1]) .setParam [15, 0, 0, 0, 1] = true ∧
      ¬ ((base.chan 0).stage = .idle ∨ (base.chan 0).stage = .outOfService) ∧
      (∀ h, h < 4 → ((spent .stopped).chan h).stage = .idle ∨ ((spent .stopped).chan h).stage = .outOfService) ∧
      base.hold = [] ∧ flushing.hold ≠ [] ∧ ready (asked base 0x61 []) .status [] = true := by decide +kernel

/-- `WarmRestart`: with no restart release outstanding and with one; a channel in each group of stages. -/
theorem witness_restart :
    ready (asked base 0x62 []) .restart [] = true ∧ (∀ b, b < 8 → (base.bus b).state ≠ .claimedRestart) ∧
      (∃ b, b < 8 ∧ (({ base with buses := [(3, { Bus.cold with state := .claimedRestart })] } : State).bus b).state = .claimedRestart) ∧
      (base.chan 0).stage.active = true ∧ (base.chan 1).stage ∈ [Stage.idle, .outOfService] ∧
      ((releasing false routine705).chan 0).stage = .releasing := by decide

/-- `WarmRestart`, the notice queue: an unsolicited head that Port U sends, one that it does not, a response behind each, and a calibration
run to answer. -/
theorem witness_restart_notices :
    let s : State := { running .refV with desk.notices := [⟨0, .ticket, 0, []⟩, ⟨9, .response, 0, []⟩, ⟨0, .sweep, 0, []⟩] }
    let sends : State := { s with link.portU.sending := some .own }
    ready (asked s 0x62 []) .restart [] = true ∧ ready (asked sends 0x62 []) .restart [] = true ∧
      s.link.portU.sending ≠ some .own ∧ sends.link.portU.sending ≠ none ∧ (s.chan 0).stage = .calibrating ∧
      (∀ b, b < 8 → (s.bus b).state ≠ .claimedRestart) := by decide

/-- R183: an unsolicited head that Port U does not send goes, one that it sends stays; the responses stay in their order. -/
theorem test_kept_notices :
    let t : Notice := ⟨0, .ticket, 0, []⟩
    let r : Byte → Notice := fun tag => ⟨tag, .response, 0, []⟩
    keptNotices false [t, r 9, t, r 7] = [r 9, r 7] ∧ keptNotices true [t, r 9, t, r 7] = [t, r 9, r 7] := by decide

/-- `WarmRestart`, its acts: a tapped channel with its bus and line, a calibration run, a held order of a line without a flush. -/
theorem witness_restart_acts :
    (base.chan 0).stage.active = true ∧ (base.chan 0).bus = some 0 ∧ (base.bus 0).commanded = some 705 ∧
      ((running .refV).chan 0).stage = .calibrating ∧ ((running .refV).chan 0).run.isSome = true ∧
      ((running .refV).chan 0).calPhase = some .refV ∧
      (∃ q ∈ ({ base with hold := [⟨order 5 3, 5, 0, 4000⟩] } : State).hold, q.line = 5) ∧
      (∀ f ∈ base.flushes, f.line ≠ 5) := by decide

end Sys2Proof.Tests
end

/-! PROOFS of the family of the line table: the invariants of the lines and their tickets, the Order Screen and the highway's Port S,
the line table's events and commands, and the sweep's pass start and start attempt.

The proofs are elaborated one after another: started all at once, so many short proofs exceed the threads a process is given. -/

section Sequential
set_option Elab.async false

namespace Sys2Proof.Machine

/-! ## Properties that no act takes away -/

/-- R2 for one line: of class 0 it is UNKNOWN or CARD_DOWN. -/
def LineRec.Untracked (r : LineRec) : Prop := r.cls = 0 → r.condition = .unknown ∨ r.condition = .cardDown

/-- A record that may take the place of another without a ticket coming or going: the open-ticket count stays, a hazard flag
is not lost, and an untracked line stays untracked. -/
structure LineRec.Follows (r q : LineRec) : Prop where
  count : r.ticketCount = q.ticketCount
  hazard : q.hazard = true → r.hazard = true
  untracked : q.Untracked → r.Untracked

/-- Every result names a class of `K`. -/
def ClassesIn (K : FaultClass → Prop) (rs : List StepResult) : Prop := ∀ r ∈ rs, K r.cls

theorem ClassesIn.nil {K : FaultClass → Prop} : ClassesIn K [] := fun _ hm => nomatch hm

/-- A property of the lines, the tickets, the loaded steps and the results on record that every single write of the machine keeps.
`K` holds of the fault classes that a raise may name without more ado; FOREIGN_VOLTAGE is raised by a trip alone (R144). -/
structure Durable (K : FaultClass → Prop) (P : State → Prop) : Prop where
  known : ∀ {c}, c ≠ .foreignVoltage → K c
  loaded : ∀ {s i r}, P s → s.stepRec i = some r → K r.cls
  running : ∀ {s h t}, P s → (s.chan h).test = some t → ClassesIn K t.results
  suspended : ∀ {s}, P s → ∀ c ∈ s.sweep.suspended, ClassesIn K c.results
  frame : ∀ {s t}, P s → t.lines = s.lines → t.tickets = s.tickets → t.steps = s.steps → t.chans = s.chans →
    t.sweep.suspended = s.sweep.suspended → P t
  line : ∀ {s l r}, P s → r.Follows (s.line l) → P (s.setLine l r)
  chan : ∀ {s h c}, P s → (∀ t, c.test = some t → ClassesIn K t.results) → P (s.setChan h c)
  sweep : ∀ {s} {w : Sweep}, P s → (∀ c ∈ w.suspended, ClassesIn K c.results) → P { s with sweep := w }
  step : ∀ {s i r}, P s → (∀ q, r = some q → K q.cls) → P (s.setStepRec i r)
  raise : ∀ {s k n c e}, P s → K c → P (s.raise k n c e)
  tripped : ∀ {s l e}, P s → P ((s.setLine l { s.line l with hazard := true }).raise .line l .foreignVoltage e)
  put : ∀ {s t u}, P s → t ∈ s.tickets.entries → u.number = t.number → u.kind = t.kind → u.subject = t.subject →
    u.cls = t.cls → P (s.putTicket t.number u)
  close : ∀ {s t}, P s → t ∈ s.tickets.entries → P (s.closeTicket t)
  unhazard : ∀ {s l}, P s → s.findTicket .line l .foreignVoltage = none → P (s.setLine l { s.line l with hazard := false })
  boundary : ∀ {s}, P s → P s.flapBoundary
  released : ∀ {s}, P s → P s.released
  reset : ∀ q, P { State.reset with pending := q }

namespace Durable

variable {K : FaultClass → Prop} {P : State → Prop} (h : Durable K P)
include h

/-! ### Writes that P does not see -/

theorem other {s t : State} (hp : P s) (hl : t.lines = s.lines := by simp) (ht : t.tickets = s.tickets := by simp)
    (hs : t.steps = s.steps := by simp) (hc : t.chans = s.chans := by simp)
    (hw : t.sweep.suspended = s.sweep.suspended := by simp) : P t := h.frame hp hl ht hs hc hw

/-- The Sweep Unit's state is written, the suspend list kept. -/
theorem sweepOnly {s : State} {w : Sweep} (hp : P s) (hw : w.suspended = s.sweep.suspended := by rfl) :
    P { s with sweep := w } := h.frame hp rfl rfl rfl rfl hw

/-- A channel is written, its test kept. -/
theorem sameTest {s : State} {n : Nat} {c : Channel} (hp : P s) (hc : c.test = (s.chan n).test := by simp) :
    P (s.setChan n c) := h.chan hp fun _ ht => h.running hp (hc ▸ ht)

/-- A channel is written without a test. -/
theorem noTest {s : State} {n : Nat} {c : Channel} (hp : P s) (hc : c.test = none := by rfl) :
    P (s.setChan n c) := h.chan hp fun _ ht => nomatch hc ▸ ht

theorem wantAttempt {s : State} (hp : P s) : P s.wantAttempt := h.sweepOnly hp

theorem setBus {s : State} {b r} (hp : P s) : P (s.setBus b r) := h.other hp

theorem notify {s : State} {k b} (hp : P s) : P (s.notify k b) := h.other hp

theorem respond {s : State} {t r b} (hp : P s) : P (s.respond t r b) := h.other hp

theorem offer {s : State} {b t} (hp : P s) : P (s.offer b t) := h.other hp

/-! ### Lines -/

theorem access {s : State} {l a} (hp : P s) : P (s.setAccess l a) := h.line hp ⟨rfl, id, id⟩

/-- A condition is written that the line may take (R2). -/
theorem condition {s : State} {l c} (hp : P s) (hc : (s.line l).cls ≠ 0 ∨ c = .unknown ∨ c = .cardDown) :
    P (s.setCondition l c) := h.line hp ⟨rfl, id, fun _ h0 => hc.resolve_left (not_not_intro h0)⟩

theorem writeRoutine {s : State} {l p o} (hp : P s) : P (s.writeRoutine l p o) := h.line hp ⟨rfl, id, id⟩

theorem commit {s : State} {f} (hp : P s) : P (s.commit f) := by
  unfold State.commit
  split
  · split
    · exact hp
    · exact h.condition hp (.inl ‹_›)
  · exact hp

/-! ### The hold queue and the flushes -/

theorem endFlush {s : State} {f} (hp : P s) : P (s.endFlush f) := by
  dsimp only [State.endFlush]
  have hf : P { s with flushes := s.flushes.filter fun g => g.line != f.line } := h.other hp
  split
  · exact h.access hf
  · exact hf

theorem runFlush {s : State} {l} (n : Nat) (hp : P s) : P (State.runFlush n l s) := by
  induction n generalizing s with
  | zero => exact hp
  | succ n ih =>
    dsimp only [State.runFlush]
    split
    · exact hp
    split
    · exact hp
    split
    · exact h.endFlush hp
    split
    · exact hp
    have ho : ∀ r : HoldRec, P (State.offer { s with hold := s.hold.eraseP fun r => r.line == l } r.frame (.flush l)) :=
      fun r => h.other hp
    split
    · exact ih (h.commit (ho _))
    · exact h.other hp

theorem flushOn {s : State} {l} (hp : P s) : P (s.flushOn l) := h.runFlush _ hp

theorem beginFlush {s : State} {l b} (hp : P s) : P (s.beginFlush l b) := h.flushOn (h.other hp)

theorem releasePath {s : State} {l b} (hp : P s) : P (s.releasePath l b) := by
  unfold State.releasePath
  split
  · exact h.access (h.other hp)
  · split
    · exact h.beginFlush (h.access hp)
    · exact h.access hp

theorem lapse {s : State} {n r} (hp : P s) : P (s.lapse n r) := by
  dsimp only [State.lapse, State.endIfDone]
  have hn : P (State.notify { s with hold := s.hold.eraseIdx n } .orderLapsed
    (byte1 LapseCause.timeout.code ++ orderBody r.frame ++ byte4 (s.now - r.arrival).toNat)) := h.other hp
  split
  · split
    · exact h.endFlush hn
    · exact hn
  · exact hn

theorem offerEnters {s : State} {f r} (hp : P s) : P (s.offerEnters f r) := by
  dsimp only [State.offerEnters]
  have he : P (State.enterSOwn { s with link.offers := r } f) := h.other hp
  split
  · split
    · exact h.flushOn (h.other (h.commit (f := f.bytes) he))
    · exact h.commit he
  all_goals exact he

/-! ### Tests taken and given up -/

theorem claimAndTap {s : State} {n l b} (hp : P s) : P (s.claimAndTap n l b) := by
  dsimp only [State.claimAndTap, State.beginTapping]
  exact h.setBus (h.offer (h.sameTest (h.access (h.setBus (h.setBus hp)))))

theorem startTest {s : State} {n b t o} (hp : P s) (ht : ClassesIn K t.results) : P (s.startTest n b t o) :=
  h.claimAndTap (h.chan hp fun _ he => Option.some.inj he ▸ ht)

theorem release {s : State} {n l b} (hp : P s) : P (s.release n l b) := by
  dsimp only [State.release]
  exact h.setBus (h.offer (h.offer (h.access (h.sameTest hp))))

theorem endByCause {s : State} {n o} (hp : P s) : P (s.endByCause n o) := by
  dsimp only [State.endByCause]
  split
  · split
    · rename_i t _ ht _
      exact h.release (h.chan hp fun _ he => by
        cases he; exact (h.running hp ht : ClassesIn K t.results))
    · exact hp
  · exact hp

theorem yieldTrigger {s : State} {l} (hp : P s) : P (s.yieldTrigger l) := by
  unfold State.yieldTrigger
  split
  · split
    · exact h.endByCause hp
    · exact hp
  · exact hp

theorem screen {s : State} {f o} (hp : P s) : P (s.screen f o) := by
  have hh : P (s.holdOrder f o.line) := h.other hp
  dsimp only [State.screen]
  split
  any_goals exact h.notify hp
  all_goals
    split
    any_goals exact h.commit (h.other hp)
    any_goals exact hh
    all_goals
      split
      · exact h.yieldTrigger hh
      · exact hh

/-! ### The Sweep Unit -/

theorem count {s : State} {g} (hp : P s) : P (s.count g) := by
  unfold State.count
  split
  · exact h.sweepOnly hp
  · exact hp

theorem missLine {s : State} {l} (hp : P s) : P (s.missLine l) := h.writeRoutine (h.count hp)

theorem offerSuspect {s : State} {l p r} (hp : P s) : P (s.offerSuspect l p r) := by
  unfold State.offerSuspect
  split
  · exact hp
  · exact hp
  · exact h.count hp
  · exact h.other hp

theorem deferLine {s : State} {l p} (hp : P s) : P (s.deferLine l p) := h.count (h.sweepOnly hp)

theorem countYield {s : State} {e} (hp : P s) : P (s.countYield e) := by
  unfold State.countYield
  split
  · split
    · exact h.deferLine hp
    · exact h.count hp
  · split
    · exact h.deferLine hp
    · exact h.count hp
  · exact h.count hp
  · exact hp

theorem bookEnd {s : State} {e} (hp : P s) : P (s.bookEnd e) := by
  dsimp only [State.bookEnd]
  split
  · split
    · exact h.countYield (h.writeRoutine hp)
    · exact h.writeRoutine hp
  · split
    · exact h.count (h.writeRoutine hp)
    · exact h.writeRoutine hp

theorem clear {s : State} {k n c} (hp : P s) : P (s.clearTicket k n c) := by
  unfold State.clearTicket
  split
  · rename_i t ht
    split
    · exact hp
    · exact h.notify (h.put hp (List.mem_of_find?_eq_some ht) rfl rfl rfl rfl)
  · exact hp

theorem originActions {s : State} {e} (hp : P s) (he : ClassesIn K e.results) : P (s.originActions e) := by
  unfold State.originActions
  split
  · split
    · exact h.offerSuspect hp
    · exact hp
  · split
    · exact h.offerSuspect hp
    · exact hp
  · split
    · rename_i r hr
      split
      · exact h.raise hp (he r (List.mem_of_find?_eq_some hr))
      · exact hp
    · exact hp
  · split
    · exact h.clear hp
    · exact hp
  · exact hp
  · exact hp

theorem routineEnded {s : State} {e} (hp : P s) (he : ClassesIn K e.results) : P (s.routineEnded e) :=
  h.sweepOnly (h.originActions (h.bookEnd hp) he)

theorem discardContext {s : State} {c} (hp : P s) : P (s.discardContext c) := by
  unfold State.discardContext
  split
  · exact h.writeRoutine (h.count hp)
  · exact hp

theorem pushContext {s : State} {c} (hp : P s) (hc : ClassesIn K c.results) : P (s.pushContext c) := by
  unfold State.pushContext
  split
  · exact h.discardContext hp
  · refine h.sweep hp fun d hd => ?_
    rcases List.mem_append.1 hd with hd | hd
    · exact h.suspended hp d hd
    · exact List.mem_singleton.1 hd ▸ hc

theorem endDrain {s : State} (hp : P s) : P s.endDrain := by
  unfold State.endDrain
  split
  · exact h.other hp
  · exact hp

omit h in
theorem fold {α : Type} {f : State → α → State} (L : List α) {s : State} (hp : P s)
    (hf : ∀ s a, P s → P (f s a)) : P (L.foldl f s) := by
  induction L generalizing s with
  | nil => exact hp
  | cons a L ih => exact ih (hf s a hp)

theorem requestAudit {s : State} {c} (hp : P s) : P (s.requestAudit c) := h.other hp

theorem startPass {s : State} (hp : P s) : P s.startPass := h.other hp (hw := by simp [State.startPass])

theorem endPass {s : State} (hp : P s) : P s.endPass := h.sweepOnly (h.notify hp)

theorem walked {s : State} {r l k} (hp : P s) : P (s.walked r l k) := by
  dsimp only [State.walked]
  split
  · exact h.sweepOnly (h.sweepOnly (h.notify hp))
  · exact h.sweepOnly hp

theorem requestRoutine {s u : State} {t o} (hp : P s) (ht : ClassesIn K t.results) (hr : s.requestRoutine t o = .started u) :
    P u := by
  unfold State.requestRoutine at hr
  split at hr
  · cases hr
  · split at hr
    · cases hr; exact h.startTest hp ht
    · cases hr
    · cases hr

theorem sendReport {s : State} {r} (hp : P s) : P (s.sendReport r) := h.other hp

theorem yieldContext {s : State} {c} (hp : P s) (hc : ClassesIn K c.results) : P (s.yieldContext c) :=
  h.routineEnded (h.sendReport hp) hc

open SweepFree (carried)

/-- A fresh routine test has no results yet. -/
theorem fresh {s u v : State} {l p o} (hp : P s) (hr : s.requestRoutine (u.routineRecord l p) o = .started v) : P v :=
  h.requestRoutine hp ClassesIn.nil hr

theorem serveContext {s : State} (hp : P s) : P (carried s.serveContext) := by
  dsimp only [State.serveContext]
  split
  · exact hp
  split
  · exact hp
  rename_i c rest hs
  have hall : ∀ d ∈ c :: rest, ClassesIn K d.results := hs ▸ h.suspended hp
  have hrest : ∀ d ∈ rest, ClassesIn K d.results := fun d hd => hall d (by simp [hd])
  have hc : ClassesIn K c.results := hall c (by simp)
  have hy : P (State.yieldContext { s with sweep.suspended := rest } c) := h.yieldContext (h.sweep hp hrest) hc
  have hd : P (carried (if (State.yieldContext { s with sweep.suspended := rest } c).passDone && !s.passDone
      then .ended (State.yieldContext { s with sweep.suspended := rest } c)
      else .handled { State.yieldContext { s with sweep.suspended := rest } c with sweep.attemptDue := false })) := by
    split
    · exact hy
    · exact h.sweepOnly hy
  split
  · split
    · exact h.sweep (h.requestRoutine hp hc ‹_›) hrest
    · exact hp
    · exact hp
    · exact hd
  · exact hd

theorem serveSuspect {s : State} {m} (hp : P s) : P (carried (s.serveSuspect m).1) := by
  dsimp only [State.serveSuspect]
  split
  · exact hp
  split
  · exact hp
  split
  · exact hp
  split
  · exact h.sweepOnly hp
  split
  · split
    · exact h.sweepOnly (h.fresh hp ‹_›)
    · exact hp
    · exact hp
    · exact h.missLine (h.sweepOnly hp)
  split
  · exact h.missLine (h.sweepOnly hp)
  · exact h.sweepOnly hp

theorem serveWalk {s : State} (hp : P s) : P (carried s.serveWalk) := by
  dsimp only [State.serveWalk]
  split
  · exact hp
  · exact hp
  split
  · exact hp
  split
  · exact h.walked hp
  split
  · exact h.walked (h.count hp)
  split
  · exact h.walked (h.count hp)
  split
  · exact h.walked (h.count hp)
  split
  · split
    · exact h.walked (h.deferLine hp)
    · exact h.walked (h.missLine hp)
  split
  · exact h.walked (h.fresh hp ‹_›)
  · exact hp
  · exact hp
  · exact h.walked (h.missLine hp)

theorem serveRevisit {s : State} (hp : P s) : P (carried s.serveRevisit) := by
  dsimp only [State.serveRevisit]
  split
  · exact hp
  split
  · exact hp
  split
  · exact h.sweepOnly hp
  split
  · split
    · exact h.sweepOnly (h.fresh hp ‹_›)
    · exact hp
    · exact hp
    · exact h.missLine (h.sweepOnly hp)
  · exact h.missLine (h.sweepOnly hp)

theorem contextsOn {s : State} (n : Nat) (hp : P s) : P (carried (State.contextsOn n s)) := by
  induction n generalizing s with
  | zero => exact hp
  | succ n ih =>
    have hs := h.serveContext hp
    unfold State.contextsOn
    split
    · rename_i heq; rw [heq] at hs; exact ih hs
    · exact hs

theorem suspectsOn {s : State} (n : Nat) {m} (hp : P s) : P (carried (State.suspectsOn n s m).1) := by
  induction n generalizing s m with
  | zero => exact hp
  | succ n ih =>
    have hs := h.serveSuspect (m := m) hp
    unfold State.suspectsOn
    split
    · rename_i heq; rw [heq] at hs; exact ih hs
    · exact hs

theorem walkOn {s : State} (n : Nat) (hp : P s) : P (carried (State.walkOn n s)) := by
  induction n generalizing s with
  | zero => exact hp
  | succ n ih =>
    have hs := h.serveWalk hp
    unfold State.walkOn
    split
    · rename_i heq; rw [heq] at hs; exact ih hs
    · exact hs

theorem revisitsOn {s : State} (n : Nat) (hp : P s) : P (carried (State.revisitsOn n s)) := by
  induction n generalizing s with
  | zero => exact hp
  | succ n ih =>
    have hs := h.serveRevisit hp
    unfold State.revisitsOn
    split
    · rename_i heq; rw [heq] at hs; exact ih hs
    · exact hs

theorem serve {s : State} {m} (hp : P s) : P (carried (s.serve m).1) := by
  unfold State.serve
  have h1 := h.contextsOn (s.sweep.suspended.length + 1) hp
  split
  · rename_i s1 heq
    rw [heq] at h1
    have h2 := h.suspectsOn (s := s1) (s1.sweep.suspects.length + 1) (m := m) h1
    split
    · rename_i s2 m' heq2
      rw [heq2] at h2
      have h3 := h.walkOn (s := s2) (candidates s2.sweep.config.ranges + 1) h2
      split
      · rename_i s3 heq3
        rw [heq3] at h3
        exact h.revisitsOn _ h3
      · exact h3
    · exact h2
  · exact h1

theorem attempt {s : State} (n : Nat) {m} (hp : P s) : P (State.attempt n m s) := by
  induction n generalizing s m with
  | zero => exact hp
  | succ n ih =>
    unfold State.attempt
    have hs := h.serve (m := m) hp
    split <;> rename_i heq <;> rw [heq] at hs
    · exact ih hs
    all_goals exact hs

theorem attemptIfDue {s : State} (hp : P s) : P s.attemptIfDue := by
  unfold State.attemptIfDue
  split
  · exact h.attempt _ (h.sweepOnly hp)
  · exact hp

theorem beginPass {s : State} (hp : P s) : P s.beginPass := h.attemptIfDue (h.startPass hp)

theorem settleWith {s : State} (n : Nat) {last} (hp : P s) : P (State.settleWith n last s) := by
  induction n generalizing s last with
  | zero => exact hp
  | succ n ih =>
    unfold State.settleWith
    have hd := h.endDrain hp
    have he := h.endPass hd
    have hi : ∀ ms, P (s.endDrain.endPass.startInterval ms) := fun _ => h.sweepOnly he
    dsimp only
    split
    · split
      · split
        · exact ih (hi _)
        · exact ih (h.beginPass he)
      · exact ih (hi _)
    · split
      · exact ih (h.attemptIfDue hd)
      · exact hd

theorem settle {s : State} (hp : P s) : P s.settle := h.settleWith _ hp

theorem runPass {s : State} (hp : P s) : P s.runPass := h.settleWith _ (h.beginPass hp)

/-! ### The Line Table's part in events -/

theorem countedTransition {s : State} {l} (hp : P s) : P (s.countedTransition l) := by
  dsimp only [State.countedTransition]
  split
  · exact h.offerSuspect (h.raise (h.line hp ⟨rfl, id, id⟩) (h.known nofun))
  · exact h.line hp ⟨rfl, id, id⟩

theorem loopEvent {s : State} {l e} (hp : P s) : P (s.loopEvent l e) := by
  dsimp only [State.loopEvent]
  split
  · exact hp
  split
  · exact hp
  rename_i hcls _ c counted _
  have h1 : P (s.setCondition l c) := h.condition hp (.inl hcls)
  have h2 : P (if counted then (s.setCondition l c).countedTransition l else s.setCondition l c) := by
    split
    · exact h.countedTransition h1
    · exact h1
  split
  · exact h.yieldTrigger h2
  · exact h2

theorem setCardCondition {s : State} {n c} (hp : P s) (hc : c = .unknown ∨ c = .cardDown) : P (s.setCardCondition n c) :=
  fold _ hp fun _ _ hp => h.condition hp (.inr hc)

theorem cardDown {s : State} {n} (hp : P s) : P (s.cardDown n) :=
  h.raise (h.setCardCondition hp (.inr rfl)) (h.known nofun)

theorem cardOk {s : State} {n} (hp : P s) : P (s.cardOk n) :=
  h.requestAudit (h.clear (h.setCardCondition hp (.inl rfl)))

omit h in
/-- A CARD_STATE answer tracks equipped lines only (R2, R12). -/
theorem onCardState_follows (l : LineRec) (b : Bool) : (l.onCardState b).Follows l := by
  unfold LineRec.onCardState
  split
  · exact ⟨rfl, id, id⟩
  · split
    all_goals exact ⟨rfl, id, fun _ h0 => absurd h0 ‹_›⟩

theorem cardState {s : State} {n b} (hp : P s) : P (s.cardState n b) := by
  dsimp only [State.cardState]
  have h1 : P ((circuitsOf n).foldl (fun s l => s.setLine l ((s.line l).onCardState (closedIn b l))) s) :=
    fold _ hp fun _ _ hp => h.line hp (onCardState_follows _ _)
  have h2 : ∀ L : List Nat, ∀ u, P u → P ((u.inFreeOrder L).1.foldl State.yieldTrigger (u.inFreeOrder L).2) :=
    fun L u hu => fold _ (h.other hu) fun _ _ hp => h.yieldTrigger hp
  split
  · exact h.other (h2 _ _ h1) (hl := rfl)
  · exact h2 _ _ h1

/-! ### The end of a test and of a release -/

theorem noteIdle {s : State} {n} (hp : P s) : P (s.noteIdle n) := by
  unfold State.noteIdle
  split
  · exact h.sweepOnly hp
  · exact hp

theorem endTest {s : State} {n} (hp : P s) : P (s.endTest n) := by
  dsimp only [State.endTest]
  have h1 : P ((s.setChan n (s.chan n).givenUp).noteIdle n) := h.noteIdle (h.noTest hp)
  split
  · exact h1
  rename_i t ht
  have h2 : P (((s.setChan n (s.chan n).givenUp).noteIdle n).answerAbort n (s.chan n).pendingAbort t) := by
    unfold State.answerAbort
    split
    · split
      · exact h.respond h1
      · exact h.other h1
    · exact h1
  split
  · exact h2
  split
  · exact h.sendReport h2
  · exact h.routineEnded (h.sendReport h2) (h.running hp ht)

theorem finishRelease {s : State} {n} (hp : P s) : P (s.finishRelease n) := by
  dsimp only [State.finishRelease]
  split
  · exact h.endTest hp
  rename_i t ht
  split
  · have h1 : P (s.setChan n { s.chan n with releaseLine := none, handover := false }) := h.sameTest hp
    split
    · exact h.claimAndTap h1
    · refine h.endTest (h.releasePath (h.chan h1 fun _ he => ?_))
      cases he; exact (h.running hp ht : ClassesIn K t.results)
  · split
    · exact h.endTest (h.releasePath (h.sameTest hp))
    · exact h.endTest hp

theorem freeClaim {s : State} {b p} (hp : P s) : P (s.freeClaim b p) := by
  dsimp only [State.freeClaim]
  split
  · exact h.sweepOnly (h.setBus hp)
  · exact h.setBus hp

theorem completeRelease {s : State} {n b l} (hp : P s) : P (s.completeRelease n b l) :=
  h.finishRelease (h.releasePath (h.sameTest (h.freeClaim hp)))

theorem stickRelay {s : State} {b l} (hp : P s) : P (s.stickRelay b l) :=
  h.releasePath (h.raise (h.setBus hp) (h.known nofun))

theorem timeOutRelease {s : State} {n b l} (hp : P s) : P (s.timeOutRelease n b l) :=
  h.finishRelease (h.stickRelay (h.sameTest hp))

/-! ### Protection, calibration, the running of a plan -/

theorem trip {s : State} {n} (hp : P s) : P (s.trip n) := by
  dsimp only [State.trip]
  split
  · exact hp
  · exact h.tripped (h.endByCause (h.sameTest hp))

theorem assessUsed {s : State} {n t k r} (hp : P s) : P (s.assessUsed n t k r) := by
  dsimp only [State.assessUsed]
  have h1 : ∀ c, P (s.setHeadCal n c) := fun _ => h.other hp
  split
  · exact h.raise (h1 _) (h.known nofun)
  · exact h1 _

theorem assessHead {s : State} {n} (hp : P s) : P (s.assessHead n) := by
  dsimp only [State.assessHead]
  have h1 : ∀ c, P (s.setHeadCal n c) := fun _ => h.other hp
  split
  · exact h.raise (h1 _) (h.known nofun)
  · exact h1 _

theorem tickHour {s : State} (hp : P s) : P s.tickHour :=
  fold _ (fold _ hp fun _ _ hp => h.other hp) fun _ _ hp => h.assessHead hp

theorem beginPhase {s : State} {n p} (hp : P s) : P (s.beginPhase n p) := h.offer (h.sameTest hp)

theorem beginRun {s : State} {n t} (hp : P s) : P (s.beginRun n t) := h.beginPhase (h.sameTest hp)

theorem idleHead {s : State} {n} (hp : P s) : P (s.idleHead n) := h.offer (h.sameTest hp)

theorem leaveRun {s : State} {n b} (hp : P s) : P (s.leaveRun n b) := h.noteIdle (h.sameTest hp)

theorem failRun {s : State} {n c} (hp : P s) : P (s.failRun n c) := by
  dsimp only [State.failRun]
  have h1 : P (if c = .restart then s.idleHead n else (s.idleHead n).raise .head n .headCalFail none) := by
    split
    · exact h.idleHead hp
    · exact h.raise (h.idleHead hp) (h.known nofun)
  split
  · exact h.respond (h.leaveRun h1)
  · exact h.leaveRun h1

theorem finishRun {s : State} {n r v i j t} (hp : P s) : P (s.finishRun n r v i j t) := by
  have h1 : ∀ c, P ((s.idleHead n).setHeadCal n c) := fun _ => h.frame (h.idleHead hp) rfl rfl rfl rfl rfl
  exact h.respond (h.leaveRun (h.clear (h.clear (h.clear (h1 _)))))

theorem setRun {s : State} {n r} (hp : P s) : P (s.setRun n r) := h.sameTest hp

theorem phaseDone {s : State} {n w} (hp : P s) : P (s.phaseDone n w) := by
  dsimp only [State.phaseDone]
  split
  · exact h.beginPhase (h.setRun hp)
  · exact h.beginPhase (h.setRun hp)
  · split
    · exact h.failRun hp
    · exact h.beginPhase (h.setRun hp)
  · split
    · exact h.failRun hp
    · exact h.beginPhase (h.setRun hp)
  · split
    · exact h.failRun hp
    · split
      · exact h.finishRun hp
      · exact hp
  · exact hp

theorem beginRepetition {s : State} {n r p} (hp : P s) : P (s.beginRepetition n r p) := h.offer (h.sameTest hp)

theorem beginStep {s : State} {n i p} (hp : P s) : P (s.beginStep n i p) := by
  unfold State.beginStep
  split
  · exact h.beginRepetition hp
  · exact hp

theorem resultTickets {s : State} {t r x} (hp : P s) (hx : K x.cls) : P (s.resultTickets t r x) := by
  dsimp only [State.resultTickets]
  split
  · exact h.raise hp hx
  · split
    · exact h.clear (h.clear hp)
    · exact h.clear hp
  all_goals exact hp

theorem formResult {s : State} {n t r p x} (hp : P s) (ht : ClassesIn K t.results) (hx : K x.cls) :
    P (s.formResult n t r p x) := by
  dsimp only [State.formResult]
  have h1 : P (s.setChan n { s.chan n with test := some { t with results := t.results ++ [x] } }) := by
    refine h.chan hp fun _ he => ?_
    cases he
    intro q hq
    rcases List.mem_append.1 hq with hq | hq
    · exact ht q hq
    · exact List.mem_singleton.1 hq ▸ hx
  generalize s.setChan n { s.chan n with test := some { t with results := t.results ++ [x] } } = u at h1
  have h2 : P (if r.notify then u.stepNotice n t p.position x else u) := by
    split
    · exact h.notify h1
    · exact h1
  have h3 := h.resultTickets (t := t) (r := r) h2 hx
  split
  · exact h.endByCause h3
  · split
    · exact h.endByCause h3
    · exact h.beginStep h3

/-- A verdict names the step's own class, or FOREIGN_BATTERY (R131). -/
theorem judge_known {r : StepRec} {l d un u m} (hr : K r.cls) : K (judge r l d un u m).2 := by
  unfold judge
  split
  · exact hr
  split
  · exact hr
  split
  · exact h.known nofun
  split
  · exact hr
  split <;> exact hr

theorem evaluate {s : State} {n t r p w} (hp : P s) (ht : ClassesIn K t.results) (hr : K r.cls) :
    P (s.evaluate n t r p w) := by
  dsimp only [State.evaluate]
  split
  · exact h.beginRepetition (h.assessUsed hp)
  · exact h.formResult (h.assessUsed hp) ht (h.judge_known hr)

theorem windowDone {s : State} {n w} (hp : P s) : P (s.windowDone n w) := by
  dsimp only [State.windowDone]
  split
  · split
    · exact h.evaluate hp (h.running hp ‹_›) (h.loaded hp ‹_›)
    · exact hp
  · exact hp

/-! ### Sample Intake -/

omit h in
@[simp] theorem addQuals_test (c : Channel) (q : Quals) : (c.addQuals q).test = c.test := rfl

omit h in
@[simp] theorem heard_test (c : Channel) (n : Time) (t q : Nat) (x : Int) : (c.heard n t q x).test = c.test := rfl

theorem settleBlock {s : State} {n w p} (hp : P s) : P (s.settleBlock n w p) := by
  dsimp only [State.settleBlock]
  split
  · exact h.sameTest hp (hc := by split <;> rfl)
  · exact h.sameTest hp (hc := by split <;> rfl)
  · split
    · exact h.failRun (h.sameTest hp)
    · exact h.sameTest hp

theorem loss {s : State} {n w p} (hp : P s) : P (s.loss n w p) := by
  dsimp only [State.loss]
  split
  · split
    · exact h.failRun (h.sameTest hp)
    · exact h.endByCause (h.sameTest hp)
  · exact h.settleBlock (h.sameTest hp (hc := by split <;> rfl))

theorem accumulate {s : State} {n w t p} (hp : P s) : P (s.accumulate n w t p) := by
  dsimp only [State.accumulate]
  split
  · split
    · exact h.phaseDone (h.sameTest hp)
    · exact h.windowDone (h.sameTest hp)
  · exact h.sameTest hp

theorem actOnFrame {s : State} {n c t p} (hp : P s) : P (s.actOnFrame n c t p) := by
  unfold State.actOnFrame
  split
  · exact hp
  split
  · exact h.settleBlock hp
  · exact h.settleBlock hp
  · exact h.loss hp
  · exact h.accumulate hp
  · exact h.loss hp
  · exact hp

theorem takeSample {s : State} {x} (hp : P s) : P (s.takeSample x) := by
  dsimp only [State.takeSample, State.handleSample]
  split
  · split
    · exact h.actOnFrame (h.sameTest hp)
    · split
      · exact h.trip (h.sameTest hp)
      · exact h.actOnFrame (h.sameTest hp)
  · exact hp

theorem headSilent {s : State} {n} (hp : P s) : P (s.headSilent n) := by
  dsimp only [State.headSilent]
  have h1 := h.raise (k := .head) (n := n) (c := .headSilent) (e := none)
    (h.sameTest (n := n) (c := { s.chan n with headOut := true }) hp) (h.known nofun)
  split
  · exact h.failRun h1
  · exact h.endByCause h1

/-! ### Relays -/

theorem confirmTap {s : State} {n b l} (hp : P s) : P (s.confirmTap n b l) := by
  dsimp only [State.confirmTap]
  have h1 : ∀ r : Bus, P (((s.setBus b r).setAccess l (.tapped n)).setChan n
      { ((s.setBus b r).setAccess l (.tapped n)).chan n with stage := .sourcing }) :=
    fun _ => h.sameTest (h.access (h.setBus hp))
  split
  · exact h.beginStep (h1 _)
  · exact h1 _

theorem strayMake {s : State} {b l} (hp : P s) : P (s.strayMake b l) :=
  h.setBus (h.offer (h.raise hp (h.known nofun)))

theorem tapMade {s : State} {l b} (hp : P s) : P (s.tapMade l b) := by
  dsimp only [State.tapMade]
  split
  · exact hp
  split
  · exact hp
  split
  · split
    · split
      · exact h.confirmTap hp
      · exact h.setBus hp
    all_goals exact h.setBus hp
  · exact h.strayMake hp

theorem relayDrop {s : State} {n b l} (hp : P s) : P (s.relayDrop n b l) :=
  h.endByCause (h.raise (h.setBus hp) (h.known nofun))

theorem strayBroken {s : State} {l b} (hp : P s) : P (s.strayBroken l b) := h.other hp

theorem completeRestartRelease {s : State} {b l} (hp : P s) : P (s.completeRestartRelease b l) :=
  h.releasePath (h.freeClaim hp)

theorem tapBroken {s : State} {l b} (hp : P s) : P (s.tapBroken l b) := by
  dsimp only [State.tapBroken]
  split
  · exact hp
  split
  · split
    · split
      · exact h.relayDrop hp
      · exact h.strayBroken hp
    · split
      · exact h.relayDrop hp
      · exact h.strayBroken hp
    · split
      · exact h.relayDrop hp
      · exact h.strayBroken hp
    · split
      · exact h.completeRelease hp
      · exact h.strayBroken hp
    all_goals exact h.strayBroken hp
  · split
    · exact h.completeRestartRelease hp
    · exact h.strayBroken hp
  · split
    · exact h.setBus hp
    · exact h.strayBroken hp
  all_goals exact h.strayBroken hp

theorem noMake {s : State} {n l} (hp : P s) : P (s.noMake n l) := h.endByCause (h.raise hp (h.known nofun))

theorem strayTimeout {s : State} {b l} (hp : P s) : P (s.strayTimeout b l) :=
  h.raise (h.setBus hp) (h.known nofun)

/-! ### Highway events -/

theorem dispatchU {s : State} {f} (hp : P s) : P (s.dispatchU f) := by
  unfold State.dispatchU
  split
  · exact h.other hp
  split
  · split
    · exact h.other hp
    · exact h.other hp
  · split
    · exact h.screen hp
    · exact h.other hp

theorem readScanEvent {s : State} {x} (hp : P s) : P (s.readScanEvent x) := by
  unfold State.readScanEvent
  split
  any_goals exact h.loopEvent hp
  · exact h.tapMade hp
  · exact h.tapBroken hp
  · exact h.cardDown hp
  · exact h.cardDown hp
  · exact h.cardOk hp
  · exact h.cardState hp

theorem dispatchS {s : State} {f} (hp : P s) : P (s.dispatchS f) := by
  unfold State.dispatchS
  split
  · rename_i x _
    dsimp only [State.dispatchScan]
    split
    · exact h.readScanEvent hp
    · exact h.other (h.readScanEvent (x := x) hp)
  · split
    · split
      · exact h.takeSample hp
      · exact h.other hp
    · exact h.other hp

theorem startTied {s : State} {f} (hp : P s) : P (s.startTied f) := by
  dsimp only [State.startTied]
  split
  · exact hp
  · exact hp
  · split
    · exact h.setBus hp
    · exact hp
  · split
    · split
      · exact h.setBus hp
      · exact hp
    · exact hp
  · split
    · exact h.other hp
    · exact hp
  · split
    · split
      · exact h.sameTest hp
      · exact h.sameTest hp
    · exact hp

theorem leaveSOwn {s : State} (hp : P s) : P s.leaveSOwn := by
  unfold State.leaveSOwn
  split
  · exact hp
  · rename_i f rest _
    have h1 : P { s with link.sOwn := rest, link.portS := s.link.portS.departed } := h.other hp
    exact h.other (h.startTied (f := f) h1)

/-! ### Desk commands -/

/-- A command that is taken comes to its handler with the property. -/
theorem onCommand {s : State} {c g} (hp : P s) (hg : ∀ tag ps u, P u → P (g tag ps u)) : P (s.onCommand c g) := by
  rcases s.onCommand_cases c g with he | ⟨f, rest, _, _, _, he⟩
  · rw [he]; exact hp
  · rw [he]; exact hg _ _ _ (h.other hp)

omit h in
/-- LOAD_LINES leaves a line of class 0 untracked (R4). -/
theorem load_follows (l : LineRec) (e : LineEntry) : (l.load e).Follows l := by
  unfold LineRec.load
  dsimp only
  split
  · refine ⟨rfl, id, fun _ _ => ?_⟩
    by_cases hc : l.condition = .cardDown <;> simp [hc]
  · rename_i hc
    exact ⟨rfl, id, fun _ h0 => absurd h0 hc⟩

theorem loadLine {s : State} {e} (hp : P s) : P (s.loadLine e) := by
  dsimp only [State.loadLine]
  have h1 : P (s.setLine e.line ((s.line e.line).load e)) := h.line hp (load_follows _ _)
  split
  · exact h.requestAudit h1
  · exact h1

theorem doLoadLines {s : State} {t p} (hp : P s) : P (State.doLoadLines t p s) := by
  unfold State.doLoadLines
  split
  · dsimp only
    split
    · exact h.respond hp
    split
    · exact h.respond hp
    split
    · exact h.respond hp
    · exact h.respond (fold _ hp fun _ _ hp => h.loadLine hp)
  · exact h.respond hp

theorem doInhibit {s : State} {t p} (hp : P s) : P (State.doInhibit t p s) := by
  unfold State.doInhibit
  split
  · split
    · split
      · exact h.respond (h.line hp ⟨rfl, id, id⟩)
      · exact h.respond hp
    · exact h.respond hp
  · exact h.respond hp

theorem doClearHazard {s : State} {t p} (hp : P s) : P (State.doClearHazard t p s) := by
  unfold State.doClearHazard
  split
  · dsimp only
    split
    · split
      · exact h.respond hp
      · exact h.respond (h.unhazard hp ‹_›)
    · exact h.respond hp
  · exact h.respond hp

theorem unstick {s : State} {b} (hp : P s) : P (s.unstick b) := by
  have hr : ∀ l, P (s.restoreLine l) := fun l => by
    unfold State.restoreLine
    split
    · exact h.access hp
    · split
      · exact h.other hp
      · exact hp
    all_goals exact hp
  dsimp only [State.unstick]
  refine h.clear (h.setBus ?_)
  split
  · split
    · exact hp
    · exact hr _
  · exact hp

theorem doClearStuck {s : State} {t p} (hp : P s) : P (State.doClearStuck t p s) := by
  unfold State.doClearStuck
  split
  · dsimp only
    split
    · exact h.respond hp
    split
    · exact h.respond (h.settle (h.sweepOnly (h.unstick (h.setBus hp))))
    split
    · exact h.respond (h.unstick hp)
    · exact h.respond hp
  · exact h.respond hp

omit h in
/-- A step carries one of the six measurement classes (R74, R75). -/
theorem readStep_cls {ps q} (hq : readStep ps = some q) : q.fields.cls ≠ .foreignVoltage := by
  unfold readStep at hq
  split at hq
  · split at hq
    · rename_i hc _ _ _
      split at hq
      · cases hq
        unfold stepClassOf at hc
        split at hc <;> cases hc <;> simp
      · cases hq
    · cases hq
  · cases hq

theorem doLoadStep {s : State} {t p} (hp : P s) : P (State.doLoadStep t p s) := by
  unfold State.doLoadStep
  split
  · exact h.respond hp
  rename_i q hq
  split
  · exact h.respond hp
  · refine h.respond (h.step hp fun r hr => ?_)
    cases hr
    exact h.known (readStep_cls hq)

theorem doLoadPlan {s : State} {t p} (hp : P s) : P (State.doLoadPlan t p s) := by
  unfold State.doLoadPlan
  split
  · split
    · exact h.respond hp
    dsimp only
    split
    · exact h.respond hp
    split
    · exact h.respond hp
    · exact h.respond (h.other hp)
  · exact h.respond hp

theorem preempt {s : State} {n t} (hp : P s) (ht : ClassesIn K t.results) : P (s.preempt n t) := by
  dsimp only [State.preempt]
  split
  · rename_i v _ hv _
    refine h.release (h.access (h.chan (h.pushContext hp (h.running hp hv)) fun _ he => ?_))
    cases he; exact ht
  · exact hp

theorem doTest {s : State} {t p} (hp : P s) : P (State.doTest t p s) := by
  unfold State.doTest
  split
  · exact h.respond hp
  split
  · exact h.respond hp
  split
  · rename_i q _ _ _ _ n u hu
    refine h.respond ?_
    have hn : ClassesIn K (s.urgentRecord q).results := ClassesIn.nil
    unfold State.admitUrgent at hu
    split at hu
    · obtain ⟨b, _, he⟩ := Option.map_eq_some_iff.1 hu
      cases he; exact h.startTest hp hn
    · obtain ⟨b, _, he⟩ := Option.map_eq_some_iff.1 hu
      cases he; exact h.settle (h.preempt hp hn)
  · exact h.respond hp

theorem doAbort {s : State} {t p} (hp : P s) : P (State.doAbort t p s) := by
  unfold State.doAbort
  split
  · exact h.respond hp
  split
  · exact h.respond hp
  rename_i n _
  have hw : P (s.awaitAbort n t) := h.sameTest hp
  unfold State.abortOn
  split
  any_goals exact h.respond hp
  any_goals exact h.endByCause hw
  dsimp only [State.abortHandover]
  split
  · refine h.chan hw fun u hu => ?_
    obtain ⟨v, hv, rfl⟩ := Option.map_eq_some_iff.1 hu
    exact (h.running hw hv : ClassesIn K v.results)
  · exact hw

theorem doReturnHead {s : State} {t p} (hp : P s) : P (State.doReturnHead t p s) := by
  unfold State.doReturnHead
  split
  · split
    · exact h.respond hp
    split
    · exact h.respond (h.settle (h.clear (h.noteIdle (h.sameTest hp))))
    · exact h.respond hp
  · exact h.respond hp

theorem doCalibrate {s : State} {t p} (hp : P s) : P (State.doCalibrate t p s) := by
  unfold State.doCalibrate
  split
  · split
    · exact h.respond hp
    split
    · exact h.beginRun hp
    · exact h.respond hp
  · exact h.respond hp

theorem doSweepLoad {s : State} {t p} (hp : P s) : P (State.doSweepLoad t p s) := by
  unfold State.doSweepLoad
  split
  · split
    · exact h.respond hp
    split
    · exact h.respond hp
    · exact h.respond (h.sweepOnly hp)
  · exact h.respond hp

theorem doSweepStart {s : State} {t p} (hp : P s) : P (State.doSweepStart t p s) := by
  unfold State.doSweepStart
  split
  · exact h.respond (h.runPass hp)
  all_goals exact h.respond hp

theorem doSweepPause {s : State} {t p} (hp : P s) : P (State.doSweepPause t p s) := by
  unfold State.doSweepPause
  split
  · exact h.respond (h.sweepOnly hp)
  · exact h.respond (h.sweepOnly hp)
  all_goals exact h.respond hp

theorem doSweepResume {s : State} {t p} (hp : P s) : P (State.doSweepResume t p s) := by
  unfold State.doSweepResume
  split
  · refine h.respond ?_
    unfold State.resume
    split
    · exact h.runPass hp
    split
    · exact h.sweepOnly hp
    all_goals exact h.settle (h.wantAttempt (h.sweepOnly hp))
  all_goals exact h.respond hp

theorem doSweepStop {s : State} {t p} (hp : P s) : P (State.doSweepStop t p s) := by
  unfold State.doSweepStop
  have hd : P s.drain := h.sweepOnly
    (fold _ (h.sweep hp fun _ hm => nomatch hm) fun _ _ hp => h.discardContext hp)
  split
  · exact h.respond hp
  · exact h.respond (h.settle hd)
  · exact h.respond (h.settle hd)
  · exact h.respond (h.settle hd)
  · exact h.respond hp

theorem doSweepMark {s : State} {t p} (hp : P s) : P (State.doSweepMark t p s) := by
  unfold State.doSweepMark
  split
  · split
    · exact h.respond (h.sweepOnly hp)
    split
    · exact h.respond hp
    · exact h.respond (h.sweepOnly hp)
  · exact h.respond hp

theorem doSuspect {s : State} {t p} (hp : P s) : P (State.doSuspect t p s) := by
  unfold State.doSuspect
  split
  · dsimp only
    split
    · exact h.respond hp
    · split <;> exact h.respond (h.settle (h.offerSuspect hp))
  · exact h.respond hp

theorem doTicketAck {s : State} {t p} (hp : P s) : P (State.doTicketAck t p s) := by
  unfold State.doTicketAck
  split
  · split
    · exact h.respond hp
    rename_i k hk
    split
    · exact h.respond (h.put hp (List.mem_of_find?_eq_some hk) rfl rfl rfl rfl)
    · exact h.respond hp
    · exact h.respond hp
  · exact h.respond hp

theorem doTicketClose {s : State} {t p} (hp : P s) : P (State.doTicketClose t p s) := by
  unfold State.doTicketClose
  split
  · split
    · exact h.respond hp
    · rename_i k hk
      exact h.respond (h.close hp (List.mem_of_find?_eq_some hk))
  · exact h.respond hp

theorem doTicketNote {s : State} {t p} (hp : P s) : P (State.doTicketNote t p s) := by
  unfold State.doTicketNote
  split
  · split
    · exact h.respond hp
    split
    · exact h.respond hp
    · rename_i k hk
      exact h.respond (h.put hp (List.mem_of_find?_eq_some hk) rfl rfl rfl rfl)
  · exact h.respond hp

theorem restartChannel {s : State} {n} (hp : P s) : P (s.restartChannel n) := by
  unfold State.restartChannel
  split
  any_goals exact hp
  any_goals
    dsimp only [State.restartTap]
    split
    · exact h.noTest hp
    · exact h.access (h.setBus (h.offer (h.offer (h.noTest hp))))
  · exact h.sameTest hp
  · exact h.failRun hp

theorem doRestart {s : State} {t p} (hp : P s) : P (State.doRestart t p s) := by
  unfold State.doRestart
  split
  · exact h.respond hp
  dsimp only [State.warmRestart]
  have h1 : ∀ {u : State}, P u → P u.restartChannels :=
    fun hu => fold _ (h.other hu) fun _ _ hp => h.restartChannel hp
  have h2 : ∀ {u : State}, P u → P u.restartFlushes :=
    fun hu => fold _ (h.other hu) fun _ _ hp => h.beginFlush hp
  have h3 : ∀ {u : State}, P u → P ({ u with sweep := u.sweep.restarted } : State).restartNotices :=
    fun hu => h.other (h.sweep hu fun _ hm => absurd hm List.not_mem_nil) (hl := rfl) (ht := rfl) (hs := rfl) (hc := rfl)
      (hw := rfl)
  exact h3 (h2 (h1 (h.respond hp)))

/-! ### Every command, every step -/

omit h in
/-- An answer that carries the property gives a state that has it. -/
theorem answer {t u : State} (hu : P u) (he : (Host.Outcome.next u : Answer) = .next t) : P t := by
  cases he; exact hu

/-- No desk command takes the property away. -/
theorem desk {c g} {s t : State} (hp : P s) (hg : ∀ {tag ps u}, P u → P (g tag ps u))
    (he : (Host.Outcome.next (s.onCommand c g) : Answer) = .next t) : P t :=
  answer (h.onCommand hp fun _ _ _ => hg) he

theorem exec_arrivals {s t : State} {f} (hp : P s) :
    (exec (.frameArrivesPortU f) s = .next t → P t) ∧ (exec (.frameArrivesPortS f) s = .next t → P t) := by
  constructor
  · intro he
    simp only [exec, execFrameArrivesPortU] at he
    split at he
    · exact answer hp he
    · exact answer (h.other hp) he
    · split at he
      · exact answer (h.dispatchU hp) he
      · exact answer (h.other hp) he
  · intro he
    simp only [exec, execFrameArrivesPortS] at he
    split at he
    · exact answer hp he
    · exact answer (h.other hp) he
    · split at he
      · exact answer (h.settle (h.dispatchS hp)) he
      · exact answer (h.other hp) he

theorem exec_departures {s t : State} {port} (hp : P s) (he : exec (.frameLeavesPort port) s = .next t) : P t := by
  simp only [exec, execFrameLeavesPort] at he
  split at he
  · split at he
    · exact answer hp he
    · exact answer (h.other hp) he
    · exact answer (h.leaveSOwn hp) he
  · split at he
    · exact answer hp he
    · exact answer (h.other hp) he
    · exact answer (h.other hp) he

/-- No command takes the property away. -/
theorem exec_next {c : Instr} {s t : State} (hp : P s) (he : exec c s = .next t) : P t := by
  cases c with
  | coldReset => exact answer (h.reset _) he
  | rstnRelease =>
    simp only [exec, execRstnRelease] at he
    split at he
    · exact answer (h.released hp) he
    all_goals exact answer hp he
  | bypassEnd =>
    simp only [exec, execBypassEnd] at he
    split at he
    · split at he
      · exact answer (u := s.started) (h.other hp (hl := by simp [State.started]) (ht := by simp [State.started])
          (hs := by simp [State.started]) (hc := by simp [State.started]) (hw := by simp [State.started])) he
      · exact answer hp he
    all_goals exact answer hp he
  | frameArrivesPortU f => exact (h.exec_arrivals hp).1 he
  | frameArrivesPortS f => exact (h.exec_arrivals hp).2 he
  | creditAnnouncement port n =>
    simp only [exec, execCreditAnnouncement] at he
    split at he
    · exact answer hp he
    all_goals split at he <;> exact answer (h.other hp) he
  | frameLeavesPort port => exact h.exec_departures hp he
  | sOwnOfferEnters =>
    simp only [exec, execSOwnOfferEnters] at he
    split at he
    · exact answer hp he
    · split at he
      · exact answer (h.offerEnters hp) he
      · exact answer hp he
  | holdRecordLapse n =>
    simp only [exec, execHoldRecordLapse] at he
    split at he
    · split at he
      · exact answer (h.lapse hp) he
      · exact answer hp he
    · exact answer hp he
  | flushOffer l => exact answer (h.flushOn hp) he
  | auditTimerExpiry n =>
    simp only [exec, execAuditTimerExpiry] at he
    split at he
    · exact answer (h.other hp) he
    · exact answer hp he
  | tapConfirmTimerExpiry b =>
    simp only [exec, execTapConfirmTimerExpiry] at he
    split at he
    · split at he
      · exact answer (h.noMake hp) he
      · exact answer hp he
    · exact answer hp he
  | releaseConfirmTimerExpiry b =>
    simp only [exec, execReleaseConfirmTimerExpiry] at he
    split at he
    · split at he
      · exact answer (h.settle (h.timeOutRelease hp)) he
      · exact answer hp he
    · exact answer hp he
  | restartReleaseTimeout b =>
    simp only [exec, execRestartReleaseTimeout] at he
    split at he
    · split at he
      · exact answer (h.stickRelay hp) he
      · exact answer hp he
    · exact answer hp he
  | strayReleaseTimerExpiry b =>
    simp only [exec, execStrayReleaseTimerExpiry] at he
    split at he
    · split at he
      · exact answer (h.strayTimeout hp) he
      · exact answer hp he
    · exact answer hp he
  | lockoutEnd b =>
    simp only [exec, execLockoutEnd] at he
    split at he
    · split at he
      · exact answer (h.settle (h.wantAttempt (h.setBus hp))) he
      · exact answer hp he
    · exact answer hp he
  | intervalTimerExpiry =>
    simp only [exec, execIntervalTimerExpiry] at he
    split at he
    · split at he
      · exact answer (h.runPass hp) he
      · exact answer (h.sweepOnly (w := { s.sweep with timer := none, startWaits := true }) hp) he
      all_goals exact answer hp he
    · exact answer hp he
  | headTimerExpiry n =>
    simp only [exec, execHeadTimerExpiry] at he
    split at he
    · exact answer (h.settle (h.headSilent hp)) he
    · exact answer hp he
  | flapUnitBoundary =>
    simp only [exec, execFlapUnitBoundary] at he
    split at he
    · exact answer hp he
    all_goals
      split at he
      · exact answer (h.boundary hp) he
      · exact answer hp he
  | minuteCounterAdvance =>
    simp only [exec, execMinuteCounterAdvance] at he
    split at he
    · exact answer hp he
    all_goals
      split at he
      · exact answer (u := s.nextMinuteComes) (h.frame hp rfl rfl rfl rfl rfl) he
      · exact answer hp he
  | hourTick =>
    simp only [exec, execHourTick] at he
    split at he
    · exact answer (h.tickHour (s := { s with hourDue := false }) (h.other hp)) he
    · exact answer hp he
  | unknownCommand => exact h.desk hp (h.respond ·) he
  | loadLines => exact h.desk hp h.doLoadLines he
  | lineRead => exact h.desk hp (h.other ·) he
  | inhibit => exact h.desk hp h.doInhibit he
  | clearHazard => exact h.desk hp h.doClearHazard he
  | loadBusmap => exact h.desk hp (h.other ·) he
  | clearStuck => exact h.desk hp h.doClearStuck he
  | loadStep => exact h.desk hp h.doLoadStep he
  | loadPlan => exact h.desk hp h.doLoadPlan he
  | test => exact h.desk hp h.doTest he
  | abort => exact h.desk hp h.doAbort he
  | returnHead => exact h.desk hp h.doReturnHead he
  | loadProfile => exact h.desk hp (h.other ·) he
  | calibrate => exact h.desk hp h.doCalibrate he
  | setCalCoef => exact h.desk hp (h.other ·) he
  | sweepLoad => exact h.desk hp h.doSweepLoad he
  | sweepStart => exact h.desk hp h.doSweepStart he
  | sweepStop => exact h.desk hp h.doSweepStop he
  | sweepPause => exact h.desk hp h.doSweepPause he
  | sweepResume => exact h.desk hp h.doSweepResume he
  | sweepMark => exact h.desk hp h.doSweepMark he
  | suspect => exact h.desk hp h.doSuspect he
  | ticketRead => exact h.desk hp (h.other ·) he
  | ticketAck => exact h.desk hp h.doTicketAck he
  | ticketClose => exact h.desk hp h.doTicketClose he
  | ticketNote => exact h.desk hp h.doTicketNote he
  | setParam => exact h.desk hp (h.other ·) he
  | status => exact h.desk hp (h.other ·) he
  | restart => exact h.desk hp h.doRestart he
  | receptionBrokenOff port =>
    simp only [exec, execReceptionBrokenOff] at he
    split at he <;> exact answer (h.other hp) he

/-- No step takes the property away: neither a command nor the part's own waiting. -/
theorem step_next {s t : State} (hp : P s) (he : Machine.step s = .next t) : P t := by
  unfold Machine.step at he
  split at he
  · exact h.exec_next (h.other hp) he
  · refine answer ?_ he
    unfold State.idle
    split
    · unfold State.passTime
      split <;> exact h.other hp
    all_goals exact h.other hp

end Durable
end Sys2Proof.Machine


namespace Sys2Proof.Machine

/-! ## What a raise does to the lines and to the table (R166 to R171) -/

/-- Two records differ in the open-ticket count at most. -/
def LineRec.SameButCount (r q : LineRec) : Prop := { r with ticketCount := 0 } = { q with ticketCount := 0 }

theorem LineRec.SameButCount.fields {r q : LineRec} (h : r.SameButCount q) :
    r.cls = q.cls ∧ r.condition = q.condition ∧ r.access = q.access ∧ r.hazard = q.hazard ∧
      r.flapInterval = q.flapInterval ∧ r.flapCount = q.flapCount := by
  simp only [LineRec.SameButCount, LineRec.mk.injEq] at h
  simp [h]

theorem State.line_congr {s t : State} (h : t.lines = s.lines) (l : Nat) : t.line l = s.line l := by
  simp [State.line, h]

theorem State.countUp_line (s : State) (k : SubjectKind) (n m : Nat) : (s.countUp k n).line m =
    if k = .line ∧ m = n then { s.line m with ticketCount := (s.line m).ticketCount + 1 } else s.line m := by
  cases k <;> simp [State.countUp]
  by_cases hm : m = n <;> simp [hm]

theorem State.countDown_line (s : State) (k : SubjectKind) (n m : Nat) : (s.countDown k n).line m =
    if k = .line ∧ m = n then { s.line m with ticketCount := (s.line m).ticketCount - 1 } else s.line m := by
  cases k <;> simp [State.countDown]
  by_cases hm : m = n <;> simp [hm]

theorem State.countUp_wf {s : State} (h : Table.wf LineRec.cold s.lines = true) (k n) :
    Table.wf LineRec.cold (s.countUp k n).lines = true := by
  cases k <;> simp [State.countUp, h]

theorem State.countDown_wf {s : State} (h : Table.wf LineRec.cold s.lines = true) (k n) :
    Table.wf LineRec.cold (s.countDown k n).lines = true := by
  cases k <;> simp [State.countDown, h]

theorem State.removeTicket_line (s : State) (t : Ticket) (m : Nat) : (s.removeTicket t).line m =
    if t.kind = .line ∧ m = t.subject then { s.line m with ticketCount := (s.line m).ticketCount - 1 } else s.line m := by
  rw [State.removeTicket, State.countDown_line]; rfl

theorem State.createTicket_line (s : State) (k n c e) (m : Nat) : (s.createTicket k n c e).line m =
    if k = .line ∧ m = n then { s.line m with ticketCount := (s.line m).ticketCount + 1 } else s.line m := by
  rw [State.createTicket, State.countUp_line, State.line_congr (s := s) (by simp)]

/-- The number a new entry takes. -/
def State.newNumber (s : State) : Nat := freeNumber s.tickets.entries 257 s.tickets.nextNumber

@[simp] theorem State.createTicket_tickets (s : State) (k n c e) : (s.createTicket k n c e).tickets = { s.tickets with
    entries := s.tickets.entries ++ [⟨s.newNumber, k, n, c, .opened, s.minute, s.minute, 1, 0, e, []⟩]
    nextNumber := nextTicketNumber s.newNumber } := by
  simp [State.createTicket, State.newNumber]

@[simp] theorem State.removeTicket_tickets (s : State) (t : Ticket) : (s.removeTicket t).tickets = { s.tickets with
    entries := s.tickets.entries.filter fun u => u.number != t.number
    armed := true } := by
  simp [State.removeTicket]

theorem oldestTicket_mem {L : List Ticket} {t} (h : oldestTicket L = some t) : t ∈ L := by
  have key : ∀ (L : List Ticket) (a : Ticket), L.foldl Ticket.older a ∈ a :: L := by
    intro L
    induction L with
    | nil => simp
    | cons b L ih =>
      intro a
      have hb : a.older b = a ∨ a.older b = b := by unfold Ticket.older; split <;> simp
      have := ih (a.older b)
      grind
  cases L with
  | nil => cases h
  | cons a L => cases h; exact key L a

theorem State.evictee_mem {s : State} {c t} (h : s.evictee c = some t) : t ∈ s.tickets.entries := by
  unfold State.evictee at h
  split at h
  · cases h; exact (List.mem_filter.1 (oldestTicket_mem ‹_›)).1
  · split at h
    · exact (List.mem_filter.1 (oldestTicket_mem h)).1
    · cases h

theorem State.findTicket_eq_none_iff {s : State} {k n c} : s.findTicket k n c = none ↔
    ∀ t ∈ s.tickets.entries, ¬ (t.kind = k ∧ t.subject = n ∧ t.cls = c) := by
  simp [State.findTicket, Ticket.isAbout]

/-- A raise replaces the entry of its fault, creates one, creates one in the place of another, or is lost (R168 to R171). -/
theorem State.raise_cases (s : State) (k n c e) :
    (∃ t ∈ s.tickets.entries, ∃ u ev, u.number = t.number ∧ u.kind = t.kind ∧ u.subject = t.subject ∧ u.cls = t.cls ∧
      s.raise k n c e = (s.putTicket t.number u).ticketNotice ev u) ∨
    ((∀ t ∈ s.tickets.entries, ¬ (t.kind = k ∧ t.subject = n ∧ t.cls = c)) ∧
      ((s.tickets.entries.length < 256 ∧ s.raise k n c e = s.createTicket k n c e) ∨
        ∃ t ∈ s.tickets.entries, s.raise k n c e = ((s.removeTicket t).ticketNotice .evicted t).createTicket k n c e)) ∨
    s.raise k n c e = s.loseRaise k n c := by
  unfold State.raise
  cases hf : s.findTicket k n c with
  | some t => exact .inl ⟨t, List.mem_of_find?_eq_some hf, t.again s.minute e, _, rfl, rfl, rfl, rfl, rfl⟩
  | none =>
    have hno : ∀ t ∈ s.tickets.entries, ¬ (t.kind = k ∧ t.subject = n ∧ t.cls = c)  :=
      State.findTicket_eq_none_iff.1 hf
    by_cases hroom : s.tickets.entries.length < Config.ticketRoom
    · exact .inr (.inl ⟨hno, .inl ⟨hroom, by simp [hroom]⟩⟩)
    · cases hev : s.evictee c with
      | some t => exact .inr (.inl ⟨hno, .inr ⟨t, State.evictee_mem hev, by simp [hroom]⟩⟩)
      | none => exact .inr (.inr (by simp [hroom]))

/-- Of the line records a raise changes the open-ticket counts at most. -/
theorem State.raise_line (s : State) (k n c e) (m : Nat) : ((s.raise k n c e).line m).SameButCount (s.line m) := by
  have hc : ∀ u : State, ((u.createTicket k n c e).line m).SameButCount (u.line m) := fun u => by
    rw [State.createTicket_line]; split <;> simp [LineRec.SameButCount]
  rcases s.raise_cases k n c e with ⟨t, _, u, ev, _, _, _, _, h⟩ | ⟨_, ⟨_, h⟩ | ⟨t, _, h⟩⟩ | h
  · rw [h, State.ticketNotice_line, State.putTicket_line]; rfl
  · rw [h]; exact hc s
  · rw [h]
    refine (hc _).trans ?_
    rw [State.ticketNotice_line, State.removeTicket_line]
    split <;> simp
  · rw [h, State.loseRaise_line]; rfl

theorem State.raise_wf {s : State} (hw : Table.wf LineRec.cold s.lines = true) (k n c e) :
    Table.wf LineRec.cold (s.raise k n c e).lines = true := by
  have hc : ∀ u : State, Table.wf LineRec.cold u.lines = true → Table.wf LineRec.cold (u.createTicket k n c e).lines = true :=
    fun u hu => State.countUp_wf (by simpa using hu) _ _
  rcases s.raise_cases k n c e with ⟨t, _, u, ev, _, _, _, _, h⟩ | ⟨_, ⟨_, h⟩ | ⟨t, _, h⟩⟩ | h
  · rw [h]; simpa using hw
  · rw [h]; exact hc s hw
  · rw [h]
    refine hc _ ?_
    rw [(State.ticketNotice_keeps _ _ _).2.2.2.2.2.2.1]
    exact State.countDown_wf (by simpa using hw) _ _
  · rw [h]; simpa using hw

/-- Every entry after a raise stands for one before it, or for the fault raised. -/
theorem State.mem_raise {s : State} {k n c e u} (hu : u ∈ (s.raise k n c e).tickets.entries) :
    (∃ t ∈ s.tickets.entries, u.kind = t.kind ∧ u.subject = t.subject ∧ u.cls = t.cls) ∨
      (u.kind = k ∧ u.subject = n ∧ u.cls = c) := by
  have old : ∀ {v}, v ∈ s.tickets.entries →
      ∃ t ∈ s.tickets.entries, v.kind = t.kind ∧ v.subject = t.subject ∧ v.cls = t.cls := fun hv => ⟨_, hv, rfl, rfl, rfl⟩
  rcases s.raise_cases k n c e with ⟨t, ht, v, ev, _, hk, hs, hc, h⟩ | ⟨_, ⟨_, h⟩ | ⟨t, _, h⟩⟩ | h
  · simp only [h, State.ticketNotice_keeps, State.putTicket, List.mem_map] at hu
    obtain ⟨x, hx, rfl⟩ := hu
    split
    · exact .inl ⟨t, ht, hk, hs, hc⟩
    · exact .inl (old hx)
  · simp only [h, State.createTicket_tickets, List.mem_append, List.mem_singleton] at hu
    rcases hu with hu | rfl
    · exact .inl (old hu)
    · exact .inr ⟨rfl, rfl, rfl⟩
  · simp only [h, State.createTicket_tickets, State.ticketNotice_keeps, State.removeTicket_tickets, List.mem_append,
      List.mem_singleton, List.mem_filter] at hu
    rcases hu with ⟨hu, _⟩ | rfl
    · exact .inl (old hu)
    · exact .inr ⟨rfl, rfl, rfl⟩
  · rw [h] at hu
    exact .inl (old (by unfold State.loseRaise at hu; dsimp only at hu; split at hu <;> simpa using hu))

end Sys2Proof.Machine


namespace Sys2Proof.Machine

/-! ## The number of a new entry (R169) -/

theorem nextTicketNumber_range {n : Nat} (h : 1 ≤ n ∧ n ≤ 65535) : 1 ≤ nextTicketNumber n ∧ nextTicketNumber n ≤ 65535 := by
  unfold nextTicketNumber; split <;> omega

/-- The numbers from `n` up, 1 after 65535. -/
theorem iterate_nextTicketNumber {n : Nat} (h : 1 ≤ n ∧ n ≤ 65535) (i : Nat) :
    nextTicketNumber^[i] n = (n - 1 + i) % 65535 + 1 := by
  induction i with
  | zero => simp; omega
  | succ i ih => rw [Function.iterate_succ_apply', ih]; unfold nextTicketNumber; split <;> omega

theorem freeNumber_range (L : List Ticket) (k : Nat) {n : Nat} (h : 1 ≤ n ∧ n ≤ 65535) :
    1 ≤ freeNumber L k n ∧ freeNumber L k n ≤ 65535 := by
  induction k generalizing n with
  | zero => exact h
  | succ k ih =>
    unfold freeNumber
    split
    · exact ih (nextTicketNumber_range h)
    · exact h

/-- If the number found is held, then so is every number tried. -/
theorem tried_of_freeNumber_held (L : List Ticket) (k n : Nat) (h : ∃ t ∈ L, t.number = freeNumber L k n) :
    ∀ i ≤ k, ∃ t ∈ L, t.number = nextTicketNumber^[i] n := by
  induction k generalizing n with
  | zero => intro i hi; obtain rfl : i = 0 := by omega
            exact h
  | succ k ih =>
    have hn : ∃ t ∈ L, t.number = n := by
      by_contra hc
      have hf : (L.any fun t => t.number == n) = false := by simpa using hc
      rw [freeNumber, hf] at h
      exact hc h
    have hf : (L.any fun t => t.number == n) = true := by simpa using hn
    rw [freeNumber, hf] at h
    intro i hi
    cases i with
    | zero => exact hn
    | succ i => exact ih _ h i (by omega)

/-- Among 258 numbers fewer than 258 entries leave one free. -/
theorem freeNumber_free {L : List Ticket} {n : Nat} (hn : 1 ≤ n ∧ n ≤ 65535) (hl : L.length ≤ 256) :
    ∀ t ∈ L, t.number ≠ freeNumber L 257 n := by
  intro t ht he
  have held := tried_of_freeNumber_held L 257 n ⟨t, ht, he⟩
  have hsub : (Finset.range 258).image (fun i => nextTicketNumber^[i] n) ⊆ (L.map Ticket.number).toFinset := by
    intro x hx
    obtain ⟨i, hi, rfl⟩ := Finset.mem_image.1 hx
    obtain ⟨t, ht, he⟩ := held i (by have := Finset.mem_range.1 hi; omega)
    exact List.mem_toFinset.2 (List.mem_map.2 ⟨t, ht, he⟩)
  have hinj : Set.InjOn (fun i => nextTicketNumber^[i] n) (Finset.range 258) := by
    intro i hi j hj hij
    simp only [Finset.coe_range, Set.mem_Iio] at hi hj
    simp only [iterate_nextTicketNumber hn] at hij
    omega
  have h1 := Finset.card_le_card hsub
  rw [Finset.card_image_of_injOn hinj, Finset.card_range] at h1
  have h2 := List.toFinset_card_le (L.map Ticket.number)
  rw [List.length_map] at h2
  omega

/-! ## The Ticket Table stays sound (R166) -/

section TicketsSound

variable {s : State} (hs : s.TicketsSound)
include hs

/-- The table stays sound where it is not touched and no line's count changes. -/
theorem State.TicketsSound.frame {t : State} (hw : Table.wf LineRec.cold t.lines = true) (ht : t.tickets = s.tickets)
    (hc : ∀ l, (t.line l).ticketCount = (s.line l).ticketCount) : t.TicketsSound := by
  obtain ⟨_, h1, h2, h3, h4, h5, h6⟩ := hs
  exact ⟨hw, ht ▸ h1, ht ▸ h2, ht ▸ h3, ht ▸ h4, ht ▸ h5, fun l => by rw [hc, h6, ht]⟩

theorem State.TicketsSound.setLine {l r} (hr : r.ticketCount = (s.line l).ticketCount) : (s.setLine l r).TicketsSound :=
  hs.frame (Table.set_wf hs.lines _ _) rfl fun m => by
    rw [State.setLine_line]; split
    · subst m; exact hr
    · rfl

theorem State.TicketsSound.notice {e t} : (s.ticketNotice e t).TicketsSound :=
  hs.frame (by simpa using hs.lines) (by simp) fun _ => by simp

/-- An entry is one among entries of other numbers and other faults. -/
theorem State.TicketsSound.split {t} (ht : t ∈ s.tickets.entries) : ∃ a b, s.tickets.entries = a ++ t :: b ∧
    (∀ x ∈ a ++ b, x.number ≠ t.number) ∧ ∀ x ∈ a ++ b, ¬ (x.kind = t.kind ∧ x.subject = t.subject ∧ x.cls = t.cls) := by
  obtain ⟨a, b, hab⟩ := List.append_of_mem ht
  have h1 := hs.distinctNumbers
  have h2 := hs.distinctFaults
  rw [hab, List.pairwise_append, List.pairwise_cons] at h1 h2
  refine ⟨a, b, hab, fun x hx => ?_, fun x hx => ?_⟩
  · rcases List.mem_append.1 hx with hx | hx
    · exact h1.2.2 x hx t (by simp)
    · exact (h1.2.1.1 x hx).symm
  · rcases List.mem_append.1 hx with hx | hx
    · exact h2.2.2 x hx t (by simp)
    · exact fun ⟨p, q, r⟩ => h2.2.1.1 x hx ⟨p.symm, q.symm, r.symm⟩

/-- An entry may be rewritten under its number and its fault. -/
theorem State.TicketsSound.put {t u} (ht : t ∈ s.tickets.entries) (hn : u.number = t.number) (hk : u.kind = t.kind)
    (hj : u.subject = t.subject) (hc : u.cls = t.cls) : (s.putTicket t.number u).TicketsSound := by
  obtain ⟨a, b, hab, hnum, -⟩ := hs.split ht
  have he : (s.putTicket t.number u).tickets.entries = a ++ u :: b := by
    simp only [State.putTicket, hab, ticket_replaced hnum]
  obtain ⟨h1, h2, h3, h4, h5, h6, h7⟩ := hs
  rw [hab] at h2 h3 h4 h5 h7
  refine ⟨h1, ?_, ?_, ?_, ?_, h6, ?_⟩
  · rw [he]; simpa using h2
  · rw [he]; simpa [List.pairwise_append, hk, hj, hc] using h3
  · rw [he]; simpa [List.pairwise_append, hn] using h4
  · rw [he]; simpa [or_imp, forall_and, hn] using h5
  · intro l
    rw [he, State.putTicket_line, h7]
    simp [List.countP_append, List.countP_cons, Ticket.names, hk, hj]

/-- Taking an entry out of the table keeps it sound, and leaves room. -/
theorem State.TicketsSound.remove {t} (ht : t ∈ s.tickets.entries) : (s.removeTicket t).TicketsSound ∧
    (s.removeTicket t).tickets.entries.length < 256 ∧
    ∀ x ∈ (s.removeTicket t).tickets.entries, x ∈ s.tickets.entries ∧
      ¬ (x.kind = t.kind ∧ x.subject = t.subject ∧ x.cls = t.cls) := by
  obtain ⟨a, b, hab, hnum, hcls⟩ := hs.split ht
  have hfilter : ∀ L : List Ticket, (∀ x ∈ L, x.number ≠ t.number) → L.filter (fun u => u.number != t.number) = L :=
    fun L hL => List.filter_eq_self.2 fun x hx => by simpa using hL x hx
  have he : (s.removeTicket t).tickets.entries = a ++ b := by
    rw [State.removeTicket_tickets]
    simp only [hab, List.filter_append, List.filter_cons, bne_self_eq_false, Bool.false_eq_true, if_false]
    rw [hfilter a fun x hx => hnum x (by simp [hx]), hfilter b fun x hx => hnum x (by simp [hx])]
  obtain ⟨h1, h2, h3, h4, h5, h6, h7⟩ := hs
  have hsub : (a ++ b).Sublist (a ++ t :: b) := (List.Sublist.refl a).append (List.sublist_cons_self t b)
  rw [hab] at h2 h3 h4 h5 h7
  refine ⟨⟨State.countDown_wf (by exact h1) _ _, ?_, ?_, ?_, ?_, ?_, ?_⟩, ?_, ?_⟩
  · rw [he]; exact hsub.length_le.trans h2
  · rw [he]; exact h3.sublist hsub
  · rw [he]; exact h4.sublist hsub
  · rw [he]; exact fun x hx => h5 x (hsub.subset hx)
  · rw [State.removeTicket_tickets]; exact h6
  · intro l
    rw [he, State.removeTicket_line]
    have := h7 l
    simp only [List.countP_append, List.countP_cons, Ticket.names, Bool.and_eq_true, beq_iff_eq] at this ⊢
    by_cases hn : t.kind = .line ∧ t.subject = l
    · obtain ⟨hk, rfl⟩ := hn
      simp only [hk, and_self, if_true] at this ⊢
      omega
    · have hn' : ¬ (t.kind = .line ∧ l = t.subject) := fun ⟨p, q⟩ => hn ⟨p, q.symm⟩
      simp only [hn, hn', if_false] at this ⊢
      omega
  · rw [he]; simp only [List.length_append, List.length_cons] at h2 ⊢; omega
  · rw [he]; exact fun x hx => ⟨hab ▸ hsub.subset hx, hcls x hx⟩

/-- An entry for a fault that no entry is about, in a table with room (R169). -/
theorem State.TicketsSound.create {k n c e} (hl : s.tickets.entries.length < 256)
    (hno : ∀ t ∈ s.tickets.entries, ¬ (t.kind = k ∧ t.subject = n ∧ t.cls = c)) : (s.createTicket k n c e).TicketsSound := by
  have hfree : ∀ t ∈ s.tickets.entries, t.number ≠ s.newNumber := freeNumber_free hs.next (by omega)
  have hrange : 1 ≤ s.newNumber ∧ s.newNumber ≤ 65535 := freeNumber_range _ _ hs.next
  obtain ⟨h1, h2, h3, h4, h5, h6, h7⟩ := hs
  refine ⟨State.countUp_wf (by simpa using h1) _ _, ?_, ?_, ?_, ?_, ?_, ?_⟩
  · simp; omega
  · simpa [List.pairwise_append] using ⟨by simpa using h3, by simpa using hno⟩
  · simpa [List.pairwise_append, h4] using hfree
  · simpa [or_imp, forall_and, hrange] using h5
  · simpa using nextTicketNumber_range hrange
  · intro l
    rw [State.createTicket_line]
    have := h7 l
    by_cases hn : k = .line ∧ l = n
    · obtain ⟨rfl, rfl⟩ := hn
      simp [List.countP_append, Ticket.names, this]
    · have hn' : (k == .line && n == l) = false := by
        simp only [Bool.and_eq_false_iff, beq_eq_false_iff_ne]
        by_cases hk : k = .line
        · exact .inr fun h => hn ⟨hk, h.symm⟩
        · exact .inl hk
      simp [List.countP_append, Ticket.names, this, hn, hn']

theorem State.TicketsSound.raise {k n c e} : (s.raise k n c e).TicketsSound := by
  rcases s.raise_cases k n c e with ⟨t, ht, u, ev, hn, hk, hj, hc, h⟩ | ⟨hno, ⟨hl, h⟩ | ⟨t, ht, h⟩⟩ | h
  · rw [h]; exact (hs.put ht hn hk hj hc).notice
  · rw [h]; exact hs.create hl hno
  · rw [h]
    obtain ⟨hr, hroom, hmem⟩ := hs.remove ht
    refine hr.notice.create (by simpa using hroom) fun x hx => ?_
    rw [(State.ticketNotice_keeps _ _ _).2.2.2.2.2.2.2.2.2.2.2.2.2.2.2.2.2.2.1] at hx
    exact hno x (hmem x hx).1
  · rw [h]
    obtain ⟨h1, h2, h3, h4, h5, h6, h7⟩ := hs
    have he : (s.loseRaise k n c).tickets.entries = s.tickets.entries ∧
        (s.loseRaise k n c).tickets.nextNumber = s.tickets.nextNumber := by
      unfold State.loseRaise; dsimp only; split <;> simp
    exact ⟨by simpa using h1, he.1 ▸ h2, he.1 ▸ h3, he.1 ▸ h4, he.1 ▸ h5, he.2 ▸ h6,
      fun l => by rw [he.1, State.loseRaise_line, h7]⟩

end TicketsSound
end Sys2Proof.Machine


namespace Sys2Proof.Machine

/-! ## The invariants of the line table (R2, R16) -/

theorem State.flapBoundary_line {s : State} (hw : Table.wf LineRec.cold s.lines = true) (l : Nat) :
    s.flapBoundary.line l = (s.line l).tick := Table.get_mapListed hw rfl l

/-! ### An unequipped line is untracked -/

theorem State.UnequippedUntracked.untracked {s : State} (hs : s.UnequippedUntracked) (l : Nat) : (s.line l).Untracked :=
  hs.condition l

theorem State.UnequippedUntracked.frame {s t : State} (hs : s.UnequippedUntracked) (h : t.lines = s.lines) :
    t.UnequippedUntracked :=
  ⟨h ▸ hs.lines, fun l => by rw [State.line_congr h]; exact hs.condition l⟩

theorem State.UnequippedUntracked.setLine {s : State} (hs : s.UnequippedUntracked) {l r} (hr : r.Untracked) :
    (s.setLine l r).UnequippedUntracked :=
  ⟨Table.set_wf hs.lines _ _, fun m => by
    rw [State.setLine_line]; split
    · exact hr
    · exact hs.condition m⟩

theorem State.UnequippedUntracked.hazard {s : State} (hs : s.UnequippedUntracked) {l b} :
    (s.setLine l { s.line l with hazard := b }).UnequippedUntracked := hs.setLine (hs.condition l)

theorem State.UnequippedUntracked.raise {s : State} (hs : s.UnequippedUntracked) {k n c e} :
    (s.raise k n c e).UnequippedUntracked :=
  ⟨State.raise_wf hs.lines .., fun l => by
    obtain ⟨hcls, hcond, -⟩ := (s.raise_line k n c e l).fields
    rw [hcls, hcond]; exact hs.condition l⟩

theorem State.UnequippedUntracked.close {s : State} (hs : s.UnequippedUntracked) {t} :
    (s.closeTicket t).UnequippedUntracked := by
  have hr : (s.removeTicket t).UnequippedUntracked := ⟨State.countDown_wf (by exact hs.lines) .., fun l => by
    rw [State.removeTicket_line]; split <;> exact hs.condition l⟩
  unfold State.closeTicket
  dsimp only
  split
  · exact hr.hazard
  · exact hr

theorem unequippedUntracked_cold {s : State} (h : s.lines = []) : s.UnequippedUntracked :=
  ⟨h ▸ rfl, fun l => by rw [show s.line l = LineRec.cold by rw [State.line, h]; rfl]; exact fun _ => .inl rfl⟩

theorem durable_unequippedUntracked : Durable (fun _ => True) State.UnequippedUntracked where
  known _ := trivial
  loaded _ _ := trivial
  running _ _ _ _ := trivial
  suspended _ _ _ _ _ := trivial
  frame hs hl _ _ _ _ := hs.frame hl
  line hs hr := hs.setLine (hr.untracked (hs.untracked _))
  chan hs _ := hs.frame rfl
  sweep hs _ := hs.frame rfl
  step hs _ := hs.frame rfl
  raise hs _ := hs.raise
  tripped hs := hs.hazard.raise
  put hs _ _ _ _ _ := hs.frame rfl
  close hs _ := hs.close
  unhazard hs _ := hs.hazard
  boundary hs := ⟨Table.mapListed_wf hs.lines _, fun l => by rw [State.flapBoundary_line hs.lines]; exact hs.condition l⟩
  released _ := unequippedUntracked_cold rfl
  reset _ := unequippedUntracked_cold rfl

/-- Settles O42: being untracked while of class 0 is kept by every write of a line record that the acts make. -/
theorem stepsKeepUnequippedUntracked : Obligations.StepsKeepUnequippedUntracked := fun _ _ =>
  durable_unequippedUntracked.step_next

/-! ### The Ticket Table is sound -/

theorem State.TicketsSound.unhazard {s : State} (hs : s.TicketsSound) {l b} :
    (s.setLine l { s.line l with hazard := b }).TicketsSound := hs.setLine rfl

theorem State.TicketsSound.close {s : State} (hs : s.TicketsSound) {t} (ht : t ∈ s.tickets.entries) :
    (s.closeTicket t).TicketsSound := by
  unfold State.closeTicket
  dsimp only
  split
  · exact (hs.remove ht).1.unhazard
  · exact (hs.remove ht).1

theorem State.TicketsSound.boundary {s : State} (hs : s.TicketsSound) : s.flapBoundary.TicketsSound :=
  hs.frame (Table.mapListed_wf hs.lines _) rfl fun l => by rw [State.flapBoundary_line hs.lines]; rfl

theorem ticketsSound_cold {s : State} (hl : s.lines = []) (ht : s.tickets = .cold) : s.TicketsSound := by
  refine ⟨by rw [hl]; rfl, ?_, ?_, ?_, ?_, ?_, fun l => ?_⟩
  · simp [ht, Tickets.cold]
  · simp [ht, Tickets.cold]
  · simp [ht, Tickets.cold]
  · simp [ht, Tickets.cold]
  · simp [ht, Tickets.cold]
  · simp [State.line, hl, ht, Tickets.cold, Table.get, LineRec.cold]

/-! ### The hazard flag stands as long as its ticket -/

section HazardWithTicket

variable {s : State} (hs : s.HazardWithTicket)
include hs

/-- Where steps, tests and contexts are as they were, the tickets and the hazard flags decide. -/
theorem State.HazardWithTicket.frame {t : State} (ht : t.TicketsSound)
    (hz : ∀ x ∈ t.tickets.entries, x.cls = .foreignVoltage → x.kind = .line ∧ (t.line x.subject).hazard = true)
    (h1 : t.steps = s.steps := by simp) (h2 : t.chans = s.chans := by simp)
    (h3 : t.sweep.suspended = s.sweep.suspended := by simp) : t.HazardWithTicket where
  tickets := ht
  hazard := hz
  steps i r h := hs.steps i r (by simpa [State.stepRec, h1] using h)
  running i r h := hs.running i r (by simpa [State.chan, h2] using h)
  suspended := h3 ▸ hs.suspended

theorem State.HazardWithTicket.setLine {l r} (hr : r.Follows (s.line l)) : (s.setLine l r).HazardWithTicket :=
  hs.frame (hs.tickets.setLine hr.count) fun t ht hc => by
    obtain ⟨hk, hz⟩ := hs.hazard t ht hc
    refine ⟨hk, ?_⟩
    rw [State.setLine_line]; split
    · next he => exact hr.hazard (he ▸ hz)
    · exact hz

theorem State.HazardWithTicket.unsetHazard {l} (hf : ∀ t ∈ s.tickets.entries, t.cls = .foreignVoltage → t.subject ≠ l) :
    (s.setLine l { s.line l with hazard := false }).HazardWithTicket :=
  hs.frame hs.tickets.unhazard fun t ht hc => by
    obtain ⟨hk, hz⟩ := hs.hazard t ht hc
    rw [State.setLine_line, if_neg (hf t ht hc)]
    exact ⟨hk, hz⟩

/-- A raise is sound if the entry it may create, when of class FOREIGN_VOLTAGE, names a line with the flag set. -/
theorem State.HazardWithTicket.raise {k n c e} (hn : c = .foreignVoltage → k = .line ∧ (s.line n).hazard = true) :
    (s.raise k n c e).HazardWithTicket :=
  hs.frame hs.tickets.raise fun t ht hc => by
    obtain ⟨-, -, -, hz, -⟩ := (s.raise_line k n c e t.subject).fields
    rw [hz]
    rcases State.mem_raise ht with ⟨u, hu, ek, es, ec⟩ | ⟨ek, es, ec⟩
    · rw [ek, es]; exact hs.hazard u hu (ec ▸ hc)
    · rw [ek, es]; exact hn (ec ▸ hc)

/-- A trip sets the flag before it raises (R144). -/
theorem State.HazardWithTicket.tripped {l e} :
    ((s.setLine l { s.line l with hazard := true }).raise .line l .foreignVoltage e).HazardWithTicket := by
  have hf : LineRec.Follows { s.line l with hazard := true } (s.line l) := ⟨rfl, fun _ => rfl, fun h => h⟩
  refine (hs.setLine hf).raise fun _ => ⟨rfl, ?_⟩
  rw [State.setLine_line, if_pos rfl]

theorem State.HazardWithTicket.remove {t} (ht : t ∈ s.tickets.entries) : (s.removeTicket t).HazardWithTicket := by
  obtain ⟨hsound, -, hmem⟩ := hs.tickets.remove ht
  refine hs.frame hsound fun x hx hc => ?_
  have hz : ((s.removeTicket t).line x.subject).hazard = (s.line x.subject).hazard := by
    rw [State.removeTicket_line]; split <;> rfl
  rw [hz]; exact hs.hazard x (hmem x hx).1 hc

/-- Closing the FOREIGN_VOLTAGE entry of a line clears the flag of a line that no other such entry names (R16, R166). -/
theorem State.HazardWithTicket.close {t} (ht : t ∈ s.tickets.entries) : (s.closeTicket t).HazardWithTicket := by
  obtain ⟨-, -, hmem⟩ := hs.tickets.remove ht
  unfold State.closeTicket
  dsimp only
  split
  · next hc =>
    refine (hs.remove ht).unsetHazard fun x hx hxc he => ?_
    obtain ⟨hx0, hne⟩ := hmem x hx
    exact hne ⟨(hs.hazard x hx0 hxc).1.trans (hs.hazard t ht hc).1.symm, he, hxc.trans hc.symm⟩
  · exact hs.remove ht

end HazardWithTicket

theorem hazardWithTicket_cold {s : State} (hl : s.lines = []) (ht : s.tickets = .cold) (hc : s.chans = [])
    (h1 : ∀ i r, s.stepRec i = some r → r.cls ≠ .foreignVoltage)
    (h2 : ∀ c ∈ s.sweep.suspended, ∀ r ∈ c.results, r.cls ≠ .foreignVoltage) : s.HazardWithTicket where
  tickets := ticketsSound_cold hl ht
  hazard := by simp [ht, Tickets.cold]
  steps := h1
  running h t he := by simp [State.chan, hc, Table.get, Channel.cold] at he
  suspended := h2

theorem durable_hazardWithTicket : Durable (· ≠ .foreignVoltage) State.HazardWithTicket where
  known := id
  loaded hs he := hs.steps _ _ he
  running hs he := hs.running _ _ he
  suspended hs := hs.suspended
  frame hs hl ht h1 h2 h3 := hs.frame (hs.tickets.frame (hl ▸ hs.tickets.lines) ht fun l => by rw [State.line_congr hl])
    (fun t hm hc => by rw [State.line_congr hl]; exact hs.hazard t (ht ▸ hm) hc) h1 h2 h3
  line hs hr := hs.setLine hr
  chan {s n c} hs hc := ⟨hs.tickets.frame hs.tickets.lines rfl fun _ => rfl, hs.hazard, hs.steps, fun h t he => by
    rw [State.setChan_chan] at he
    split at he
    · exact hc t he
    · exact hs.running h t he, hs.suspended⟩
  sweep hs hw := ⟨hs.tickets.frame hs.tickets.lines rfl fun _ => rfl, hs.hazard, hs.steps, hs.running, hw⟩
  step {s i r} hs hr := ⟨hs.tickets.frame hs.tickets.lines rfl fun _ => rfl, hs.hazard, fun j q he => by
    rw [State.setStepRec_stepRec] at he
    split at he
    · exact hr q he
    · exact hs.steps j q he, hs.running, hs.suspended⟩
  raise hs hc := hs.raise fun h => absurd h hc
  tripped hs := hs.tripped
  put {s t u} hs ht hn hk hj hc := hs.frame (hs.tickets.put ht hn hk hj hc) fun x hx hxc => by
    simp only [State.putTicket, List.mem_map] at hx
    obtain ⟨y, hy, rfl⟩ := hx
    rw [State.putTicket_line]
    by_cases hy' : y.number = t.number
    · rw [if_pos hy'] at hxc ⊢
      rw [hk, hj]; exact hs.hazard t ht (hc ▸ hxc)
    · rw [if_neg hy'] at hxc ⊢
      exact hs.hazard y hy hxc
  close hs ht := hs.close ht
  unhazard {s l} hs hf := hs.unsetHazard fun t ht hc he =>
    State.findTicket_eq_none_iff.1 hf t ht ⟨(hs.hazard t ht hc).1, he, hc⟩
  boundary hs := hs.frame hs.tickets.boundary (fun t ht hc => by
    rw [State.flapBoundary_line hs.tickets.lines]; exact hs.hazard t ht hc) rfl rfl rfl
  released hs := hazardWithTicket_cold rfl rfl rfl hs.steps hs.suspended
  reset _ := hazardWithTicket_cold rfl rfl rfl (by simp [State.stepRec, State.reset, Table.get])
    (by simp [State.reset, Sweep.cold])

/-- Settles O43: the flag is set before a trip's raise, no other raise names the class, and the only entry of its class and line
takes the flag with it when it closes. -/
theorem stepsKeepHazardWithTicket : Obligations.StepsKeepHazardWithTicket := fun _ _ =>
  durable_hazardWithTicket.step_next

end Sys2Proof.Machine


namespace Sys2Proof.Machine

/-! ## O4 and O44: the machine after reset -/

theorem reset_canonical : State.reset.Canonical := ⟨rfl, rfl, rfl, rfl, rfl, rfl, rfl, rfl⟩

theorem reset_withinRooms : State.reset.WithinRooms := by
  constructor <;> decide

theorem reset_noticesWithinRoom : State.reset.NoticesWithinRoom := by
  constructor <;> decide

/-- No channel is in an active stage after reset. -/
theorem reset_exposureBelowLimit : State.reset.ExposureBelowLimit where
  limit := by decide
  holds _ _ h := nomatch h
  below _ _ h := nomatch h

/-- Settles O44: the empty stores read as cold records everywhere. -/
theorem resetMeetsInvariants : Obligations.ResetMeetsInvariants :=
  ⟨reset_canonical, reset_withinRooms, reset_noticesWithinRoom, ticketsSound_cold rfl rfl,
    by unfold State.RoutineWithinFour; decide, reset_exposureBelowLimit, unequippedUntracked_cold rfl,
    durable_hazardWithTicket.reset []⟩

/-- Settles O4: an empty store reads as its cold record. -/
theorem resetValues : Obligations.ResetValues := by
  refine ⟨fun _ => rfl, fun _ => rfl, rfl, rfl, rfl, rfl, rfl, fun _ => rfl, fun _ => rfl, fun _ => rfl, fun _ => rfl,
    fun _ => rfl, fun _ _ => rfl, rfl, rfl, rfl, rfl, rfl, rfl, rfl, rfl, rfl, rfl⟩

end Sys2Proof.Machine


namespace Sys2Proof.Machine

/-! ## Commitment and the Order Screen (R7, R38 to R43) -/

theorem readOrder_line {f : Bytes} {o : Order} (h : readOrder f = some o) : o.line = wordAt f 4 := by
  unfold readOrder at h
  split at h
  · obtain ⟨c, -, rfl⟩ := Option.map_eq_some_iff.1 h; rfl
  · cases h

theorem orderBody_of_readOrder {f : Bytes} {o : Order} (h : readOrder f = some o) :
    orderBody f = byte2 o.line ++ byte1 (byteAt f 6) ++ byte1 (byteAt f 7) := by
  rw [orderBody, readOrder_line h]

/-- The ring orders' table in the words of R7. -/
theorem Condition.afterOrder_eq (k : OrderCode) (c : Condition) : c.afterOrder k =
    if k = .ringStart ∧ c ∈ [Condition.idle, .unknown] then .ringing
    else if k = .ringStop ∧ c = .ringing then .idle else c := by
  cases k <;> cases c <;> rfl

/-- A committed order touches the line table only. -/
theorem State.commit_eq (s : State) (f : Bytes) : s.commit f = { s with lines := (s.commit f).lines } := by
  unfold State.commit
  split
  · split <;> rfl
  · rfl

theorem State.commit_line {s : State} {f : Bytes} {o : Order} (h : readOrder f = some o) (m : Nat) :
    (s.commit f).line m = { s.line m with condition :=
      if m = o.line ∧ (s.line m).cls ≠ 0 then
        if o.code = .ringStart ∧ (s.line m).condition ∈ [Condition.idle, .unknown] then .ringing
        else if o.code = .ringStop ∧ (s.line m).condition = .ringing then .idle
        else (s.line m).condition
      else (s.line m).condition } := by
  simp only [State.commit, h]
  by_cases hc : (s.line o.line).cls = 0
  · by_cases hm : m = o.line
    · subst hm; rw [if_pos hc, if_neg fun hm => hm.2 hc]
    · simp [hc, hm]
  · by_cases hm : m = o.line
    · subst hm
      simp [hc, State.setCondition, Condition.afterOrder_eq]
    · simp [hc, hm, State.setCondition]

/-- A frame that enters the downstream queue in normal passage fills an open slot at once (R31). -/
theorem State.enterDown_normal {s : State} (h : s.phase = .normal) (f : Bytes) : s.enterDown f = { s with
    link.down := s.link.down ++ [f]
    link.portS := s.link.portS.giveSlot (!s.link.sOwn.isEmpty) true (heldBack (s.link.down ++ [f]) s.link.sOwn) } := by
  have hne : (!(s.link.down ++ [f]).isEmpty) = true := by simp
  simp only [State.enterDown, State.fillS, h, hne]
  rfl

theorem State.holdOrder_room {s : State} (h : s.hold.length < 32) (f : Bytes) (l : Nat) : s.holdOrder f l =
    { s with hold := s.hold ++ [⟨f, l, s.now, s.now + BitVec.ofNat 48 s.params.tHold⟩] } := if_pos h

theorem State.holdOrder_full {s : State} (h : 32 ≤ s.hold.length) (f : Bytes) (l : Nat) : s.holdOrder f l =
    s.notify .orderLapsed (byte1 2 ++ orderBody f) := if_neg (Nat.not_lt.2 h)

section Screen

variable {s : State} {f : Bytes} {o : Order}

theorem State.screen_relay (ho : o.code ∈ [OrderCode.tapConnect, .tapRelease, .cardAudit]) :
    s.screen f o = s.notify .orderRefused (orderBody f) := by
  unfold State.screen
  cases hc : o.code <;> simp [hc] at ho ⊢

theorem State.screen_open (ho : o.code ∉ [OrderCode.tapConnect, .tapRelease, .cardAudit])
    (ha : (s.line o.line).access ∈ [Access.free, .stuck]) : s.screen f o = (s.enterDown f).commit f := by
  unfold State.screen
  cases hc : o.code <;> simp [hc] at ho ⊢
  all_goals cases hl : (s.line o.line).access <;> simp [hl] at ha ⊢

theorem State.screen_held (ho : o.code ∉ [OrderCode.tapConnect, .tapRelease, .cardAudit])
    (ha : (s.line o.line).access ∉ [Access.free, .stuck]) : s.screen f o =
      if o.code = .ringStart ∧ (s.line o.line).access ≠ .flushing ∧ s.hold.length < 32 then
        (s.holdOrder f o.line).yieldTrigger o.line
      else s.holdOrder f o.line := by
  unfold State.screen
  cases hc : o.code <;> simp [hc] at ho ⊢
  all_goals cases hl : (s.line o.line).access <;> simp [hl] at ha ⊢ <;> rfl

/-- With a full queue an order that cannot pass is lost, the yield trigger with it. -/
theorem State.screen_lost (ho : o.code ∉ [OrderCode.tapConnect, .tapRelease, .cardAudit])
    (ha : (s.line o.line).access ∉ [Access.free, .stuck]) (hr : 32 ≤ s.hold.length) :
    s.screen f o = s.notify .orderLapsed (byte1 2 ++ orderBody f) := by
  rw [State.screen_held ho ha, if_neg fun h => absurd h.2.2 (by omega), State.holdOrder_full hr]

/-- An order forwarded: it is the last of the downstream queue, fills an open slot, and is committed. -/
theorem State.screen_forwarded (hn : s.phase = .normal) (ho : o.code ∉ [OrderCode.tapConnect, .tapRelease, .cardAudit])
    (ha : (s.line o.line).access ∈ [Access.free, .stuck]) : s.screen f o = { s with
      link.down := s.link.down ++ [f]
      link.portS := s.link.portS.giveSlot (!s.link.sOwn.isEmpty) true (heldBack (s.link.down ++ [f]) s.link.sOwn)
      lines := (s.screen f o).lines } := by
  rw [State.screen_open ho ha, State.commit_eq, State.enterDown_normal hn]

end Screen

/-- Settles O8, code by code of the order and access state by access state of its line. -/
theorem orderScreen : Obligations.OrderScreen := by
  intro f o s hn hf
  rw [← orderBody_of_readOrder hf]
  refine ⟨State.screen_relay, fun ho => ⟨fun ha => ⟨State.screen_forwarded hn ho ha, fun m => ?_⟩, fun ha hr => ⟨?_, ?_⟩,
    State.screen_lost ho⟩⟩
  · rw [State.screen_open ho ha, State.commit_line hf, State.enterDown_line]
  · intro hq
    rw [State.screen_held ho ha, if_neg fun h => hq.elim (absurd h.1) (absurd · h.2.1), State.holdOrder_room hr]
  · intro hq hl
    rw [State.screen_held ho ha, if_pos ⟨hq, hl, hr⟩, State.holdOrder_room hr]

end Sys2Proof.Machine


namespace Sys2Proof.Machine

/-! ## What arrives at Port S (R20, R24, R26) -/

theorem scanEventOf_eq_some_iff (n : Nat) (e : ScanEvent) : scanEventOf n = some e ↔
    (n, e) ∈ [(0x01, ScanEvent.loopClosed), (0x02, .loopOpen), (0x03, .ringTripped), (0x08, .tapMade), (0x09, .tapBroken),
      (0x10, .cardFault), (0x11, .cardOk), (0x12, .cardAbsent), (0x13, .cardState)] := by
  unfold scanEventOf
  split <;> simp_all [eq_comm]

theorem readScan_eq_some_iff (f : Bytes) (x : Scan) : readScan f = some x ↔
    byteAt f 0 = 0x11 ∧ byteAt f 3 = 5 ∧ wordAt f 4 < 4096 ∧ x.line = wordAt f 4 ∧ x.argument = byteAt f 7 ∧
      x.bitmap = byteAt f 8 ∧ scanEventOf (byteAt f 6) = some x.event := by
  obtain ⟨l, e, a, b⟩ := x
  unfold readScan
  split
  · next h =>
    obtain ⟨hk, hl, hw⟩ := h
    have : byteAt f 0 = 0x11 := hk
    have : byteAt f 3 = 5 := hl
    have : wordAt f 4 < 4096 := hw
    rw [Option.map_eq_some_iff]
    grind
  · next h => exact ⟨nofun, fun ⟨hk, hl, hw, _⟩ => absurd ⟨hk, hl, hw⟩ h⟩

theorem readSample_eq_some_iff (f : Bytes) (x : Sample) : readSample f = some x ↔
    byteAt f 0 = 0x20 ∧ byteAt f 3 = 68 ∧ x.head = byteAt f 4 ∧ x.epoch = byteAt f 5 ∧ x.sequence = byteAt f 6 ∧
      x.temp = (f.getD 7 0).toInt ∧ x.pairs = samplePairs ((f.drop 8).take 64) := by
  obtain ⟨h, e, q, t, p⟩ := x
  unfold readSample
  split
  · next hf =>
    have : byteAt f 0 = 0x20 := hf.1
    have : byteAt f 3 = 68 := hf.2
    grind
  · next hf => exact ⟨nofun, fun ⟨hk, hl, _⟩ => absurd ⟨hk, hl⟩ hf⟩

theorem isKnownKind_iff (k : Nat) : isKnownKind k = true ↔ k ∈ [0x10, 0x11, 0x20, 0x21, 0x30, 0x31] := by
  simp [isKnownKind, kindOrder, kindScan, kindSample, kindDirective, kindDesk, kindNotice, or_assoc]

theorem toPart_iff (f : Bytes) : toPart f = true ↔ byteAt f 1 = 30 := by
  simp [toPart, frameDest, Config.node]

theorem ScanEvent.relay_iff (e : ScanEvent) : e.relay = true ↔ e ∈ [ScanEvent.tapMade, .tapBroken] := by
  cases e <;> decide

theorem State.enterUp_normal {s : State} (h : s.phase = .normal) (f : Bytes) : s.enterUp f = { s with
    link.up := s.link.up ++ [f]
    link.portU := s.link.portU.giveSlot (!s.desk.notices.isEmpty) true false } := by
  have hne : (!(s.link.up ++ [f]).isEmpty) = true := by simp
  simp only [State.enterUp, State.fillU, h, hne]
  rfl

/-- A sound frame with room for it is dispatched, and the act ends with the Sweep Unit's judgements. -/
theorem exec_frameArrivesPortS {s : State} {f : Bytes} (hn : s.phase = .normal) (hr : s.link.up.length < 16)
    (hl : f.length = byteAt f 3 + 6) (hm : byteAt f 3 ≤ 250) (hc : crc (f.take (4 + byteAt f 3)) = wordAt f (4 + byteAt f 3)) :
    exec (.frameArrivesPortS f) s = .next (s.dispatchS f).settle := by
  have hform : passesForm f = true := by simp [passesForm, formOk, checkOk, frameLength, hl, hm, hc]
  have hcredit : 0 < s.creditS := by
    have : s.creditS = 16 - s.link.up.length := by simp [State.creditS, hn, Config.transitRoom]
    omega
  simp only [exec, execFrameArrivesPortS, hn, hcredit, hform, and_self, if_true]

section DispatchS

variable {s : State} {f : Bytes}

theorem State.dispatchS_scan_ends {x : Scan} (hx : readScan f = some x)
    (he : x.event ∈ [ScanEvent.tapMade, .tapBroken] ∨ byteAt f 1 = 30) : s.dispatchS f = s.readScanEvent x := by
  have h : (x.event.relay || toPart f) = true := by rwa [Bool.or_eq_true, ScanEvent.relay_iff, toPart_iff]
  simp [State.dispatchS, hx, State.dispatchScan, h]

theorem State.dispatchS_scan_passes {x : Scan} (hx : readScan f = some x)
    (he : x.event ∉ [ScanEvent.tapMade, .tapBroken]) (hd : byteAt f 1 ≠ 30) :
    s.dispatchS f = (s.readScanEvent x).enterUp f := by
  have h : ¬ (x.event.relay || toPart f) = true := by
    rw [Bool.or_eq_true, ScanEvent.relay_iff, toPart_iff]; exact fun h => h.elim he hd
  simp [State.dispatchS, hx, State.dispatchScan, h]

/-- A SAMPLE is no SCAN: their kinds differ. -/
theorem State.dispatchS_sample {x : Sample} (hx : readSample f = some x) (hd : byteAt f 1 = 30) :
    s.dispatchS f = s.takeSample x := by
  have hk : byteAt f 0 = 0x20 := ((readSample_eq_some_iff f x).1 hx).1
  have hs : readScan f = none := by simp [readScan, frameKind, kindScan, hk]
  have hknown : isKnownKind (frameKind f) = true := (isKnownKind_iff _).2 (by simp [frameKind, hk])
  simp [State.dispatchS, hs, hknown, (toPart_iff f).2 hd, hx]

theorem State.dispatchS_discarded (hk : byteAt f 0 ∈ [0x10, 0x11, 0x20, 0x21, 0x30, 0x31]) (hd : byteAt f 1 = 30)
    (h1 : readScan f = none) (h2 : readSample f = none) : s.dispatchS f = s.countDiscard .s := by
  simp [State.dispatchS, h1, (isKnownKind_iff (frameKind f)).2 hk, (toPart_iff f).2 hd, h2]

theorem State.dispatchS_crosses (h1 : readScan f = none)
    (h2 : byteAt f 1 ≠ 30 ∨ byteAt f 0 ∉ [0x10, 0x11, 0x20, 0x21, 0x30, 0x31]) : s.dispatchS f = s.enterUp f := by
  have h : ¬ ((isKnownKind (frameKind f) && toPart f) = true) := by
    rw [Bool.and_eq_true, isKnownKind_iff, toPart_iff]
    exact fun h => h2.elim (absurd h.2) (absurd h.1)
  simp [State.dispatchS, h1, h]

theorem State.readScanEvent_loop {x : Scan} (h : x.event ∈ [ScanEvent.loopClosed, .loopOpen, .ringTripped]) :
    s.readScanEvent x = s.loopEvent x.line x.event := by
  unfold State.readScanEvent
  cases he : x.event <;> simp [he] at h ⊢

theorem State.readScanEvent_cardDown {x : Scan} (h : x.event ∈ [ScanEvent.cardFault, .cardAbsent]) :
    s.readScanEvent x = s.cardDown (x.line / 16) := by
  unfold State.readScanEvent
  cases he : x.event <;> simp [he] at h ⊢

end DispatchS

/-- Settles O9: dispatch frame kind by frame kind, then the two decoders field by field. -/
theorem portSDispatch : Obligations.PortSDispatch := by
  refine ⟨fun f s hn hr hl hm hc => ?_, fun s x => ⟨State.readScanEvent_loop,
      fun h => by simp only [State.readScanEvent, h], fun h => by simp only [State.readScanEvent, h],
      State.readScanEvent_cardDown,
      fun h => by simp only [State.readScanEvent, h], fun h => by simp only [State.readScanEvent, h]⟩,
    fun f x => ?_, readSample_eq_some_iff, fun _ _ _ _ _ => rfl⟩
  · rw [exec_frameArrivesPortS hn hr hl hm hc]
    refine ⟨fun x hx he => ?_, fun x hx he hd => ?_, fun x hx hd => ?_, fun hk hd h1 h2 => ?_, fun h1 h2 => ?_⟩
    · rw [State.dispatchS_scan_ends hx he]
    · rw [State.dispatchS_scan_passes hx he hd]
    · rw [State.dispatchS_sample hx hd]
    · rw [State.dispatchS_discarded hk hd h1 h2]; rfl
    · rw [State.dispatchS_crosses h1 h2, State.enterUp_normal hn]
  · rw [readScan_eq_some_iff, scanEventOf_eq_some_iff]

end Sys2Proof.Machine


namespace Sys2Proof.Machine

/-! ## What leaves Port S (R11, R28, R30, R51, R64, R98) -/

theorem State.fillS_running {s : State} (h : s.phase ≠ .held) : s.fillS = { s with
    link.portS := s.link.portS.giveSlot (!s.link.sOwn.isEmpty) (!s.link.down.isEmpty) (heldBack s.link.down s.link.sOwn) } :=
  if_neg h

/-! ### The timer tied to a frame that has left -/

section StartTied

variable {s : State} {f : OwnFrame}

theorem State.startTied_none (h : f.tie = .untied ∨ ∃ l, f.tie = .flush l) : s.startTied f = s := by
  obtain h | ⟨l, h⟩ := h <;> simp only [State.startTied, h]

theorem State.startTied_confirm {b : Nat} (h : f.tie = .confirm b) (ht : (s.bus b).confirm = .tied f.serial) :
    s.startTied f = s.setBus b { s.bus b with confirm := .running (s.now + BitVec.ofNat 48 s.params.tTap) } := by
  simp only [State.startTied, h, ht, if_true, after]

theorem State.startTied_confirm_loose {b : Nat} (h : f.tie = .confirm b) (ht : (s.bus b).confirm ≠ .tied f.serial) :
    s.startTied f = s := by
  simp only [State.startTied, h, ht, if_false]

theorem State.startTied_stray {b l : Nat} (h : f.tie = .stray b) (ht : (s.bus b).stray = some ⟨l, .tied f.serial⟩) :
    s.startTied f =
      s.setBus b { s.bus b with stray := some ⟨l, .running (s.now + BitVec.ofNat 48 s.params.tTap)⟩ } := by
  simp only [State.startTied, h, ht, if_true, after]

theorem State.startTied_stray_loose {b : Nat} (h : f.tie = .stray b)
    (ht : ∀ m, (s.bus b).stray ≠ some ⟨m, .tied f.serial⟩) : s.startTied f = s := by
  simp only [State.startTied, h]
  split
  · next y hy =>
    refine if_neg fun hc => ht y.line ?_
    rw [hy, ← hc]
  · rfl

theorem State.startTied_audit {c : Nat} (h : f.tie = .audit c) (ht : (s.audit c).timer = .tied f.serial) :
    s.startTied f = s.setAudit c { s.audit c with timer := .running (s.now + BitVec.ofNat 48 s.params.tTap) } := by
  simp only [State.startTied, h, ht, if_true, after]

theorem State.startTied_audit_loose {c : Nat} (h : f.tie = .audit c) (ht : (s.audit c).timer ≠ .tied f.serial) :
    s.startTied f = s := by
  simp only [State.startTied, h, ht, if_false]

theorem State.startTied_head {n : Nat} {e} (h : f.tie = .head n e) (ht : (s.chan n).intake.tie = some f.serial)
    (ha : (s.chan n).stage.accepting = true) (he : (s.chan n).epoch = e) :
    s.startTied f = s.setChan n { s.chan n with intake := { (s.chan n).intake with
      tie := none, timer := some (s.now + BitVec.ofNat 48 s.params.tHead) } } := by
  simp only [State.startTied, h, ht, ha, he, and_self, if_true, after]

theorem State.startTied_head_past {n : Nat} {e} (h : f.tie = .head n e) (ht : (s.chan n).intake.tie = some f.serial)
    (ha : ¬ ((s.chan n).stage.accepting = true ∧ (s.chan n).epoch = e)) :
    s.startTied f = s.setChan n { s.chan n with intake := { (s.chan n).intake with tie := none } } := by
  simp only [State.startTied, h, ht, ha, if_true, if_false]

theorem State.startTied_head_loose {n : Nat} {e} (h : f.tie = .head n e) (ht : (s.chan n).intake.tie ≠ some f.serial) :
    s.startTied f = s := by
  simp only [State.startTied, h, ht, if_false]

end StartTied

theorem exec_frameLeavesPort_own {s : State} {f : OwnFrame} {rest : List OwnFrame}
    (hs : s.link.portS.sending = some .own) (ho : s.link.sOwn = f :: rest) :
    exec (.frameLeavesPort .s) s =
      .next (State.startTied { s with link.sOwn := rest, link.portS := s.link.portS.departed } f).fillS := by
  simp only [exec, execFrameLeavesPort, hs, State.leaveSOwn, ho]

/-- Settles O12, tie by tie; the frames are those of the layouts by definition, but for the level of SOURCE. -/
theorem ownFrameLeavesAndItsTimerStarts : Obligations.OwnFrameLeavesAndItsTimerStarts := by
  refine ⟨fun s f rest hp hs ho => ?_, fun _ _ _ _ => rfl, fun _ _ => ⟨rfl, rfl⟩, fun _ _ => rfl,
    fun h e r h1 h2 => ?_, fun h e p => ?_⟩
  · rw [exec_frameLeavesPort_own hs ho]
    refine ⟨fun ht => ?_, fun b ht => ⟨fun hb => ?_, fun hb => ?_⟩, fun b l ht => ⟨fun hb => ?_, fun hb => ?_⟩,
      fun c ht => ⟨fun hc => ?_, fun hc => ?_⟩, fun n e ht hc ha he => ?_, fun n e ht hc ha => ?_, fun n e ht hc => ?_⟩
    · rw [State.startTied_none ht, State.fillS_running (by exact hp)]; rfl
    · rw [State.startTied_confirm ht (by exact hb), State.fillS_running (by exact hp)]; rfl
    · rw [State.startTied_confirm_loose ht (by exact hb), State.fillS_running (by exact hp)]; rfl
    · rw [State.startTied_stray ht (by exact hb), State.fillS_running (by exact hp)]; rfl
    · rw [State.startTied_stray_loose ht (by exact hb), State.fillS_running (by exact hp)]; rfl
    · rw [State.startTied_audit ht (by exact hc), State.fillS_running (by exact hp)]; rfl
    · rw [State.startTied_audit_loose ht (by exact hc), State.fillS_running (by exact hp)]; rfl
    · rw [State.startTied_head ht (by exact hc) (by exact ha) (by exact he), State.fillS_running (by exact hp)]; rfl
    · rw [State.startTied_head_past ht (by exact hc) (by exact ha), State.fillS_running (by exact hp)]; rfl
    · rw [State.startTied_head_loose ht (by exact hc), State.fillS_running (by exact hp)]; rfl
  · simp only [sourceDirective, directiveFrame, levelByte, h1, h2, and_self, if_true]
    rfl
  · cases p <;> rfl

end Sys2Proof.Machine


namespace Sys2Proof.Machine

/-! ## Offers and flushes (R7, R29, R46, R50) -/

theorem State.commit_eq_afterOrder (s : State) (f : Bytes) : s.commit f = s.afterOrder f := by
  unfold State.commit State.afterOrder
  cases readOrder f with
  | none => rfl
  | some o => simp only [State.setCondition, Condition.afterOrder_eq]

@[simp] theorem State.afterOrder_flushes (s : State) (f : Bytes) : (s.afterOrder f).flushes = s.flushes := by
  rw [← State.commit_eq_afterOrder]; simp

@[simp] theorem State.afterOrder_hold (s : State) (f : Bytes) : (s.afterOrder f).hold = s.hold := by
  rw [← State.commit_eq_afterOrder]; simp

/-- A frame that enters the S-own queue while the part runs fills an open slot at once (R31). -/
theorem State.enterSOwn_running {s : State} (h : s.phase ≠ .held) (f : OwnFrame) : s.enterSOwn f = { s with
    link.sOwn := s.link.sOwn ++ [f]
    link.portS := s.link.portS.giveSlot true (!s.link.down.isEmpty) (heldBack s.link.down (s.link.sOwn ++ [f])) } := by
  have hne : (!(s.link.sOwn ++ [f]).isEmpty) = true := by simp
  rw [State.enterSOwn, State.fillS_running (by exact h)]
  simp only [hne]

theorem State.sOwnOpen_eq_true {s : State} (ho : s.link.offers = []) (hw : s.link.sOwn.length < 16) : s.sOwnOpen = true := by
  simp [State.sOwnOpen, Config.sOwnRoom, ho, hw]

theorem State.sOwnOpen_eq_false {s : State} (h : s.link.offers ≠ [] ∨ 16 ≤ s.link.sOwn.length) : s.sOwnOpen = false := by
  rw [Bool.eq_false_iff]
  intro hc
  obtain ⟨ho, hw⟩ : s.link.offers = [] ∧ s.link.sOwn.length < Config.sOwnRoom := by simpa [State.sOwnOpen] using hc
  exact h.elim (absurd ho) (Nat.not_le.2 hw)

/-- An offer that cannot enter waits behind the earlier ones (R29). -/
theorem State.offer_waits {s : State} (h : s.sOwnOpen = false) (f : Bytes) (t : Tie) : s.offer f t = { s with
    link.serial := s.link.serial + 1
    link.offers := s.link.offers ++ [⟨f, s.link.serial, t⟩] } := by
  simp [State.offer, h]

/-- An offer that finds an entry free, and no earlier offer, enters at once (R29). -/
theorem State.offer_enters {s : State} (hp : s.phase ≠ .held) (h : s.sOwnOpen = true) (f : Bytes) (t : Tie) :
    s.offer f t = { s with
      link.serial := s.link.serial + 1
      link.sOwn := s.link.sOwn ++ [⟨f, s.link.serial, t⟩]
      link.portS := s.link.portS.giveSlot true (!s.link.down.isEmpty)
        (heldBack s.link.down (s.link.sOwn ++ [⟨f, s.link.serial, t⟩])) } := by
  rw [State.offer, if_pos h, State.enterSOwn_running (by exact hp)]

/-! ### One flush among the others -/

section Flush

variable {s : State} {l : Nat}

theorem State.flush_none (h : ∀ x ∈ s.flushes, x.line ≠ l) : s.flush l = none :=
  List.find?_eq_none.2 fun x hx => by simpa using h x hx

theorem find_hold_none {L : List HoldRec} (h : ∀ q ∈ L, q.line ≠ l) : L.find? (fun r => r.line == l) = none :=
  List.find?_eq_none.2 fun x hx => by simpa using h x hx

theorem find_hold_oldest {ahead behind : List HoldRec} {r : HoldRec} (hr : r.line = l) (h : ∀ q ∈ ahead, q.line ≠ l) :
    (ahead ++ r :: behind).find? (fun r => r.line == l) = some r := by
  rw [List.find?_append, find_hold_none h]; simp [hr]

theorem eraseP_hold_oldest {ahead behind : List HoldRec} {r : HoldRec} (hr : r.line = l) (h : ∀ q ∈ ahead, q.line ≠ l) :
    (ahead ++ r :: behind).eraseP (fun r => r.line == l) = ahead ++ behind := by
  rw [List.eraseP_append_right _ fun x hx => by simpa using h x hx, List.eraseP_cons_of_pos (by simpa using hr)]

theorem State.flushOn_none (h : s.flush l = none) : s.flushOn l = s := by
  simp only [State.flushOn, State.runFlush, h]

theorem State.flushOn_outstanding {f : Flush} (h : s.flush l = some f) (hf : f.onOffer ≠ none) : s.flushOn l = s := by
  simp only [State.flushOn, State.runFlush, h, Option.isSome_iff_ne_none.2 hf, if_true]

variable {before after : List Flush} {stuck : Bool}

theorem State.endFlush_eq_flushDone {out} (hs : s.flushes = before ++ ⟨l, out, stuck⟩ :: after)
    (hb : ∀ x ∈ before ++ after, x.line ≠ l) : s.endFlush ⟨l, out, stuck⟩ = s.flushDone (before ++ after) l stuck := by
  simp only [State.endFlush, State.flushDone, hs, flush_removed hb]
  rfl

theorem State.flushOn_done (hs : s.flushes = before ++ ⟨l, none, stuck⟩ :: after) (hb : ∀ x ∈ before ++ after, x.line ≠ l)
    (hh : ∀ q ∈ s.hold, q.line ≠ l) : s.flushOn l = s.flushDone (before ++ after) l stuck := by
  have hf : s.flush l = some ⟨l, none, stuck⟩ := by rw [State.flush, hs, flush_found hb]
  simp only [State.flushOn, State.runFlush, hf, find_hold_none hh, ← State.endFlush_eq_flushDone hs hb]
  rfl

/-! ### The next record of a flush -/

variable {ahead behind : List HoldRec} {r : HoldRec} (hs : s.flushes = before ++ ⟨l, none, stuck⟩ :: after)
  (hb : ∀ x ∈ before ++ after, x.line ≠ l) (hh : s.hold = ahead ++ r :: behind) (hr : r.line = l)
  (ha : ∀ q ∈ ahead, q.line ≠ l)
include hs hb hh hr ha

/-- One round of a flush that has a record left. -/
theorem State.flushOn_record : s.flushOn l =
    if s.transitHolds l then s else
      let u : State := State.offer { s with hold := ahead ++ behind } r.frame (.flush l)
      if s.sOwnOpen then (u.commit r.frame).flushOn l else u.setFlush ⟨l, some r, stuck⟩ := by
  have hf : s.flush l = some ⟨l, none, stuck⟩ := by rw [State.flush, hs, flush_found hb]
  have h1 : s.hold.find? (fun r => r.line == l) = some r := by rw [hh, find_hold_oldest hr ha]
  have h2 : s.hold.eraseP (fun r => r.line == l) = ahead ++ behind := by rw [hh, eraseP_hold_oldest hr ha]
  have h3 : s.hold.length = (ahead ++ behind).length + 1 := by rw [hh]; simp; omega
  have h4 : State.sOwnOpen { s with hold := ahead ++ behind } = s.sOwnOpen := rfl
  rw [State.flushOn, State.runFlush]
  simp only [hf, h1, h2, h3, h4, State.flushOn, State.commit_keeps, State.offer_keeps]
  rfl

theorem State.flushOn_waits (ht : s.link.down.any (isOrderFor l) = true) : s.flushOn l = s := by
  rw [State.flushOn_record hs hb hh hr ha, State.transitHolds, if_pos ht]

theorem State.flushOn_offers (ht : s.link.down.any (isOrderFor l) = false)
    (ho : s.link.offers ≠ [] ∨ 16 ≤ s.link.sOwn.length) : s.flushOn l = { s with
      hold := ahead ++ behind
      flushes := before ++ ⟨l, some r, stuck⟩ :: after
      link.serial := s.link.serial + 1
      link.offers := s.link.offers ++ [⟨r.frame, s.link.serial, .flush l⟩] } := by
  have hopen := State.sOwnOpen_eq_false ho
  have h2 := flush_replaced (after := after) (out := none) (stuck := stuck) (⟨l, some r, stuck⟩ : Flush) rfl hb
  rw [State.flushOn_record hs hb hh hr ha, State.transitHolds, if_neg (by simp [ht]), if_neg (by simp [hopen]),
    State.offer_waits (by exact hopen)]
  simp only [State.setFlush, hs, h2]

/-- The oldest record enters the S-own queue, is committed, and the flush goes on. -/
theorem State.flushOn_enters (hp : s.phase ≠ .held) (ht : s.link.down.any (isOrderFor l) = false)
    (ho : s.link.offers = []) (hw : s.link.sOwn.length < 16) : s.flushOn l =
      (({ s with
        hold := ahead ++ behind
        link.serial := s.link.serial + 1
        link.sOwn := s.link.sOwn ++ [⟨r.frame, s.link.serial, .flush l⟩]
        link.portS := s.link.portS.giveSlot true (!s.link.down.isEmpty)
          (heldBack s.link.down (s.link.sOwn ++ [⟨r.frame, s.link.serial, .flush l⟩])) } :
        State).afterOrder r.frame).flushOn l := by
  have hopen := State.sOwnOpen_eq_true ho hw
  rw [State.flushOn_record hs hb hh hr ha, State.transitHolds, if_neg (by simp [ht]), if_pos hopen,
    State.offer_enters (by exact hp) (by exact hopen), State.commit_eq_afterOrder]

end Flush

/-! ### The oldest waiting offer -/

section OfferEnters

variable {s : State} {f : OwnFrame} {rest : List OwnFrame}

theorem exec_sOwnOfferEnters_full (ho : s.link.offers = f :: rest) (h : 16 ≤ s.link.sOwn.length) :
    exec .sOwnOfferEnters s = .next s := by
  simp only [exec, execSOwnOfferEnters, ho]
  exact if_neg (Nat.not_lt.2 h)

theorem exec_sOwnOfferEnters (ho : s.link.offers = f :: rest) (h : s.link.sOwn.length < 16) :
    exec .sOwnOfferEnters s = .next (s.offerEnters f rest) := by
  simp only [exec, execSOwnOfferEnters, ho]
  exact if_pos h

theorem State.offerEnters_plain (h : ∀ l, f.tie ≠ .flush l) :
    s.offerEnters f rest = State.enterSOwn { s with link.offers := rest } f := by
  unfold State.offerEnters
  cases ht : f.tie <;> simp_all

variable {l : Nat} (h : f.tie = .flush l)
include h

theorem State.offerEnters_noFlush (hf : ∀ x ∈ s.flushes, x.line ≠ l) :
    s.offerEnters f rest = (State.enterSOwn { s with link.offers := rest } f).afterOrder f.bytes := by
  have hno : ((State.enterSOwn { s with link.offers := rest } f).commit f.bytes).flush l = none :=
    State.flush_none (by simpa using hf)
  simp only [State.offerEnters, h, hno, ← State.commit_eq_afterOrder]

/-- A released order has entered and been committed: its line's flush goes on, with no offer outstanding. -/
theorem State.offerEnters_flush {before after out stuck} (hs : s.flushes = before ++ ⟨l, out, stuck⟩ :: after)
    (hb : ∀ x ∈ before ++ after, x.line ≠ l) : s.offerEnters f rest =
      State.flushOn { (State.enterSOwn { s with link.offers := rest } f).afterOrder f.bytes with
        flushes := before ++ ⟨l, none, stuck⟩ :: after } l := by
  have hv : ((State.enterSOwn { s with link.offers := rest } f).commit f.bytes).flushes = before ++ ⟨l, out, stuck⟩ :: after := by
    simpa using hs
  have hfound : ((State.enterSOwn { s with link.offers := rest } f).commit f.bytes).flush l = some ⟨l, out, stuck⟩ := by
    rw [State.flush, hv, flush_found hb]
  have hrep := flush_replaced (after := after) (out := out) (stuck := stuck) (⟨l, none, stuck⟩ : Flush) rfl hb
  simp only [State.offerEnters, h, hfound, State.setFlush, hv, hrep, ← State.commit_eq_afterOrder]

end OfferEnters

/-- Settles O14: the oldest offer by its tie, then a flush by what stands in its way. -/
theorem ownOffersAndFlushes : Obligations.OwnOffersAndFlushes := by
  refine ⟨fun s h => by simp only [exec, execSOwnOfferEnters, h],
    fun s f rest hp ho => ⟨exec_sOwnOfferEnters_full ho, fun hw => ?_⟩,
    fun s l h => congrArg _ (State.flushOn_none (State.flush_none h)), fun s l before after out stuck hp hs hb =>
      ⟨fun hout => ?_, fun hout hh => ?_, fun ahead r behind hout hh hr ha =>
        ⟨fun ht => ?_, fun ht hoff => ?_, fun ht hoff hw => ?_⟩⟩⟩
  · rw [exec_sOwnOfferEnters ho hw]
    have hu := State.enterSOwn_running (s := { s with link.offers := rest }) hp f
    refine ⟨fun ht => ?_, fun l ht => ⟨fun hf => ?_, fun before after out stuck hs hb => ⟨fun hh => ?_, ?_⟩⟩⟩
    · rw [State.offerEnters_plain ht, hu]
    · rw [State.offerEnters_noFlush ht hf, hu]
    · rw [State.offerEnters_flush ht hs hb, hu, State.flushOn_done rfl hb (by simpa using hh)]; rfl
    · rw [State.offerEnters_flush ht hs hb, hu]; rfl
  · exact congrArg _ (State.flushOn_outstanding (by rw [State.flush, hs, flush_found hb]) hout)
  all_goals subst hout
  · exact congrArg _ (State.flushOn_done hs hb hh)
  · exact congrArg _ (State.flushOn_waits hs hb hh hr ha ht)
  · exact congrArg _ (State.flushOn_offers hs hb hh hr ha ht hoff)
  · have hnext := State.flushOn_enters hs hb hh hr ha hp ht hoff hw
    refine ⟨fun hbehind => congrArg Host.Outcome.next ?_, congrArg Host.Outcome.next hnext⟩
    refine hnext.trans (State.flushOn_done (by simpa using hs) hb ?_)
    simpa [or_imp, forall_and] using ⟨ha, hbehind⟩

end Sys2Proof.Machine


namespace Sys2Proof.Machine

/-! ## Flap-unit boundaries, minutes and audit timeouts (R12, R13, R125, R185) -/

theorem reached_of_lt {now e : Time} (h : (now - e).toNat < 2 ^ 47) : reached now e = true := decide_eq_true h

theorem not_reached_of_le {now e : Time} (h : 2 ^ 47 ≤ (now - e).toNat) : reached now e = false :=
  decide_eq_false (Nat.not_lt.2 h)

section Clock

variable {s : State} (hp : s.phase ≠ .held)
include hp

theorem exec_flapUnitBoundary :
    exec .flapUnitBoundary s = .next (if reached s.now s.nextFlap then s.flapBoundary else s) := by
  simp only [exec, execFlapUnitBoundary]
  cases hs : s.phase with
  | held => exact absurd hs hp
  | bypass | normal => dsimp only; split <;> rfl

theorem exec_minuteCounterAdvance :
    exec .minuteCounterAdvance s = .next (if reached s.now s.nextMinute then s.nextMinuteComes else s) := by
  simp only [exec, execMinuteCounterAdvance]
  cases hs : s.phase with
  | held => exact absurd hs hp
  | bypass | normal => dsimp only; split <;> rfl

end Clock

theorem Timer.due_iff (t : Timer) (now : Time) :
    t.due now = true ↔ ∃ till, t = .running till ∧ (now - till).toNat < 2 ^ 47 := by
  cases t <;> simp [Timer.due, reached]

/-- Settles O18. -/
theorem clockEvents : Obligations.ClockEvents := by
  intro s hp
  rw [exec_flapUnitBoundary hp, exec_minuteCounterAdvance hp]
  refine ⟨fun h hw => ⟨_, rfl, ?_⟩, fun h => ?_, fun h => ?_, fun h => ?_, fun c till ht h => ?_, fun c h => ?_⟩
  · rw [if_pos (reached_of_lt h)]
    exact ⟨State.flapBoundary_line hw, rfl⟩
  · rw [if_neg (by simp [not_reached_of_le h])]
  · rw [if_pos (reached_of_lt h)]; rfl
  · rw [if_neg (by simp [not_reached_of_le h])]
  · exact if_pos ((Timer.due_iff _ _).2 ⟨till, ht, h⟩)
  · refine if_neg fun hd => ?_
    obtain ⟨till, ht, hlt⟩ := (Timer.due_iff _ _).1 hd
    exact absurd hlt (Nat.not_lt.2 (h till ht))

end Sys2Proof.Machine


namespace Sys2Proof.Machine

/-! ## Yields: of the line records they change the access at most (R68) -/

/-- Two records differ in the access at most. -/
def LineRec.SameButAccess (r q : LineRec) : Prop := { r with access := .free } = { q with access := .free }

theorem LineRec.SameButAccess.fields {r q : LineRec} (h : r.SameButAccess q) :
    r.condition = q.condition ∧ r.flapInterval = q.flapInterval ∧ r.flapCount = q.flapCount := by
  simp only [LineRec.SameButAccess, LineRec.mk.injEq] at h
  simp [h]

theorem State.release_line (s : State) (h l b m : Nat) : ((s.release h l b).line m).SameButAccess (s.line m) := by
  simp only [State.release, State.setBus_line, State.offer_line, State.setAccess, State.setLine_line, State.setChan_line]
  split
  · next he => subst he; rfl
  · rfl

theorem State.endByCause_line (s : State) (h : Nat) (o : TestOutcome) (m : Nat) :
    ((s.endByCause h o).line m).SameButAccess (s.line m) := by
  dsimp only [State.endByCause]
  split
  · split
    · exact State.release_line ..
    · rfl
  · rfl

theorem State.yieldTrigger_line (s : State) (l m : Nat) : ((s.yieldTrigger l).line m).SameButAccess (s.line m) := by
  unfold State.yieldTrigger
  split
  · split
    · exact State.endByCause_line ..
    · rfl
  · rfl

theorem State.foldYield_line (L : List Nat) (s : State) (m : Nat) :
    ((L.foldl State.yieldTrigger s).line m).SameButAccess (s.line m) := by
  induction L generalizing s with
  | nil => rfl
  | cons a L ih => exact (ih _).trans (s.yieldTrigger_line a m)

/-! ## Counted transitions and loop events (R6, R8, R14) -/

section CountedTransition

variable {s : State} {l : Nat}

/-- The flap count after a counted transition, before the limit is looked at (R14, step 2). -/
abbrev State.flapCountNext (s : State) (l : Nat) : Nat :=
  if (s.line l).flapInterval < s.params.flapThreshold then min 15 ((s.line l).flapCount + 1) else 0

theorem State.countedTransition_below (h : s.flapCountNext l < s.params.flapLimit) :
    s.countedTransition l = s.setLine l { s.line l with flapInterval := 0, flapCount := s.flapCountNext l } :=
  if_neg (Nat.not_le.2 h)

theorem State.countedTransition_limit (h : s.params.flapLimit ≤ s.flapCountNext l) : s.countedTransition l =
    ((s.setLine l { s.line l with flapInterval := 0, flapCount := 0 }).raise .line l .intermittentLoop none).offerSuspect
      l s.sweep.config.suspectPlan .flap := if_pos h

/-- An offer to the suspect queue works on the Sweep Unit's state alone. -/
theorem State.offerSuspect_sweep_congr {t : State} (h : t.sweep = s.sweep) (p : Nat) (r : Reason) :
    (t.offerSuspect l p r).sweep = (s.offerSuspect l p r).sweep := by
  have hfate : t.suspectFate l = s.suspectFate l := by simp only [State.suspectFate, h]
  unfold State.offerSuspect State.count State.wantAttempt
  rw [hfate]
  cases s.suspectFate l with
  | dropped => exact h
  | present => exact h
  | full => dsimp only; rw [h]; split <;> simp [h]
  | joined => simp [h]

/-- A counted transition of a line leaves the other lines alone, but for the open-ticket count of a line whose entry is
evicted. -/
theorem State.countedTransition_line_ne {m : Nat} (hm : m ≠ l) : ((s.countedTransition l).line m).SameButCount (s.line m) := by
  rcases Nat.lt_or_ge (s.flapCountNext l) s.params.flapLimit with h | h
  · rw [State.countedTransition_below h, State.setLine_line, if_neg hm]; rfl
  · rw [State.countedTransition_limit h, State.offerSuspect_line]
    refine (State.raise_line ..).trans ?_
    rw [State.setLine_line, if_neg hm]

theorem State.countedTransition_condition (m : Nat) : ((s.countedTransition l).line m).condition = (s.line m).condition := by
  by_cases hm : m = l
  · subst hm
    rcases Nat.lt_or_ge (s.flapCountNext m) s.params.flapLimit with h | h
    · rw [State.countedTransition_below h, State.setLine_line, if_pos rfl]
    · rw [State.countedTransition_limit h, State.offerSuspect_line, (State.raise_line ..).fields.2.1,
        State.setLine_line, if_pos rfl]
  · exact (State.countedTransition_line_ne hm).fields.2.1

/-- At the limit both counters of the line stand at 0. -/
theorem State.countedTransition_counters (h : s.params.flapLimit ≤ s.flapCountNext l) :
    ((s.countedTransition l).line l).flapInterval = 0 ∧ ((s.countedTransition l).line l).flapCount = 0 := by
  rw [State.countedTransition_limit h, State.offerSuspect_line]
  obtain ⟨-, -, -, -, hi, hc⟩ := (State.raise_line (s.setLine l { s.line l with flapInterval := 0, flapCount := 0 }) .line l
    .intermittentLoop none l).fields
  rw [hi, hc, State.setLine_line, if_pos rfl]
  exact ⟨rfl, rfl⟩

end CountedTransition

section LoopEvent

variable {s : State} {l : Nat} {e : ScanEvent}

theorem State.loopEvent_unequipped (h : (s.line l).cls = 0) : s.loopEvent l e = s := if_pos h

theorem State.loopEvent_dash (h : (s.line l).condition.onLoop e = none) : s.loopEvent l e = s := by
  unfold State.loopEvent
  split
  · rfl
  · rw [h]

variable (hc : (s.line l).cls ≠ 0)
include hc

/-- An entry of the table with a new condition other than OFF_HOOK: IDLE, by a counted transition. -/
theorem State.loopEvent_idle (h : (s.line l).condition.onLoop e = some (.idle, true)) :
    s.loopEvent l e = (s.setCondition l .idle).countedTransition l := by
  rw [State.loopEvent, if_neg hc, h]; rfl

theorem State.loopEvent_offHook {b : Bool} (h : (s.line l).condition.onLoop e = some (.offHook, b)) :
    s.loopEvent l e =
      (if b then (s.setCondition l .offHook).countedTransition l else s.setCondition l .offHook).yieldTrigger l := by
  rw [State.loopEvent, if_neg hc, h]; rfl

end LoopEvent

/-- The entries of the table, in the words of R6. -/
theorem Condition.onLoop_closing {e : ScanEvent} {k : Condition} (he : e ∈ [ScanEvent.loopClosed, .loopOpen, .ringTripped])
    (ho : e ≠ .loopOpen) (hk : k ∈ [Condition.unknown, .idle, .ringing]) :
    k.onLoop e = some (.offHook, e == .loopClosed) := by
  cases e <;> simp at he ho <;> cases k <;> simp at hk <;> rfl

theorem Condition.onLoop_open {k : Condition} (hk : k ∈ [Condition.unknown, .offHook]) :
    k.onLoop .loopOpen = some (.idle, true) := by
  cases k <;> simp at hk <;> rfl

theorem Condition.onLoop_none {e : ScanEvent} {k : Condition} (he : e ∈ [ScanEvent.loopClosed, .loopOpen, .ringTripped])
    (h : k = .cardDown ∨ (e ≠ .loopOpen ∧ k = .offHook) ∨ (e = .loopOpen ∧ k ∈ [Condition.idle, .ringing])) :
    k.onLoop e = none := by
  cases e <;> simp at he <;> cases k <;> simp at h <;> rfl

/-- A loop event changes no other line's condition. -/
theorem State.loopEvent_condition_ne (s : State) {l m : Nat} (e : ScanEvent) (hm : m ≠ l) :
    ((s.loopEvent l e).line m).condition = (s.line m).condition := by
  have hset : ∀ c, ((s.setCondition l c).line m).condition = (s.line m).condition := fun c => by
    rw [State.setCondition, State.setLine_line, if_neg hm]
  unfold State.loopEvent
  split
  · rfl
  split
  · rfl
  · dsimp only
    split
    · rw [(State.yieldTrigger_line ..).fields.1]
      split
      · rw [State.countedTransition_condition, hset]
      · exact hset _
    · split
      · rw [State.countedTransition_condition, hset]
      · exact hset _

/-- RING_TRIPPED is no counted transition: the counters stay. -/
theorem State.loopEvent_ringTripped_counters (s : State) (l : Nat) :
    ((s.loopEvent l .ringTripped).line l).flapInterval = (s.line l).flapInterval ∧
      ((s.loopEvent l .ringTripped).line l).flapCount = (s.line l).flapCount := by
  by_cases hc : (s.line l).cls = 0
  · rw [State.loopEvent_unequipped hc]; exact ⟨rfl, rfl⟩
  by_cases hk : (s.line l).condition ∈ [Condition.unknown, .idle, .ringing]
  · rw [State.loopEvent_offHook hc (Condition.onLoop_closing (by decide) (by decide) hk)]
    obtain ⟨-, hi, hn⟩ := (State.yieldTrigger_line (s.setCondition l .offHook) l l).fields
    exact ⟨hi.trans (by simp [State.setCondition]), hn.trans (by simp [State.setCondition])⟩
  · rw [State.loopEvent_dash]
    · exact ⟨rfl, rfl⟩
    · cases hq : (s.line l).condition <;> simp [hq] at hk <;> rfl

/-- Settles O16: the table entry by entry, then the two outcomes of the flap detector. -/
theorem loopEventsAndFlaps : Obligations.LoopEventsAndFlaps := by
  refine ⟨fun s l e he => ⟨fun h => ?_, fun hc ho hk => ?_, fun hc ho hk => ?_, fun m => s.loopEvent_condition_ne e, ?_⟩,
    fun s l => ⟨State.countedTransition_below, fun h => ⟨?_, ?_, ?_, fun hroom => ?_, fun m hm => ?_⟩⟩,
    fun s l hc => ⟨fun hk => ⟨?_, ?_⟩, fun hk => ?_⟩⟩
  · rcases h with h | h
    · exact State.loopEvent_unequipped h
    · exact State.loopEvent_dash (Condition.onLoop_none he h)
  · rw [State.loopEvent_offHook hc (Condition.onLoop_closing he ho hk), (State.yieldTrigger_line ..).fields.1]
    split
    · rw [State.countedTransition_condition]; simp [State.setCondition]
    · simp [State.setCondition]
  · subst ho
    rw [State.loopEvent_idle hc (Condition.onLoop_open hk), State.countedTransition_condition]
    simp [State.setCondition]
  · rintro rfl; exact s.loopEvent_ringTripped_counters l
  · exact (State.countedTransition_counters h).1
  · exact (State.countedTransition_counters h).2
  · rw [State.countedTransition_limit h]
    exact State.offerSuspect_sweep_congr (by simp) _ _
  · obtain ⟨k, hk, h1, h2, h3, h4, h5, -⟩ := State.raise_makes (s.setLine l { s.line l with flapInterval := 0, flapCount := 0 })
      .line l .intermittentLoop none hroom
    refine ⟨k, ?_, h1, h2, h3, h4, h5⟩
    rw [State.countedTransition_limit h]; simpa using hk
  · exact State.countedTransition_line_ne hm
  · exact State.loopEvent_offHook hc (Condition.onLoop_closing (by decide) (by decide) hk)
  · exact State.loopEvent_offHook hc (Condition.onLoop_closing (by decide) (by decide) hk)
  · exact State.loopEvent_idle hc (Condition.onLoop_open hk)

end Sys2Proof.Machine


namespace Sys2Proof.Machine

/-! ## Card events, audits and their answers (R8 to R12) -/

theorem mem_circuitsOf (c m : Nat) : m ∈ circuitsOf c ↔ m / 16 = c := by
  simp only [circuitsOf, List.mem_map, List.mem_range]
  constructor
  · rintro ⟨i, hi, rfl⟩; omega
  · rintro rfl; exact ⟨m % 16, by omega, by omega⟩

theorem circuitsOf_nodup (c : Nat) : (circuitsOf c).Nodup :=
  List.nodup_range.map fun i j h => by simpa using h

theorem State.setCardCondition_line (s : State) (c : Nat) (k : Condition) (m : Nat) : (s.setCardCondition c k).line m =
    { s.line m with condition := if m / 16 = c then k else (s.line m).condition } := by
  have h := (foldLines_line (fun _ r => { r with condition := k }) (circuitsOf c) s (circuitsOf_nodup c)).2 m
  simp only [mem_circuitsOf] at h
  rw [State.setCardCondition]
  refine h.trans ?_
  split <;> rfl

theorem State.offer_ownFrames (s : State) (f : Bytes) (t : Tie) :
    (s.offer f t).ownFrames = s.ownFrames ++ [⟨f, s.link.serial, t⟩] := by
  unfold State.ownFrames State.offer
  split
  · next h =>
    have ho : s.link.offers = [] := by simp only [State.sOwnOpen, Bool.and_eq_true, List.isEmpty_iff] at h; exact h.1
    simp [State.enterSOwn, ho]
  · simp

section RequestAudit

variable {s : State} {c : Nat}

theorem State.requestAudit_outstanding (h : (s.audit c).flag = true) : s.requestAudit c = s := if_pos h

theorem State.requestAudit_new (h : (s.audit c).flag = false) : s.requestAudit c =
    (s.offer (cardAuditFrame c) (.audit c)).setAudit c ⟨true, .tied s.link.serial⟩ := if_neg (by simp [h])

theorem State.requestAudit_audit : (s.requestAudit c).audit c =
    if (s.audit c).flag = true then s.audit c else ⟨true, .tied s.link.serial⟩ := by
  unfold State.requestAudit; split <;> simp

theorem State.requestAudit_ownFrames : (s.requestAudit c).ownFrames = s.ownFrames ++
    if (s.audit c).flag = true then [] else [⟨cardAuditFrame c, s.link.serial, .audit c⟩] := by
  unfold State.requestAudit
  split
  · simp
  · exact State.offer_ownFrames ..

end RequestAudit

/-- After a clear request no entry about the fault is other than CLEARED, in a table that holds one at most (R166, R172). -/
theorem State.clearTicket_state {s : State} {k n c}
    (h : s.tickets.entries.Pairwise fun a b => a.number ≠ b.number ∧
      ¬ (a.kind = b.kind ∧ a.subject = b.subject ∧ a.cls = b.cls))
    {x} (hx : x ∈ (s.clearTicket k n c).tickets.entries) (hxk : x.kind = k) (hxn : x.subject = n) (hxc : x.cls = c) :
    x.state = .cleared := by
  unfold State.clearTicket at hx
  cases hf : s.findTicket k n c with
  | none =>
    rw [hf] at hx
    exact absurd ⟨hxk, hxn, hxc⟩ (State.findTicket_eq_none_iff.1 hf x hx)
  | some t =>
    have ht : t ∈ s.tickets.entries := List.mem_of_find?_eq_some hf
    obtain ⟨⟨htk, htn⟩, htc⟩ : (t.kind = k ∧ t.subject = n) ∧ t.cls = c := by
      simpa [Ticket.isAbout] using List.find?_some hf
    have hsymm : Std.Symm fun a b : Ticket => a.number ≠ b.number ∧ ¬ (a.kind = b.kind ∧ a.subject = b.subject ∧ a.cls = b.cls) :=
      ⟨fun a b ⟨h1, h2⟩ => ⟨h1.symm, fun ⟨p, q, r⟩ => h2 ⟨p.symm, q.symm, r.symm⟩⟩⟩
    have only : ∀ y ∈ s.tickets.entries, y.kind = k → y.subject = n → y.cls = c → y = t := fun y hy hk hn hc => by
      by_contra hne
      exact (h.forall hy ht hne).2 ⟨hk.trans htk.symm, hn.trans htn.symm, hc.trans htc.symm⟩
    simp only [hf] at hx
    split at hx
    · next hcl => rw [only x hx hxk hxn hxc]; exact hcl
    · simp only [State.ticketNotice_keeps, State.putTicket, List.mem_map] at hx
      obtain ⟨y, hy, rfl⟩ := hx
      by_cases hnum : y.number = t.number
      · rw [if_pos hnum]
      · rw [if_neg hnum] at hxk hxn hxc
        exact absurd (congrArg _ (only y hy hxk hxn hxc)) hnum

/-! ### The answer to an audit -/

theorem closedIn_eq (b m : Nat) : closedIn b m = b.testBit (m % 16) := by
  rw [closedIn, Nat.testBit_eq_decide_div_mod_eq]; rfl

theorem LineRec.onCardState_eq (r : LineRec) (b : Bool) : r.onCardState b = { r with condition :=
    if r.cls ≠ 0 ∧ r.condition ∈ [Condition.unknown, .idle, .offHook] then (if b then .offHook else .idle)
    else r.condition } := by
  unfold LineRec.onCardState
  by_cases hc : r.cls = 0
  · rw [if_pos hc, if_neg fun h => h.1 hc]
  · rw [if_neg hc]
    obtain ⟨n, t, g, i, k, a, z, u, f, w, p, o⟩ := r
    have hn : n ≠ 0 := hc
    cases k <;> simp [hn]

theorem LineRec.goesOffHook_iff (r : LineRec) (b : Bool) :
    r.goesOffHook b = true ↔ r.cls ≠ 0 ∧ r.condition ∈ [Condition.unknown, .idle] ∧ b = true := by
  by_cases hc : r.cls = 0
  · cases hk : r.condition <;> cases b <;> simp [LineRec.goesOffHook, LineRec.onCardState, hc, hk]
  · cases hk : r.condition <;> cases b <;> simp [LineRec.goesOffHook, LineRec.onCardState, hc, hk]

theorem State.wouldYield_iff (s : State) (l : Nat) : s.wouldYield l = true ↔
    ∃ h t, (s.line l).access.channel = some h ∧ (s.chan h).test = some t ∧ t.priority = .routine ∧
      (s.chan h).stage.active = true := by
  unfold State.wouldYield
  cases hc : (s.line l).access.channel with
  | none => simp
  | some h => cases ht : (s.chan h).test <;> simp [Channel.candidate, Channel.holdsRoutine, ht]

/-- The state in which the card's circuits have their conditions by the bitmap (R12). -/
def State.cardConditions (s : State) (c bitmap : Nat) : State :=
  (circuitsOf c).foldl (fun s l => s.setLine l ((s.line l).onCardState (closedIn bitmap l))) s

theorem State.cardConditions_eq (s : State) (c bitmap : Nat) :
    s.cardConditions c bitmap = { s with lines := (s.cardConditions c bitmap).lines } :=
  (foldLines_line (fun l r => r.onCardState (closedIn bitmap l)) (circuitsOf c) s (circuitsOf_nodup c)).1

theorem State.cardConditions_chans (s : State) (c bitmap : Nat) : (s.cardConditions c bitmap).chans = s.chans := by
  have h := s.cardConditions_eq c bitmap
  generalize s.cardConditions c bitmap = u at h
  rw [h]

theorem State.cardConditions_line (s : State) (c bitmap m : Nat) : (s.cardConditions c bitmap).line m =
    { s.line m with condition :=
      if m / 16 = c ∧ (s.line m).cls ≠ 0 ∧ (s.line m).condition ∈ [Condition.unknown, .idle, .offHook] then
        (if bitmap.testBit (m % 16) then .offHook else .idle)
      else (s.line m).condition } := by
  have h := (foldLines_line (fun l r => r.onCardState (closedIn bitmap l)) (circuitsOf c) s (circuitsOf_nodup c)).2 m
  refine h.trans ?_
  simp only [mem_circuitsOf, LineRec.onCardState_eq, closedIn_eq]
  by_cases hm : m / 16 = c
  · simp only [hm, if_true, true_and]
  · simp only [hm, if_false, false_and]

/-- The circuits that yield at a CARD_STATE, ascending. -/
def State.cardYields (s : State) (c bitmap : Nat) : List Nat :=
  ((circuitsOf c).filter fun l => (s.line l).goesOffHook (closedIn bitmap l)).filter (s.cardConditions c bitmap).wouldYield

theorem State.mem_cardYields (s : State) (c bitmap m : Nat) : m ∈ s.cardYields c bitmap ↔
    m / 16 = c ∧ (s.line m).cls ≠ 0 ∧ (s.line m).condition ∈ [Condition.unknown, .idle] ∧
      bitmap.testBit (m % 16) = true ∧ ∃ h t, (s.line m).access.channel = some h ∧ (s.chan h).test = some t ∧
        t.priority = .routine ∧ (s.chan h).stage.active = true := by
  have hchan : ∀ h, (s.cardConditions c bitmap).chan h = s.chan h := fun h => by rw [State.chan, State.cardConditions_chans]; rfl
  rw [State.cardYields, List.mem_filter, List.mem_filter, mem_circuitsOf, LineRec.goesOffHook_iff, closedIn_eq,
    State.wouldYield_iff, State.cardConditions_line]
  simp only [hchan, and_assoc]

theorem State.cardYields_nodup (s : State) (c bitmap : Nat) : (s.cardYields c bitmap).Nodup :=
  ((circuitsOf_nodup c).filter _).filter _

theorem State.inFreeOrder_eq {α : Type} (u : State) (L : List α) : ∃ (order : List α) (n : Nat),
    order.Perm L ∧ u.inFreeOrder L = (order, { u with choice := n }) :=
  ⟨_, _, freeOrder_perm _ _ _ (Nat.le_refl _), rfl⟩

/-- The record of a circuit or another line after a CARD_STATE, but for the yields (R12). -/
abbrev State.answeredLine (s : State) (c bitmap m : Nat) : LineRec := { s.line m with condition :=
  if m / 16 = c ∧ (s.line m).cls ≠ 0 ∧ (s.line m).condition ∈ [Condition.unknown, .idle, .offHook] then
    (if bitmap.testBit (m % 16) then .offHook else .idle)
  else (s.line m).condition }

/-- The conditions are set, the circuits yield in a free order, and the audit is over (log entry 5). -/
theorem State.cardState_eq (s : State) (c bitmap : Nat) : ∃ (lines : Table LineRec) (order : List Nat) (n : Nat),
    (∀ m, Table.get LineRec.cold lines m = s.answeredLine c bitmap m) ∧ order.Perm (s.cardYields c bitmap) ∧
    s.cardState c bitmap =
      let v := order.foldl State.yieldTrigger { s with lines := lines, choice := n }
      if (s.audit c).flag = true then v.setAudit c ⟨false, .stopped⟩ else v := by
  have hdef : s.cardState c bitmap =
      let o := (s.cardConditions c bitmap).inFreeOrder (s.cardYields c bitmap)
      let v := o.1.foldl State.yieldTrigger o.2
      if (v.audit c).flag then v.setAudit c ⟨false, .stopped⟩ else v := rfl
  have haudit : ∀ (L : List Nat) (u : State), u.audits = s.audits → (L.foldl State.yieldTrigger u).audit c = s.audit c :=
    fun L u hu => by simp [State.audit, hu]
  have hline := s.cardConditions_line c bitmap
  have hlines := s.cardConditions_eq c bitmap
  generalize s.cardConditions c bitmap = u at hdef hline hlines
  obtain ⟨order, n, hp, ho⟩ := u.inFreeOrder_eq (s.cardYields c bitmap)
  refine ⟨u.lines, order, n, hline, hp, ?_⟩
  have hu : ({ u with choice := n } : State) = { s with lines := u.lines, choice := n } := by
    generalize u.lines = T at hlines ⊢
    rw [hlines]
  rw [hdef, ho]
  dsimp only
  rw [hu, haudit order { s with lines := u.lines, choice := n } rfl]

theorem State.cardState_line (s : State) (c bitmap m : Nat) :
    ((s.cardState c bitmap).line m).SameButAccess (s.answeredLine c bitmap m) := by
  obtain ⟨T, order, n, hT, -, h⟩ := s.cardState_eq c bitmap
  have hl := State.foldYield_line order { s with lines := T, choice := n } m
  have hm : ({ s with lines := T, choice := n } : State).line m = s.answeredLine c bitmap m := hT m
  rw [hm] at hl
  rw [h]
  dsimp only
  split
  · rw [State.setAudit_line]; exact hl
  · exact hl

theorem cardAuditFrame_eq (c : Nat) : cardAuditFrame c =
    let f := byte1 0x10 ++ byte1 (c * 16 / 256 + 1) ++ byte1 30 ++ byte1 4 ++ (byte2 (c * 16) ++ byte1 0x0C ++ byte1 0)
    f ++ byte2 (crc f) := rfl

/-! ### The events -/

section CardEvents

variable (s : State) (c : Nat)

theorem State.cardDown_line (m : Nat) : ((s.cardDown c).line m).SameButCount
    { s.line m with condition := if m / 16 = c then .cardDown else (s.line m).condition } := by
  have h := State.raise_line (s.setCardCondition c .cardDown) .card c .cardFault none m
  rwa [State.setCardCondition_line] at h

theorem State.cardOk_line (m : Nat) : (s.cardOk c).line m =
    { s.line m with condition := if m / 16 = c then .unknown else (s.line m).condition } := by
  rw [State.cardOk, State.requestAudit_line, State.clearTicket_line, State.setCardCondition_line]

/-- What CARD_OK leaves before the audit is requested differs from the state before it in lines, tickets and notices alone. -/
theorem State.cardOk_before_audit : ∃ u : State, s.cardOk c = u.requestAudit c ∧ u.audits = s.audits ∧
    u.link.serial = s.link.serial ∧ u.ownFrames = s.ownFrames ∧
    u.tickets = ((s.setCardCondition c .unknown).clearTicket .card c .cardFault).tickets :=
  ⟨_, rfl, by simp, by simp, by simp [State.ownFrames], rfl⟩

theorem State.cardOk_audit : (s.cardOk c).audit c =
    if (s.audit c).flag = true then s.audit c else ⟨true, .tied s.link.serial⟩ := by
  obtain ⟨u, hu, ha, hs, -⟩ := s.cardOk_before_audit c
  rw [hu, State.requestAudit_audit, hs, State.audit, ha]; rfl

theorem State.cardOk_ownFrames : (s.cardOk c).ownFrames = s.ownFrames ++
    if (s.audit c).flag = true then [] else [⟨cardAuditFrame c, s.link.serial, .audit c⟩] := by
  obtain ⟨u, hu, ha, hs, ho, -⟩ := s.cardOk_before_audit c
  rw [hu, State.requestAudit_ownFrames, hs, ho, State.audit, ha]; rfl

theorem State.cardOk_flag : ((s.cardOk c).audit c).flag = true := by
  rw [State.cardOk_audit]; split
  · assumption
  · rfl

end CardEvents

/-- Settles O17: circuits card by card, the tickets by the raise and the clear request, the answer by its free order of yields. -/
theorem cardEventsAndAnswers : Obligations.CardEventsAndAnswers := by
  refine ⟨fun s c => ⟨s.cardDown_line c, s.cardOk_line c, s.cardOk_flag c, fun k hk h1 h2 h3 hpw => ?_, fun hroom => ?_⟩,
    fun s c b => ⟨fun m => ?_, fun hf => ?_, fun m => ?_⟩,
    fun s c => ⟨State.requestAudit_outstanding, fun h => ⟨State.requestAudit_new h, ?_⟩, s.cardOk_ownFrames c, s.cardOk_audit c⟩,
    cardAuditFrame_eq, fun s c b => ?_⟩
  · refine State.clearTicket_state (s := s.setCardCondition c .unknown) (by simpa using hpw) ?_ h1 h2 h3
    simpa [State.cardOk] using hk
  · obtain ⟨k, hk, h1, h2, h3, h4, h5, -⟩ := State.raise_makes (s.setCardCondition c .cardDown) .card c .cardFault none
      (by simpa using hroom)
    exact ⟨k, hk, h1, h2, h3, h4, by simpa using h5⟩
  · rw [(s.cardState_line c b m).fields.1]
  · obtain ⟨T, order, n, -, -, h⟩ := s.cardState_eq c b
    rw [h]
    dsimp only
    rw [if_pos hf, State.setAudit_audit, if_pos rfl]
  · obtain ⟨-, hi, hn⟩ := (s.cardState_line c b m).fields
    exact ⟨hi, hn⟩
  · rw [State.requestAudit_ownFrames, h]; rfl
  · obtain ⟨T, order, n, hT, hp, h⟩ := s.cardState_eq c b
    refine ⟨T, order, n, hT, hp.nodup_iff.2 (s.cardYields_nodup c b), fun m => ?_, h⟩
    rw [hp.mem_iff, State.mem_cardYields]

end Sys2Proof.Machine


namespace Sys2Proof.Machine

/-! ## Admission of a routine request (R53, R54) -/

/-- A test begins TAPPING on its channel and bus. -/
theorem State.startTest_taps (s : State) (h b : Nat) (t : TestRec) (o : Origin) :
    ((s.startTest h b t o).chan h).stage = .tapping ∧ ((s.startTest h b t o).chan h).test = some t ∧
      ((s.startTest h b t o).chan h).origin = o ∧ ((s.startTest h b t o).bus b).state = .claimed h ∧
      ((s.startTest h b t o).line t.line).access = .tapPending h := by
  simp [State.startTest, State.claimAndTap, State.beginTapping, State.setAccess]

theorem State.idleChannel_some {s : State} {h : Nat} (hi : s.idleChannel = some h) : h < 4 ∧ (s.chan h).stage = .idle := by
  have hm := List.mem_of_find?_eq_some hi
  have hp := List.find?_some hi
  simp only [allChannels, List.mem_cons, List.not_mem_nil, or_false] at hm
  exact ⟨by omega, by simpa using hp⟩

theorem State.freeBus_some {s : State} {l b : Nat} (hb : s.freeBus l = some b) :
    b < 8 ∧ (s.bus b).state = .free ∧ (s.bus b).stray = none ∧ (s.bus b).reach.getLsbD (l / 256) = true := by
  have hm := List.mem_of_find?_eq_some hb
  have hp := List.find?_some hb
  simp only [allBuses, List.mem_cons, List.not_mem_nil, or_false] at hm
  simp only [Bus.isFree, Bus.reaches, Bool.and_eq_true, beq_iff_eq, Option.isNone_iff_eq_none] at hp
  exact ⟨by omega, hp.1.1, hp.1.2, hp.2⟩

/-- A routine request that no early row of R53 refuses is for a sound line and a valid plan. -/
theorem State.earlyRefusal_none {s : State} {l p : Nat} (h : s.earlyRefusal (.routine l p) = none) :
    (s.line l).cls ≠ 0 ∧ (s.line l).inhibit = false ∧ (s.line l).hazard = false ∧ (s.line l).access = .free ∧
      (s.line l).condition = .idle ∧ (s.planSteps p).isSome = true := by
  rw [Option.isSome_iff_ne_none]
  simp only [State.earlyRefusal, Request.routine] at h
  cases hc : (s.line l).condition <;> simp [hc] at h <;> grind

@[simp] theorem Request.routine_urgent (l p : Nat) : (Request.routine l p).urgent = false := rfl
@[simp] theorem Request.routine_line (l p : Nat) : (Request.routine l p).line = l := rfl

theorem State.requestRoutine_started {s u : State} {t : TestRec} {o : Origin} (h : s.requestRoutine t o = .started u) :
    s.earlyRefusal (.routine t.line t.plan) = none ∧
      ∃ c b, s.idleChannel = some c ∧ s.freeBus t.line = some b ∧ u = s.startTest c b t o := by
  unfold State.requestRoutine State.refusal at h
  cases he : s.earlyRefusal (.routine t.line t.plan) with
  | some r => simp [he] at h
  | none =>
    cases hi : s.idleChannel with
    | none => simp [he, hi] at h
    | some c =>
      cases hb : s.freeBus t.line with
      | none => simp [he, hi, hb] at h
      | some b =>
        simp [he, hi, hb] at h
        exact ⟨rfl, c, b, rfl, rfl, h.symm⟩

theorem State.requestRoutine_sound {s u : State} {t : TestRec} {o : Origin} (h : s.requestRoutine t o = .started u) :
    (s.line t.line).cls ≠ 0 ∧ (s.line t.line).inhibit = false ∧ (s.line t.line).hazard = false ∧
      (s.line t.line).access = .free ∧ (s.line t.line).condition = .idle ∧ (s.planSteps t.plan).isSome = true ∧
      ∃ h b, h < 4 ∧ b < 8 ∧ (s.chan h).stage = .idle ∧ (s.bus b).state = .free ∧ (s.bus b).stray = none ∧
        (s.bus b).reach.getLsbD (t.line / 256) = true ∧
        (u.chan h).stage = .tapping ∧ (u.chan h).test = some t ∧ (u.chan h).origin = o ∧
        (u.bus b).state = .claimed h ∧ (u.line t.line).access = .tapPending h := by
  obtain ⟨he, c, b, hi, hb, rfl⟩ := State.requestRoutine_started h
  obtain ⟨hcls, hinh, hhaz, hacc, hcond, hplan⟩ := State.earlyRefusal_none he
  obtain ⟨hc4, hidle⟩ := State.idleChannel_some hi
  obtain ⟨hb8, hfree, hstray, hreach⟩ := State.freeBus_some hb
  exact ⟨hcls, hinh, hhaz, hacc, hcond, hplan, c, b, hc4, hb8, hidle, hfree, hstray, hreach, s.startTest_taps c b t o⟩

/-- The inhibit flag of a line counts for no URGENT request. -/
theorem State.refusal_inhibit (s : State) (l : Nat) (i : Bool) (q : Request) (hq : q.urgent = true) :
    (s.setLine l { s.line l with inhibit := i }).refusal q = s.refusal q := by
  have hearly : (s.setLine l { s.line l with inhibit := i }).earlyRefusal q = s.earlyRefusal q := by
    have hplan : (s.setLine l { s.line l with inhibit := i }).planSteps q.plan = s.planSteps q.plan := rfl
    simp only [State.earlyRefusal, hq, hplan, State.setLine_line]
    by_cases hl : q.line = l
    · subst hl; simp
    · simp [hl]
  have hchan : (s.setLine l { s.line l with inhibit := i }).idleChannel = s.idleChannel := rfl
  have hbus : (s.setLine l { s.line l with inhibit := i }).freeBus q.line = s.freeBus q.line := rfl
  have hvictim : (s.setLine l { s.line l with inhibit := i }).victim q.line = s.victim q.line := rfl
  simp only [State.refusal, hearly, hchan, hbus, hvictim]

end Sys2Proof.Machine


namespace Sys2Proof.Machine

/-! ## The four sources of a start attempt (R154 to R159, R163) -/

section Sources

variable {s : State}

/-! ### The conditions of a start (R154) -/

/-- Fewer routine tests run than the latched concurrency allows. -/
abbrev State.MayStart (s : State) : Prop := 0 < s.sweep.config.concurrency ∧ s.routineCount < s.sweep.config.concurrency

/-- Fewer than four routine tests run or are suspended. -/
abbrev State.HasRoom (s : State) : Prop := s.routineCount + s.sweep.suspended.length < 4

/-- The line can be tested. -/
abbrev State.LineReady (s : State) (l : Nat) : Prop := (s.line l).condition = .idle ∧ (s.line l).access = .free

theorem State.mayResume_iff : s.mayResume = true ↔ s.sweep.state = .running ∧ s.MayStart := by
  simp [State.mayResume, State.mayStart]

theorem State.mayWalk_iff : s.mayWalk = true ↔ s.sweep.state = .running ∧ s.MayStart ∧ s.HasRoom := by
  simp [State.mayWalk, State.mayResume_iff, State.hasRoom, and_assoc]

theorem State.maySuspect_iff : s.maySuspect = true ↔
    (s.sweep.state = .running ∨ s.sweep.state = .waiting) ∧ s.MayStart ∧ s.HasRoom := by
  simp [State.maySuspect, State.mayStart, State.hasRoom, and_assoc]

theorem LineRec.ready_iff (r : LineRec) : r.ready = true ↔ r.condition = .idle ∧ r.access = .free := by
  simp [LineRec.ready]

/-! ### The suspend list (R159) -/

theorem State.serveContext_passes (h : s.mayResume = false ∨ s.sweep.suspended = []) : s.serveContext = .passed s := by
  unfold State.serveContext
  rcases h with h | h
  · simp [h]
  · simp [h]

section Context

variable {c : Context} {rest : List Context} (hm : s.mayResume = true) (hs : s.sweep.suspended = c :: rest)
include hm hs

/-- A context whose line cannot take it ends YIELDED; where that brings the pass to its end, the attempt breaks off. -/
theorem State.serveContext_discards (h : (s.line c.line).ready = false ∨
      ∃ r, s.requestRoutine (s.resumedRecord c) c.origin = .refused r ∧ r ≠ .noChannel ∧ r ≠ .noBus) :
    let y := ({ s with sweep.suspended := rest } : State).yieldContext c
    s.serveContext = if y.passDone = true ∧ s.passDone = false then .ended y
      else .handled { y with sweep.attemptDue := false } := by
  rcases h with h | ⟨r, h, h1, h2⟩
  · simp [State.serveContext, hm, hs, h]
  · cases hl : (s.line c.line).ready
    · simp [State.serveContext, hm, hs, hl]
    · simp [State.serveContext, hm, hs, hl, h]

variable (hl : (s.line c.line).ready = true)
include hl

theorem State.serveContext_started {u} (h : s.requestRoutine (s.resumedRecord c) c.origin = .started u) :
    s.serveContext = .started { u with sweep.suspended := rest } := by
  simp only [State.serveContext, hm, hs, hl, h]; rfl

theorem State.serveContext_noChannel (h : s.requestRoutine (s.resumedRecord c) c.origin = .refused .noChannel) :
    s.serveContext = .ended s := by
  simp only [State.serveContext, hm, hs, hl, h]; rfl

theorem State.serveContext_noBus (h : s.requestRoutine (s.resumedRecord c) c.origin = .refused .noBus) :
    s.serveContext = .passed s := by
  simp only [State.serveContext, hm, hs, hl, h]; rfl

end Context

/-! ### The suspect queue (R158) -/

theorem State.serveSuspect_passes (h : s.maySuspect = false ∨ s.sweep.suspects = []) (moved : List Nat) :
    s.serveSuspect moved = (.passed s, moved) := by
  unfold State.serveSuspect
  rcases h with h | h
  · simp [h]
  · simp [h]

section Suspect

variable {e : Suspect} {rest : List Suspect} {moved : List Nat} (hm : s.maySuspect = true) (hs : s.sweep.suspects = e :: rest)
include hm hs

theorem State.serveSuspect_moved (he : e.line ∈ moved) : s.serveSuspect moved = (.passed s, moved) := by
  simp [State.serveSuspect, hm, hs, he]

variable (he : e.line ∉ moved)
include he

theorem State.serveSuspect_unequipped (hc : (s.line e.line).cls = 0) :
    s.serveSuspect moved = (.handled { s with sweep.suspects := rest }, moved) := by
  simp [State.serveSuspect, hm, hs, he, hc]

variable (hc : (s.line e.line).cls ≠ 0)
include hc

theorem State.serveSuspect_missed (hl : (s.line e.line).ready = false) (hq : e.requeued = true) : s.serveSuspect moved =
    (.handled (State.missLine { s with sweep.suspects := rest } e.line), moved) := by
  simp [State.serveSuspect, hm, hs, he, hc, hl, hq]

theorem State.serveSuspect_requeued (hl : (s.line e.line).ready = false) (hq : e.requeued = false) : s.serveSuspect moved =
    (.passed { s with sweep.suspects := rest ++ [{ e with requeued := true }] }, e.line :: moved) := by
  simp [State.serveSuspect, hm, hs, he, hc, hl, hq]

variable (hl : (s.line e.line).ready = true)
include hl

theorem State.serveSuspect_started {u}
    (h : s.requestRoutine (s.routineRecord e.line e.plan) (.suspect e.reason) = .started u) :
    s.serveSuspect moved = (.started { u with sweep.suspects := rest }, moved) := by
  simp [State.serveSuspect, hm, hs, he, hc, hl, h]

theorem State.serveSuspect_noChannel
    (h : s.requestRoutine (s.routineRecord e.line e.plan) (.suspect e.reason) = .refused .noChannel) :
    s.serveSuspect moved = (.ended s, moved) := by
  simp [State.serveSuspect, hm, hs, he, hc, hl, h]

theorem State.serveSuspect_noBus
    (h : s.requestRoutine (s.routineRecord e.line e.plan) (.suspect e.reason) = .refused .noBus) :
    s.serveSuspect moved = (.passed s, moved) := by
  simp [State.serveSuspect, hm, hs, he, hc, hl, h]

theorem State.serveSuspect_refused {r}
    (h : s.requestRoutine (s.routineRecord e.line e.plan) (.suspect e.reason) = .refused r)
    (h1 : r ≠ .noChannel) (h2 : r ≠ .noBus) :
    s.serveSuspect moved = (.handled (State.missLine { s with sweep.suspects := rest } e.line), moved) := by
  simp [State.serveSuspect, hm, hs, he, hc, hl, h]

end Suspect

/-! ### The walk (R155, R163) -/

/-- MISSED in the pass under way, said of the line's record and the count. -/
theorem State.missLine_eq (l : Nat) : s.missLine l =
    let v : State := if s.sweep.underWay then
      { s with sweep.counts := { s.sweep.counts with missed := min 65535 (s.sweep.counts.missed + 1) } } else s
    v.setLine l { s.line l with lastPass := s.sweep.passNumber, lastOutcome := .missed } := by
  unfold State.missLine State.count State.writeRoutine
  split <;> rfl

/-- DEFERRED in the pass under way, and on the revisit list. -/
theorem State.deferLine_eq (l p : Nat) : s.deferLine l p =
    { (if s.sweep.underWay then
        { s with sweep.counts := { s.sweep.counts with deferred := min 65535 (s.sweep.counts.deferred + 1) } }
      else s : State) with
      sweep.revisits := s.sweep.revisits ++ [⟨l, p⟩] } := by
  unfold State.deferLine State.count
  dsimp only
  split <;> rfl

theorem State.markOn_iff {i l : Nat} {q : SweepRange} (hq : s.sweep.config.ranges[i]? = some q) :
    s.markOn i l = true ↔ s.sweep.mark = some (i, l - q.first) ∧ q.first ≤ l := by
  unfold State.markOn
  rw [hq]
  cases s.sweep.mark with
  | none => simp
  | some m => obtain ⟨r, off⟩ := m; simp; omega

/-- The state after the walk of `s` has handled line `l` of range `i` in state `u`, by the words of R163: a mark on the line is
reported and used up, and the walk goes on by one line. -/
def State.past (s u : State) (i l : Nat) (q : SweepRange) (how : Nat) : State :=
  let v := if s.sweep.mark = some (i, l - q.first) ∧ q.first ≤ l then
      { u.notify .sweep (byte1 4 ++ (byte1 s.sweep.passNumber ++ byte1 i ++ byte2 l ++ byte1 how)) with
        sweep := { u.sweep with mark := none } }
    else u
  { v with sweep := { v.sweep with walk := if l < q.last then .onLine i (l + 1)
    else match s.sweep.config.ranges[i + 1]? with
      | some n => .onLine (i + 1) n.first
      | none => .done } }

/-- Handling a line leaves the mark, the pass number and the configuration to the walk that goes past it. -/
theorem State.walked_eq_past {u : State} {i l : Nat} {q : SweepRange} (hq : s.sweep.config.ranges[i]? = some q)
    (hmark : u.sweep.mark = s.sweep.mark) (hpass : u.sweep.passNumber = s.sweep.passNumber)
    (hconf : u.sweep.config = s.sweep.config) (how : Handling) : u.walked i l how = s.past u i l q how.code := by
  have hm : u.markOn i l = true ↔ s.sweep.mark = some (i, l - q.first) ∧ q.first ≤ l := by
    rw [← hmark]; exact State.markOn_iff (hconf ▸ hq)
  have hnext : walkNext u.sweep.config.ranges i l = if l < q.last then .onLine i (l + 1)
      else match s.sweep.config.ranges[i + 1]? with
        | some n => .onLine (i + 1) n.first
        | none => .done := by
    -- the model's match and the one above are matchers of two files
    rw [hconf, walkNext, hq] <;> rfl
  have hnotice : ∀ body, (u.sweepNotice .mark body).sweep = u.sweep := fun body => by simp [State.sweepNotice]
  simp only [State.walked, State.past, hm, ← hpass]
  split
  · simp only [hnotice, hnext]
    rfl
  · simp only [hnext]

theorem State.serveWalk_passes (h : s.sweep.walk = .unset ∨ s.sweep.walk = .done ∨ s.mayWalk = false) :
    s.serveWalk = .passed s := by
  unfold State.serveWalk
  rcases h with h | h | h
  · rw [h]
  · rw [h]
  · cases s.sweep.walk <;> simp [h]

section Walk

variable {i l : Nat} {q : SweepRange} (hm : s.mayWalk = true) (hw : s.sweep.walk = .onLine i l)
include hm hw

theorem State.serveWalk_skipped (hc : (s.line l).cls = 0) : s.serveWalk = .handled (s.walked i l .skipped) := by
  simp [State.serveWalk, hm, hw, hc]

variable (hc : (s.line l).cls ≠ 0)
include hc

theorem State.serveWalk_inhibited (hi : (s.line l).inhibit = true) :
    s.serveWalk = .handled ((s.count Counts.addInhibited).walked i l .inhibited) := by
  simp [State.serveWalk, hm, hw, hc, hi]

variable (hi : (s.line l).inhibit = false)
include hi

theorem State.serveWalk_hazard (hz : (s.line l).hazard = true) :
    s.serveWalk = .handled ((s.count Counts.addHazard).walked i l .hazard) := by
  simp [State.serveWalk, hm, hw, hc, hi, hz]

variable (hz : (s.line l).hazard = false)
include hz

theorem State.serveWalk_busy (ha : (s.line l).access ≠ .free) :
    s.serveWalk = .handled ((s.count Counts.addBusy).walked i l .busy) := by
  simp [State.serveWalk, hm, hw, hc, hi, hz, ha]

theorem State.serveWalk_missed (ha : (s.line l).access = .free) (hk : (s.line l).condition ≠ .idle)
    (hr : s.canRevisit l = false) : s.serveWalk = .handled ((s.missLine l).walked i l .missed) := by
  simp [State.serveWalk, hm, hw, hc, hi, hz, ha, hk, hr]

variable (hq : s.sweep.config.ranges[i]? = some q)
include hq

theorem State.serveWalk_deferred (ha : (s.line l).access = .free) (hk : (s.line l).condition ≠ .idle)
    (hr : s.canRevisit l = true) : s.serveWalk = .handled ((s.deferLine l q.plan).walked i l .deferred) := by
  simp [State.serveWalk, hm, hw, hc, hi, hz, hq, ha, hk, hr]

variable (hl : s.LineReady l)
include hl

theorem State.serveWalk_started {u} (h : s.requestRoutine (s.routineRecord l q.plan) .walk = .started u) :
    s.serveWalk = .started (u.walked i l .admitted) := by
  simp [State.serveWalk, hm, hw, hc, hi, hz, hq, hl, h]

theorem State.serveWalk_noChannel (h : s.requestRoutine (s.routineRecord l q.plan) .walk = .refused .noChannel) :
    s.serveWalk = .ended s := by
  simp [State.serveWalk, hm, hw, hc, hi, hz, hq, hl, h]

theorem State.serveWalk_noBus (h : s.requestRoutine (s.routineRecord l q.plan) .walk = .refused .noBus) :
    s.serveWalk = .passed s := by
  simp [State.serveWalk, hm, hw, hc, hi, hz, hq, hl, h]

theorem State.serveWalk_refused {r} (h : s.requestRoutine (s.routineRecord l q.plan) .walk = .refused r)
    (h1 : r ≠ .noChannel) (h2 : r ≠ .noBus) : s.serveWalk = .handled ((s.missLine l).walked i l .missed) := by
  simp [State.serveWalk, hm, hw, hc, hi, hz, hq, hl, h]

end Walk

theorem State.canRevisit_iff (l : Nat) : s.canRevisit l = true ↔
    s.sweep.revisits.length < 64 ∧ ¬ ∃ e ∈ s.sweep.revisits, e.line = l := by
  rw [State.canRevisit, Bool.and_eq_true, decide_eq_true_iff]
  exact and_congr Iff.rfl (by simp)

/-! ### The revisit list (R156) -/

theorem State.serveRevisit_passes (h : ¬ (s.mayWalk = true ∧ s.sweep.walk = .done) ∨ s.sweep.revisits = []) :
    s.serveRevisit = .passed s := by
  unfold State.serveRevisit
  rcases h with h | h
  · simp [h]
  · simp [h]

section Revisit

variable {e : Revisit} {rest : List Revisit} (hm : s.mayWalk = true) (hw : s.sweep.walk = .done)
  (hs : s.sweep.revisits = e :: rest)
include hm hw hs

theorem State.serveRevisit_unequipped (hc : (s.line e.line).cls = 0) :
    s.serveRevisit = .handled { s with sweep.revisits := rest } := by
  simp [State.serveRevisit, hm, hw, hs, hc]

variable (hc : (s.line e.line).cls ≠ 0)
include hc

theorem State.serveRevisit_missed (hl : (s.line e.line).ready = false) :
    s.serveRevisit = .handled (State.missLine { s with sweep.revisits := rest } e.line) := by
  simp [State.serveRevisit, hm, hw, hs, hc, hl]

variable (hl : (s.line e.line).ready = true)
include hl

theorem State.serveRevisit_started {u} (h : s.requestRoutine (s.routineRecord e.line e.plan) .revisit = .started u) :
    s.serveRevisit = .started { u with sweep.revisits := rest } := by
  simp [State.serveRevisit, hm, hw, hs, hc, hl, h]

theorem State.serveRevisit_noChannel (h : s.requestRoutine (s.routineRecord e.line e.plan) .revisit = .refused .noChannel) :
    s.serveRevisit = .ended s := by
  simp [State.serveRevisit, hm, hw, hs, hc, hl, h]

theorem State.serveRevisit_noBus (h : s.requestRoutine (s.routineRecord e.line e.plan) .revisit = .refused .noBus) :
    s.serveRevisit = .passed s := by
  simp [State.serveRevisit, hm, hw, hs, hc, hl, h]

theorem State.serveRevisit_refused {r} (h : s.requestRoutine (s.routineRecord e.line e.plan) .revisit = .refused r)
    (h1 : r ≠ .noChannel) (h2 : r ≠ .noBus) :
    s.serveRevisit = .handled (State.missLine { s with sweep.revisits := rest } e.line) := by
  simp [State.serveRevisit, hm, hw, hs, hc, hl, h]

end Revisit

end Sources

/-! ### The attempt goes round its sources (R154) -/

/-- A source goes on while it handles candidates. -/
theorem State.sourcesOn (s : State) (n : Nat) :
    (∀ u, s.serveContext = .handled u → State.contextsOn (n + 1) s = State.contextsOn n u) ∧
    ((∀ u, s.serveContext ≠ .handled u) → State.contextsOn (n + 1) s = s.serveContext) ∧
    (∀ u, s.serveWalk = .handled u → State.walkOn (n + 1) s = State.walkOn n u) ∧
    ((∀ u, s.serveWalk ≠ .handled u) → State.walkOn (n + 1) s = s.serveWalk) ∧
    (∀ u, s.serveRevisit = .handled u → State.revisitsOn (n + 1) s = State.revisitsOn n u) ∧
    ((∀ u, s.serveRevisit ≠ .handled u) → State.revisitsOn (n + 1) s = s.serveRevisit) ∧
    ∀ moved,
      (∀ u m, s.serveSuspect moved = (.handled u, m) → State.suspectsOn (n + 1) s moved = State.suspectsOn n u m) ∧
      ((∀ u m, s.serveSuspect moved ≠ (.handled u, m)) → State.suspectsOn (n + 1) s moved = s.serveSuspect moved) := by
  refine ⟨fun u h => by rw [State.contextsOn, h], fun h => ?_, fun u h => by rw [State.walkOn, h], fun h => ?_,
    fun u h => by rw [State.revisitsOn, h], fun h => ?_, fun moved => ⟨fun u m h => by rw [State.suspectsOn, h], fun h => ?_⟩⟩
  · rw [State.contextsOn]; split
    · exact absurd ‹_› (h _)
    · rfl
  · rw [State.walkOn]; split
    · exact absurd ‹_› (h _)
    · rfl
  · rw [State.revisitsOn]; split
    · exact absurd ‹_› (h _)
    · rfl
  · rw [State.suspectsOn]; split
    · exact absurd ‹_› (h _ _)
    · rfl

section Attempt

variable {s : State} {moved m : List Nat} {n : Nat} {u : State}

theorem State.attempt_started (h : s.serve moved = (.started u, m)) : State.attempt (n + 1) moved s = State.attempt n m u := by
  rw [State.attempt, h]

theorem State.attempt_ended (h : s.serve moved = (.ended u, m)) : State.attempt (n + 1) moved s = u := by
  rw [State.attempt, h]

theorem State.attempt_passed (h : s.serve moved = (.passed u, m)) : State.attempt (n + 1) moved s = u := by
  rw [State.attempt, h]

end Attempt

end Sys2Proof.Machine


namespace Sys2Proof.Machine

/-! ## O34: routine tests start on sound lines only (R154 to R159, R163) -/

theorem eq_false_of_iff {b : Bool} {p : Prop} (h : b = true ↔ p) (hp : ¬ p) : b = false := Bool.eq_false_iff.2 (mt h.1 hp)

/-- The counts of a walk that goes past a line do not touch what the walk reads. -/
theorem State.count_walked {s : State} {i l : Nat} {q : SweepRange} (hq : s.sweep.config.ranges[i]? = some q)
    (g : Counts → Counts) (how : Handling) : (s.count g).walked i l how =
      s.past (if s.sweep.underWay then { s with sweep.counts := g s.sweep.counts } else s) i l q how.code := by
  rw [State.walked_eq_past hq]
  · rfl
  all_goals unfold State.count; split <;> rfl

theorem State.missLine_walked {s : State} {i l : Nat} {q : SweepRange} (hq : s.sweep.config.ranges[i]? = some q) :
    (s.missLine l).walked i l .missed = s.past (s.missLine l) i l q 6 := by
  rw [State.walked_eq_past hq]
  · rfl
  all_goals rw [State.missLine_eq]; dsimp only; split <;> rfl

theorem State.deferLine_walked {s : State} {i l p : Nat} {q : SweepRange} (hq : s.sweep.config.ranges[i]? = some q) :
    (s.deferLine l p).walked i l .deferred = s.past (s.deferLine l p) i l q 5 := by
  rw [State.walked_eq_past hq]
  · rfl
  all_goals rw [State.deferLine_eq]; split <;> rfl

/-- A started test leaves the Sweep Unit's state to its source. -/
theorem State.started_walked {s u : State} {i l : Nat} {q : SweepRange} {t : TestRec} {o : Origin}
    (hq : s.sweep.config.ranges[i]? = some q) (h : s.requestRoutine t o = .started u) :
    u.walked i l .admitted = s.past u i l q 0 := by
  obtain ⟨-, c, b, -, -, rfl⟩ := State.requestRoutine_started h
  rw [State.walked_eq_past hq]
  · rfl
  all_goals simp

/-- Settles O34: admission, then the four sources branch by branch, then the round of the attempt. -/
theorem routineStartsOnlyOnSoundLines : Obligations.RoutineStartsOnlyOnSoundLines := by
  refine ⟨fun s u t o => State.requestRoutine_sound, State.refusal_inhibit, fun s => ?_, fun s moved n => ?_, State.sourcesOn⟩
  · intro conc may room ready missed fresh
    refine ⟨⟨fun h => ?_, fun c rest hr hm hs => ?_⟩, ⟨fun h => ?_, fun e rest moved hr hm hroom hs => ?_⟩,
      ⟨fun h => ?_, fun i l q hr hm hroom hw hq => ?_⟩, ⟨fun h => ?_, fun e rest hr hm hroom hw hs => ?_⟩⟩
    · exact State.serveContext_passes (h.imp_left (eq_false_of_iff State.mayResume_iff))
    · have hres := State.mayResume_iff.2 ⟨hr, hm⟩
      refine ⟨fun hl => ?_, fun h => State.serveContext_discards hres hs (h.imp_left (eq_false_of_iff (LineRec.ready_iff _)))⟩
      have hl := (LineRec.ready_iff _).2 hl
      exact ⟨fun u => State.serveContext_started hres hs hl, State.serveContext_noChannel hres hs hl,
        State.serveContext_noBus hres hs hl⟩
    · exact State.serveSuspect_passes (h.imp_left (eq_false_of_iff State.maySuspect_iff))
    · have hsus := State.maySuspect_iff.2 ⟨hr, hm, hroom⟩
      refine ⟨State.serveSuspect_moved hsus hs, fun he => ⟨State.serveSuspect_unequipped hsus hs he, fun hc hl => ?_,
        fun hc hl => ?_⟩⟩
      · have hl := (LineRec.ready_iff _).2 hl
        refine ⟨fun u => State.serveSuspect_started hsus hs he hc hl, State.serveSuspect_noChannel hsus hs he hc hl,
          State.serveSuspect_noBus hsus hs he hc hl, fun r h h1 h2 => ?_⟩
        rw [State.serveSuspect_refused hsus hs he hc hl h h1 h2, State.missLine_eq]; rfl
      · have hl := eq_false_of_iff (LineRec.ready_iff _) hl
        refine ⟨fun hq => ?_, State.serveSuspect_requeued hsus hs he hc hl⟩
        rw [State.serveSuspect_missed hsus hs he hc hl hq, State.missLine_eq]; rfl
    · exact State.serveWalk_passes (h.imp_right (Or.imp_right (eq_false_of_iff State.mayWalk_iff)))
    · have hwalk := State.mayWalk_iff.2 ⟨hr, hm, hroom⟩
      intro r asked past counted c held
      have hmissed : (s.missLine l).walked i l .missed = past (missed s l) 6 := by
        rw [State.missLine_walked hq, State.missLine_eq]; rfl
      refine ⟨fun hc => ?_, fun hc => ⟨fun hi => ?_, fun hi hz => ?_, fun hi hz ha => ?_,
        fun hi hz ha hk => ⟨fun hlen hno => ?_, fun h => ?_⟩,
        fun hi hz hl => ⟨fun u h => ?_, ?_, ?_, fun x h h1 h2 => ?_⟩⟩⟩
      · rw [State.serveWalk_skipped hwalk hw hc, State.walked_eq_past hq rfl rfl rfl]; rfl
      · rw [State.serveWalk_inhibited hwalk hw hc hi, State.count_walked hq]; rfl
      · rw [State.serveWalk_hazard hwalk hw hc hi hz, State.count_walked hq]; rfl
      · rw [State.serveWalk_busy hwalk hw hc hi hz ha, State.count_walked hq]; rfl
      · rw [State.serveWalk_deferred hwalk hw hc hi hz hq ha hk ((State.canRevisit_iff l).2 ⟨hlen, hno⟩),
          State.deferLine_walked hq, State.deferLine_eq]; rfl
      · rw [State.serveWalk_missed hwalk hw hc hi hz ha hk, hmissed]
        exact eq_false_of_iff (State.canRevisit_iff l) fun hcan => h.elim (Nat.not_le.2 hcan.1) hcan.2
      · rw [State.serveWalk_started hwalk hw hc hi hz hq hl h, State.started_walked hq h]; rfl
      · exact State.serveWalk_noChannel hwalk hw hc hi hz hq hl
      · exact State.serveWalk_noBus hwalk hw hc hi hz hq hl
      · rw [State.serveWalk_refused hwalk hw hc hi hz hq hl h h1 h2, hmissed]
    · refine State.serveRevisit_passes (h.imp_left (mt fun ⟨h1, h2⟩ => ?_))
      obtain ⟨hr, hm, hroom⟩ := State.mayWalk_iff.1 h1
      exact ⟨hr, hm, hroom, h2⟩
    · have hwalk := State.mayWalk_iff.2 ⟨hr, hm, hroom⟩
      refine ⟨State.serveRevisit_unequipped hwalk hw hs, fun hc hl => ?_, fun hc hl => ?_⟩
      · rw [State.serveRevisit_missed hwalk hw hs hc (eq_false_of_iff (LineRec.ready_iff _) hl), State.missLine_eq]; rfl
      · have hl := (LineRec.ready_iff _).2 hl
        refine ⟨fun u => State.serveRevisit_started hwalk hw hs hc hl, State.serveRevisit_noChannel hwalk hw hs hc hl,
          State.serveRevisit_noBus hwalk hw hs hc hl, fun r h h1 h2 => ?_⟩
        rw [State.serveRevisit_refused hwalk hw hs hc hl h h1 h2, State.missLine_eq]; rfl
  · refine ⟨fun u h1 => ?_, fun u h1 => ?_, fun s1 h1 => ⟨fun u m h2 => ?_, fun u m h2 => ?_, fun s2 m h2 =>
      ⟨fun u h3 => ?_, fun u h3 => ?_, fun s3 h3 => ⟨fun u h4 => ?_, fun u h4 => ?_⟩⟩⟩⟩
    · exact State.attempt_started (by rw [State.serve, h1])
    · exact State.attempt_ended (by rw [State.serve, h1])
    · exact State.attempt_started (by rw [State.serve, h1]; simp only [h2])
    · exact State.attempt_ended (m := m) (by rw [State.serve, h1]; simp only [h2])
    · exact State.attempt_started (by rw [State.serve, h1]; simp only [h2, h3])
    · exact State.attempt_ended (m := m) (by rw [State.serve, h1]; simp only [h2, h3])
    · exact State.attempt_started (by rw [State.serve, h1]; simp only [h2, h3, h4])
    · rcases h4 with h4 | h4
      · exact State.attempt_ended (m := m) (by rw [State.serve, h1]; simp only [h2, h3, h4])
      · exact State.attempt_passed (m := m) (by rw [State.serve, h1]; simp only [h2, h3, h4])

end Sys2Proof.Machine


namespace Sys2Proof.Machine

/-! ## The start of a pass (R11, R150, R152) -/

/-- The body of PASS_START in the words of R152, for the pass after the one of `s`. -/
abbrev State.passStartBody (s : State) : Bytes :=
  byte1 1 ++ (byte1 ((s.sweep.passNumber + 1) % 256) ++ byte1 s.sweep.ranges.length ++ byte1 s.params.concurrency ++
    byte1 s.params.policy.code ++ byte2 s.params.interval ++ byte1 s.params.suspectPlan)

theorem State.startPass_sweep (s : State) : s.startPass.sweep = { s.sweep with
    config := ⟨s.sweep.ranges, s.params.concurrency, s.params.policy, s.params.interval, s.params.suspectPlan⟩
    passNumber := (s.sweep.passNumber + 1) % 256, underWay := true, counts := ⟨0, 0, 0, 0, 0, 0, 0, 0, 0, 0, 0⟩
    walk := match s.sweep.ranges with
      | [] => .done
      | r :: _ => .onLine 0 r.first
    state := .running, left := none, timer := none, startWaits := false, attemptDue := true } := by
  simp [State.startPass, State.sweepNotice, State.wantAttempt, State.latched, walkStart, Counts.zero] <;> rfl

/-- The notices of a pass start are those of its PASS_START. -/
theorem State.startPass_desk (s : State) : s.startPass.desk = (s.notify .sweep s.passStartBody).desk := by
  simp [State.startPass, State.wantAttempt, State.sweepNotice, State.notify_desk, passStartFields, State.latched] <;> rfl

/-- Of the machine's other parts a pass start asks the audits of its cards alone. -/
theorem State.startPass_audits {s t : State} (hl : s.link = t.link) (ha : s.audits = t.audits) (hp : s.phase = t.phase) :
    s.startPass.audits = ((cardsWanting s.lines).foldl State.requestAudit t).audits ∧
      s.startPass.ownFrames = ((cardsWanting s.lines).foldl State.requestAudit t).ownFrames := by
  obtain ⟨h1, h2⟩ := foldAudits_congr (cardsWanting s.lines)
    { s with
      sweep.passNumber := (s.sweep.passNumber + 1) % 256, sweep.underWay := true, sweep.config := s.latched
      sweep.timer := none, sweep.startWaits := false, sweep.left := none } t hl ha hp
  refine ⟨?_, ?_⟩
  · rw [← h1]
    simp only [State.startPass, State.wantAttempt, State.sweepNotice, State.notify_keeps]
    rfl
  · rw [State.ownFrames, State.ownFrames, ← h2]
    simp only [State.startPass, State.wantAttempt, State.sweepNotice, State.notify_keeps]
    rfl

/-- A record that is not cold is listed under its number, whatever the form of the store. -/
theorem Table.mem_of_get_ne {T : Table LineRec} {l : Nat} (h : Table.get LineRec.cold T l ≠ LineRec.cold) :
    ∃ p ∈ T, p.1 = l ∧ p.2 = Table.get LineRec.cold T l := by
  induction T with
  | nil => exact absurd rfl h
  | cons p t ih =>
    obtain ⟨k, r⟩ := p
    by_cases hk : k = l
    · exact ⟨(k, r), by simp, hk, by simp [Table.get, hk]⟩
    · simp only [Table.get, hk, if_false] at h ⊢
      obtain ⟨p, hp, h1, h2⟩ := ih h
      exact ⟨p, List.mem_cons_of_mem _ hp, h1, h2⟩

/-- The card of an equipped line in UNKNOWN is among those that want an audit. -/
theorem mem_cardsWanting_of_line {s : State} {l : Nat} (hc : (s.line l).cls ≠ 0) (hk : (s.line l).condition = .unknown) :
    l / 16 ∈ cardsWanting s.lines := by
  have hne : s.line l ≠ LineRec.cold := fun h => hc (by rw [h]; rfl)
  obtain ⟨p, hp, h1, h2⟩ := Table.mem_of_get_ne hne
  rw [← State.line] at h2
  exact (mem_cardsWanting _ _).2 ⟨p, hp, by rw [h1], by simp [LineRec.wantsAudit, h2, hc, hk]⟩

theorem State.startPass_flag {s : State} {l : Nat} (hc : (s.line l).cls ≠ 0) (hk : (s.line l).condition = .unknown) :
    (s.startPass.audit (l / 16)).flag = true := by
  rw [State.audit, (State.startPass_audits rfl rfl rfl).1]
  exact (foldAudits_flags (cardsWanting s.lines) s).2 _ (mem_cardsWanting_of_line hc hk)

/-- In a canonical store the cards of a pass start are listed once each, ascending. -/
theorem cardsWanting_ascending {T : Table LineRec} (h : Table.wf LineRec.cold T = true) : (cardsWanting T).Pairwise (· < ·) := by
  cases T with
  | nil => exact List.Pairwise.nil
  | cons p t =>
    simp only [Table.wf, Bool.and_eq_true] at h
    exact cardsWanting_pairwise t p.1 p.2 h.1.1

theorem State.startPass_cards {s t : State} (hl : s.link = t.link) (ha : s.audits = t.audits) (hp : s.phase = t.phase)
    (hw : Table.wf LineRec.cold s.lines = true) : ∃ cards : List Nat, cards.Pairwise (· < ·) ∧
      (∀ c, c ∈ cards ↔ ∃ l, l / 16 = c ∧ (s.line l).cls ≠ 0 ∧ (s.line l).condition = .unknown) ∧
      s.startPass.audits = (cards.foldl State.requestAudit t).audits ∧
      s.startPass.ownFrames = (cards.foldl State.requestAudit t).ownFrames :=
  ⟨cardsWanting s.lines, cardsWanting_ascending hw, mem_cardsWanting_iff s.lines hw, State.startPass_audits hl ha hp⟩

/-- A notice that finds room stands at the tail of the queue (R181). -/
theorem State.notify_notices_room {s : State} {k : NoticeKind} {body : Bytes}
    (hu : s.desk.notices.countP (fun n => n.kind != .response) < 56) (hr : s.desk.notices.length + s.desk.reservations < 64) :
    (s.notify k body).desk.notices = s.desk.notices ++ [⟨0, k, 0, body⟩] := by
  rw [State.notify_desk, if_pos ⟨hu, decide_eq_false (Nat.not_le.2 hr)⟩]

/-! ## O32: the interval timer -/

theorem State.intervalDue_of {s : State} {till : Time} (h : s.sweep.timer = some till) : s.intervalDue = reached s.now till := by
  simp [State.intervalDue, h]

theorem exec_intervalTimerExpiry_early {s : State} (h : s.intervalDue = false) : exec .intervalTimerExpiry s = .next s := by
  simp [exec, execIntervalTimerExpiry, h]

section Due

variable {s : State} (h : s.intervalDue = true)
include h

theorem exec_intervalTimerExpiry_paused (hs : s.sweep.state = .paused) :
    exec .intervalTimerExpiry s = .next { s with sweep.timer := none, sweep.startWaits := true } := by
  simp [exec, execIntervalTimerExpiry, h, hs]

theorem exec_intervalTimerExpiry_idle (hs : s.sweep.state ∈ [SweepState.stopped, .running, .draining]) :
    exec .intervalTimerExpiry s = .next s := by
  cases hk : s.sweep.state <;> simp [hk] at hs <;> simp [exec, execIntervalTimerExpiry, h, hk]

theorem exec_intervalTimerExpiry_waiting (hs : s.sweep.state = .waiting) :
    exec .intervalTimerExpiry s = .next (State.settleWith 256 (some s.backlog)
      (State.attempt 5 [] { s.startPass with sweep := { s.startPass.sweep with attemptDue := false } })) := by
  simp only [exec, execIntervalTimerExpiry, h, hs, if_true, State.runPass_eq]

end Due

/-- Settles O32: the expiry by the sweep's state, then the pass start part by part. -/
theorem intervalExpiryStartsPass : Obligations.IntervalExpiryStartsPass := by
  refine ⟨fun s till ht => ⟨fun h => ?_, fun h => ?_⟩, fun s till ht h hs hw => ?_⟩
  · exact exec_intervalTimerExpiry_early (by rw [State.intervalDue_of ht, not_reached_of_le h])
  · have hdue : s.intervalDue = true := by rw [State.intervalDue_of ht, reached_of_lt h]
    refine ⟨exec_intervalTimerExpiry_paused hdue, exec_intervalTimerExpiry_idle hdue, fun hs =>
      ⟨s.startPass, rfl, exec_intervalTimerExpiry_waiting hdue hs, s.startPass_sweep, fun l => State.startPass_flag,
        fun hu hr => ?_, s.startPass_desk, by simp, by simp, by simp, by simp⟩⟩
    rw [s.startPass_desk, State.notify_notices_room hu hr]
  · have hdue : s.intervalDue = true := by rw [State.intervalDue_of ht, reached_of_lt h]
    obtain ⟨cards, h1, h2, h3, h4⟩ := State.startPass_cards (s := s) rfl rfl rfl hw
    exact ⟨s.startPass, cards, rfl, exec_intervalTimerExpiry_waiting hdue hs, h1, h2, h3, h4⟩

end Sys2Proof.Machine


namespace Sys2Proof.Machine

/-! ## O56: the commands of the sweep's state (R150 to R154) -/

/-- What SWEEP_STOP leaves of the Sweep Unit (R153), `mine` being the contexts of the pass under way. -/
theorem State.drain_sweep (s : State) :
    let mine := s.sweep.suspended.filter fun c => s.sweep.underWay && c.startedInPass && c.pass == s.sweep.passNumber
    s.drain.sweep = { s.sweep with
      state := .draining, left := none, timer := none, startWaits := false, revisits := [], suspects := []
      suspended := [], walk := .unset
      counts := if mine = [] then s.sweep.counts
        else { s.sweep.counts with missed := min 65535 (s.sweep.counts.missed + mine.length) } } ∧
    (∀ m, ((∃ c ∈ mine, c.line = m) → s.drain.line m = { s.line m with
        lastPass := s.sweep.passNumber, lastOutcome := .missed }) ∧
      ((∀ c ∈ mine, c.line ≠ m) → s.drain.line m = s.line m)) ∧
    s.drain = { s with sweep := s.drain.sweep, lines := s.drain.lines } := by
  obtain ⟨h1, h2, h3⟩ := foldDiscard_eq s.sweep.suspended { s with
    sweep.state := .draining, sweep.left := none, sweep.timer := none, sweep.startWaits := false
    sweep.revisits := [], sweep.suspects := [], sweep.suspended := [] }
  refine ⟨?_, h2, ?_⟩
  · rw [State.drain]
    dsimp only
    rw [h1]
  · rw [State.drain]
    dsimp only
    rw [h3]

theorem State.drain_chans (s : State) : s.drain.chans = s.chans := by
  have h := (s.drain_sweep).2.2
  generalize s.drain = v at h ⊢
  rw [h]

theorem State.drain_no_contexts {s : State} (h : s.sweep.suspended = []) :
    s.drain.lines = s.lines ∧ s.drain.sweep.counts = s.sweep.counts := by
  simp [State.drain, h]

/-! ### What each command does with the state of the sweep -/

section Handlers

variable {u : State} {tag : Byte} {ps : Bytes}

theorem State.doSweepStart_busy (h : u.sweep.state ≠ .stopped) : State.doSweepStart tag ps u = u.respond tag .busy [] := by
  unfold State.doSweepStart State.sweepBusy
  split
  · next hs => exact absurd hs h
  all_goals rfl

theorem State.doSweepStart_stopped (h : u.sweep.state = .stopped) : State.doSweepStart tag ps u = u.runPass.sweepOk tag := by
  simp only [State.doSweepStart, h]

theorem State.doSweepPause_running (h : u.sweep.state = .running) :
    State.doSweepPause tag ps u = (u.pauseFrom .running).respond tag .ok (byte1 3) := by
  simp only [State.doSweepPause, h]; rfl

theorem State.doSweepPause_waiting (h : u.sweep.state = .waiting) :
    State.doSweepPause tag ps u = (u.pauseFrom .waiting).respond tag .ok (byte1 3) := by
  simp only [State.doSweepPause, h]; rfl

theorem State.doSweepPause_busy (h : u.sweep.state ∉ [SweepState.running, .waiting]) :
    State.doSweepPause tag ps u = u.respond tag .busy [] := by
  unfold State.doSweepPause State.sweepBusy
  split
  · next hs => exact absurd (by simp [hs]) h
  · next hs => exact absurd (by simp [hs]) h
  all_goals rfl

theorem State.doSweepResume_busy (h : u.sweep.state ≠ .paused) : State.doSweepResume tag ps u = u.respond tag .busy [] := by
  unfold State.doSweepResume State.sweepBusy
  split
  · next hs => exact absurd hs h
  all_goals rfl

theorem State.doSweepResume_paused (h : u.sweep.state = .paused) : State.doSweepResume tag ps u = u.resume.sweepOk tag := by
  simp only [State.doSweepResume, h]

theorem State.resume_waited (h : u.sweep.startWaits = true) : u.resume = u.runPass := if_pos h

theorem State.resume_waiting (hw : u.sweep.startWaits = false) (h : u.sweep.left = some .waiting) :
    u.resume = { u with sweep.state := .waiting, sweep.left := none } := by
  simp [State.resume, hw, h]

theorem State.resume_running (hw : u.sweep.startWaits = false) (h : u.sweep.left = some .running) :
    u.resume = ({ u with sweep := { u.sweep with state := .running, left := none, attemptDue := true } } : State).settle := by
  simp [State.resume, hw, h, State.wantAttempt]

theorem State.doSweepStop_stopped (h : u.sweep.state = .stopped) : State.doSweepStop tag ps u = u.respond tag .busy [] := by
  simp only [State.doSweepStop, h]; rfl

theorem State.doSweepStop_draining (h : u.sweep.state = .draining) :
    State.doSweepStop tag ps u = u.respond tag .ok (byte1 4) := by
  simp only [State.doSweepStop, State.sweepOk, h]; rfl

theorem State.doSweepStop_drains (h : u.sweep.state ∈ [SweepState.running, .waiting, .paused]) :
    State.doSweepStop tag ps u = u.drain.settle.sweepOk tag := by
  unfold State.doSweepStop
  split
  · next hs => exact absurd h (by simp [hs])
  · rfl
  · rfl
  · rfl
  · next hs => exact absurd h (by simp [hs])

end Handlers

/-! ### The commands -/

section Commands

variable {s : State} {tag : Byte} {ps : Bytes} {rest : List Bytes}

theorem exec_sweepStart (h : s.Ready .sweepStart tag ps rest) :
    exec .sweepStart s = .next (State.doSweepStart tag ps (s.taking rest)) := congrArg _ (State.onCommand_ready h _)

theorem exec_sweepPause (h : s.Ready .sweepPause tag ps rest) :
    exec .sweepPause s = .next (State.doSweepPause tag ps (s.taking rest)) := congrArg _ (State.onCommand_ready h _)

theorem exec_sweepResume (h : s.Ready .sweepResume tag ps rest) :
    exec .sweepResume s = .next (State.doSweepResume tag ps (s.taking rest)) := congrArg _ (State.onCommand_ready h _)

theorem exec_sweepStop (h : s.Ready .sweepStop tag ps rest) :
    exec .sweepStop s = .next (State.doSweepStop tag ps (s.taking rest)) := congrArg _ (State.onCommand_ready h _)

/-- The commands that start a pass settle it as one just started, and answer behind it. -/
theorem exec_starts_pass {c : Instr} (h : s.Ready c tag ps rest) (hc : (c = .sweepStart ∧ s.sweep.state = .stopped) ∨
      (c = .sweepResume ∧ s.sweep.state = .paused ∧ s.sweep.startWaits = true)) :
    exec c s = .next ((s.taking rest).runPass.sweepOk tag) := by
  rcases hc with ⟨rfl, hs⟩ | ⟨rfl, hs, hw⟩
  · rw [exec_sweepStart h, State.doSweepStart_stopped (by exact hs)]
  · rw [exec_sweepResume h, State.doSweepResume_paused (by exact hs), State.resume_waited (by exact hw)]

theorem exec_sweepStop_drains (h : s.Ready .sweepStop tag ps rest)
    (hs : s.sweep.state ∈ [SweepState.running, .waiting, .paused]) :
    exec .sweepStop s = .next ((s.taking rest).drain.settle.sweepOk tag) := by
  rw [exec_sweepStop h, State.doSweepStop_drains (by exact hs)]

end Commands

/-- Settles O56: command by command and state by state, then the contexts a stop discards, then the pass that is started. -/
theorem sweepStateCommands : Obligations.SweepStateCommands := by
  refine ⟨fun s tag ps rest => ⟨fun h => ⟨fun hs => ?_, fun hs => ?_⟩, fun h => ⟨fun hs => ?_, fun hs => ?_, fun hs => ?_⟩,
    fun h => ⟨fun hs => ?_, fun hs hw hl => ?_, fun hs hw hl => ?_, fun hs hw => ?_⟩,
    fun h => ⟨fun hs => ?_, fun hs => ?_, fun hs => ?_⟩⟩,
    fun s tag ps rest h hs => ?_, fun s c tag ps rest h hc => ?_⟩
  · rw [exec_sweepStart h, State.doSweepStart_busy (by exact hs), State.taking_respond h.normal]
  · have hsweep := (s.taking rest).startPass_sweep
    refine ⟨_, exec_starts_pass h (.inl ⟨rfl, hs⟩), (s.taking rest).startPass, State.runPass_eq _, ?_⟩
    rw [hsweep]
    exact ⟨rfl, rfl, rfl, rfl, rfl, rfl, by simp [State.taking]⟩
  · rw [exec_sweepPause h, State.doSweepPause_running (by exact hs)]
    exact congrArg _ (State.taking_respond (s := s.pauseFrom .running) h.normal ..)
  · rw [exec_sweepPause h, State.doSweepPause_waiting (by exact hs)]
    exact congrArg _ (State.taking_respond (s := s.pauseFrom .waiting) h.normal ..)
  · rw [exec_sweepPause h, State.doSweepPause_busy (by exact hs), State.taking_respond h.normal]
  · rw [exec_sweepResume h, State.doSweepResume_busy (by exact hs), State.taking_respond h.normal]
  · rw [exec_sweepResume h, State.doSweepResume_paused (by exact hs), State.resume_waiting (by exact hw) (by exact hl)]
    exact congrArg _ (State.taking_respond (s := { s with sweep.state := .waiting, sweep.left := none }) h.normal ..)
  · refine ⟨_, ?_, rfl⟩
    rw [exec_sweepResume h, State.doSweepResume_paused (by exact hs), State.resume_running (by exact hw) (by exact hl)]
    rfl
  · refine ⟨_, (s.taking rest).startPass, exec_starts_pass h (.inr ⟨rfl, hs, hw⟩), State.runPass_eq _, ?_⟩
    rw [State.startPass_sweep]
    exact ⟨rfl, rfl, rfl, rfl⟩
  · rw [exec_sweepStop h, State.doSweepStop_stopped (by exact hs), State.taking_respond h.normal]
  · rw [exec_sweepStop h, State.doSweepStop_draining (by exact hs), State.taking_respond h.normal]
  · obtain ⟨hsweep, -, -⟩ := (s.taking rest).drain_sweep
    refine ⟨_, (s.taking rest).drain, exec_sweepStop_drains h hs, rfl, ?_, ?_, ?_, ?_, ?_, ?_, ?_, ?_, State.drain_chans _,
      State.drain_no_contexts (s := s.taking rest)⟩
    all_goals rw [hsweep]
  · obtain ⟨hsweep, hline, heq⟩ := (s.taking rest).drain_sweep
    exact ⟨_, (s.taking rest).drain, exec_sweepStop_drains h hs, rfl, hsweep, hline, heq⟩
  · intro s0 pass v u
    refine ⟨?_, s0.startPass_sweep, s0.startPass_desk, ?_, ?_, ?_, ?_, ?_, fun l => State.startPass_flag (s := s0),
      State.startPass_cards (s := s0) rfl rfl rfl⟩
    · rw [exec_starts_pass h hc, State.runPass_eq]; rfl
    all_goals simp [v, s0]

end Sys2Proof.Machine


namespace Sys2Proof.Machine

/-! ## O48: LINE_READ, INHIBIT, CLEAR_HAZARD and LOAD_LINES (R3, R4, R15, R16, R18) -/

section LineCommands

variable {s : State} {tag : Byte} {ps : Bytes} {rest : List Bytes}

theorem exec_lineRead (h : s.Ready .lineRead tag ps rest) :
    exec .lineRead s = .next (State.doLineRead tag ps (s.taking rest)) := congrArg _ (State.onCommand_ready h _)

theorem exec_inhibit (h : s.Ready .inhibit tag ps rest) :
    exec .inhibit s = .next (State.doInhibit tag ps (s.taking rest)) := congrArg _ (State.onCommand_ready h _)

theorem exec_clearHazard (h : s.Ready .clearHazard tag ps rest) :
    exec .clearHazard s = .next (State.doClearHazard tag ps (s.taking rest)) := congrArg _ (State.onCommand_ready h _)

theorem exec_loadLines (h : s.Ready .loadLines tag ps rest) :
    exec .loadLines s = .next (State.doLoadLines tag ps (s.taking rest)) := congrArg _ (State.onCommand_ready h _)

end LineCommands

theorem flagOf_flag {v : Byte} (h : v.toNat ≤ 1) : flagOf v.toNat = some (v == 1) := by
  obtain hv | hv : v = 0 ∨ v = 1 := by
    have : v.toNat = 0 ∨ v.toNat = 1 := by omega
    exact this.imp (fun h => BitVec.eq_of_toNat_eq h) (fun h => BitVec.eq_of_toNat_eq h)
  · subst hv; rfl
  · subst hv; rfl

theorem flagOf_none {n : Nat} (h : 1 < n) : flagOf n = none := by
  unfold flagOf
  split
  · omega
  · omega
  · rfl

section Handlers

variable {u : State} {tag a b v : Byte} {ps : Bytes}

theorem State.doLineRead_beyond (h : 4096 ≤ pair a b) : State.doLineRead tag (a :: b :: ps) u = u.respond tag .badParam [] :=
  if_neg (Nat.not_lt.2 h)

theorem State.doLineRead_line (h : pair a b < 4096) :
    State.doLineRead tag (a :: b :: ps) u = u.respond tag .ok (u.lineBody (pair a b)) := if_pos h

theorem State.doInhibit_bad (h : 4096 ≤ pair a b ∨ 1 < v.toNat) :
    State.doInhibit tag (a :: b :: v :: ps) u = u.respond tag .badParam [] := by
  unfold State.doInhibit
  dsimp only
  rcases Nat.lt_or_ge 1 v.toNat with hv | hv
  · rw [flagOf_none hv]; rfl
  · rw [flagOf_flag hv]
    exact if_neg (Nat.not_lt.2 (h.resolve_right (by omega)))

theorem State.doInhibit_line (h : pair a b < 4096) (hv : v.toNat ≤ 1) : State.doInhibit tag (a :: b :: v :: ps) u =
    (u.setLine (pair a b) { u.line (pair a b) with inhibit := v == 1 }).respond tag .ok [] := by
  unfold State.doInhibit
  dsimp only
  rw [flagOf_flag hv]
  exact if_pos h

theorem State.doClearHazard_beyond (h : 4096 ≤ pair a b) :
    State.doClearHazard tag (a :: b :: ps) u = u.respond tag .badParam [] := if_neg (Nat.not_lt.2 h)

theorem State.doClearHazard_inUse (h : pair a b < 4096)
    (ht : ∃ t ∈ u.tickets.entries, t.kind = .line ∧ t.subject = pair a b ∧ t.cls = .foreignVoltage) :
    State.doClearHazard tag (a :: b :: ps) u = u.respond tag .inUse [] := by
  refine (if_pos h).trans ?_
  cases hf : u.findTicket .line (pair a b) .foreignVoltage with
  | some t => rfl
  | none =>
    obtain ⟨t, hm, ht⟩ := ht
    exact absurd ht (State.findTicket_eq_none_iff.1 hf t hm)

theorem State.doClearHazard_clears (h : pair a b < 4096)
    (ht : ∀ t ∈ u.tickets.entries, ¬ (t.kind = .line ∧ t.subject = pair a b ∧ t.cls = .foreignVoltage)) :
    State.doClearHazard tag (a :: b :: ps) u =
      (u.setLine (pair a b) { u.line (pair a b) with hazard := false }).respond tag .ok [] := by
  refine (if_pos h).trans ?_
  rw [State.findTicket_eq_none_iff.2 ht]

end Handlers

/-! ### Entries of LOAD_LINES -/

/-- The entries stand for the lines from `first` up. -/
def EntriesFrom (first : Nat) (es : List LineEntry) : Prop :=
  ∀ k, k < es.length → ((es[k]?).map LineEntry.line) = some (first + k)

theorem EntriesFrom.head {first : Nat} {e : LineEntry} {es : List LineEntry} (h : EntriesFrom first (e :: es)) :
    e.line = first := by
  simpa using h 0 (by simp)

theorem EntriesFrom.tail {first : Nat} {e : LineEntry} {es : List LineEntry} (h : EntriesFrom first (e :: es)) :
    EntriesFrom (first + 1) es := fun k hk => by
  have := h (k + 1) (by simpa using hk)
  rw [List.getElem?_cons_succ] at this
  rw [this]; congr 1; omega

theorem EntriesFrom.le {first : Nat} {es : List LineEntry} (h : EntriesFrom first es) : ∀ e ∈ es, first ≤ e.line := by
  induction es generalizing first with
  | nil => simp
  | cons e es ih =>
    intro x hx
    rcases List.mem_cons.1 hx with rfl | hx
    · exact h.head.ge
    · have := ih h.tail x hx; omega

/-- The lines of a group are distinct. -/
theorem EntriesFrom.nodup {first : Nat} {es : List LineEntry} (h : EntriesFrom first es) : (es.map LineEntry.line).Nodup := by
  induction es generalizing first with
  | nil => simp
  | cons e es ih =>
    rw [List.map_cons, List.nodup_cons]
    refine ⟨fun hm => ?_, ih h.tail⟩
    obtain ⟨x, hx, he⟩ := List.mem_map.1 hm
    have h1 := h.tail.le x hx
    have h2 := h.head
    omega

/-- What the desk sends for a group is read as that group. -/
theorem readEntries_bytes {first : Nat} {es : List LineEntry} (h : EntriesFrom first es)
    (hr : ∀ e ∈ es, e.cls ≤ 15 ∧ e.tip ≤ 7 ∧ e.ring ≤ 7) (extra : Bytes) :
    readEntries es.length first (es.flatMap LineEntry.bytes ++ extra) = some es := by
  induction es generalizing first with
  | nil => rfl
  | cons e es ih =>
    obtain ⟨h1, h2, h3⟩ := hr e (by simp)
    have hrest := ih h.tail fun x hx => hr x (by simp [hx])
    have hflag : flagOf (if e.inhibit then (1 : Byte) else 0).toNat = some e.inhibit := by cases e.inhibit <;> rfl
    have hmod : ∀ n : Nat, n ≤ 15 → (BitVec.ofNat 8 n).toNat = n := fun n hn => by
      rw [BitVec.toNat_ofNat, Nat.mod_eq_of_lt (by omega)]
    obtain ⟨l, c, t, r, i⟩ := e
    have hl : l = first := h.head
    simp only [List.flatMap_cons, LineEntry.bytes, List.cons_append, List.nil_append, List.length_cons, readEntries] at hflag ⊢
    rw [hflag, hrest, hmod c h1, hmod t (h2.trans (by decide)), hmod r (h3.trans (by decide))]
    simp [h1, h2, h3, hl]

/-! ### The effects of an entry (R4) -/

theorem LineRec.load_eq (r : LineRec) (e : LineEntry) : r.load e = { r with
    cls := e.cls, tipProfile := e.tip, ringProfile := e.ring, inhibit := e.inhibit
    condition := if e.cls = 0 ∧ r.condition ≠ .cardDown then .unknown else r.condition
    flapCount := if e.cls = 0 then 0 else r.flapCount
    flapInterval := if e.cls = 0 then 255 else r.flapInterval } := by
  unfold LineRec.load
  by_cases hc : e.cls = 0
  · by_cases hk : r.condition = .cardDown <;> simp [hc, hk]
  · simp [hc]

theorem State.loadLine_line (s : State) (e : LineEntry) (m : Nat) :
    (s.loadLine e).line m = if m = e.line then (s.line m).load e else s.line m := by
  have h : (s.loadLine e).line m = (s.setLine e.line ((s.line e.line).load e)).line m := by
    unfold State.loadLine
    dsimp only
    split
    · rw [State.requestAudit_line]
    · rfl
  rw [h, State.setLine_line]
  split
  · next hm => rw [hm]
  · rfl

/-- Loading a group leaves every line to its own entry. -/
theorem State.foldLoad_line {es : List LineEntry} (h : (es.map LineEntry.line).Nodup) (s : State) :
    (∀ e ∈ es, (es.foldl State.loadLine s).line e.line = (s.line e.line).load e) ∧
      ∀ m, (∀ e ∈ es, e.line ≠ m) → (es.foldl State.loadLine s).line m = s.line m := by
  induction es generalizing s with
  | nil => simp
  | cons a es ih =>
    rw [List.map_cons, List.nodup_cons] at h
    obtain ⟨h1, h2⟩ := ih h.2 (s.loadLine a)
    have hne : ∀ e ∈ es, e.line ≠ a.line := fun e he hl => h.1 (hl ▸ List.mem_map_of_mem he)
    refine ⟨fun e he => ?_, fun m hm => ?_⟩
    · rw [List.foldl_cons]
      rcases List.mem_cons.1 he with rfl | he
      · rw [h2 _ hne, State.loadLine_line, if_pos rfl]
      · rw [h1 e he, State.loadLine_line, if_neg (hne e he)]
    · rw [List.foldl_cons, h2 m fun e he => hm e (by simp [he]), State.loadLine_line,
        if_neg fun hl => hm a (by simp) hl.symm]

theorem State.loadLine_flag_kept (s : State) (e : LineEntry) {c : Nat} (h : (s.audit c).flag = true) :
    ((s.loadLine e).audit c).flag = true := by
  unfold State.loadLine
  dsimp only
  split
  · exact (foldAudits_flags [e.line / 16] _).1 c h
  · exact h

theorem State.foldLoad_flag_kept (es : List LineEntry) {s : State} {c : Nat} (h : (s.audit c).flag = true) :
    ((es.foldl State.loadLine s).audit c).flag = true := by
  induction es generalizing s with
  | nil => exact h
  | cons a es ih => exact ih (s.loadLine_flag_kept a h)

theorem State.loadLine_flag (s : State) (e : LineEntry) (hc : e.cls ≠ 0) (hk : (s.line e.line).condition = .unknown) :
    ((s.loadLine e).audit (e.line / 16)).flag = true := by
  have hw : ((s.line e.line).load e).wantsAudit = true := by simp [LineRec.load_eq, LineRec.wantsAudit, hc, hk]
  unfold State.loadLine
  dsimp only
  rw [State.setLine_line, if_pos rfl, if_pos hw]
  exact (foldAudits_flags [e.line / 16] _).2 _ (by simp)

/-- The card of a loaded line in UNKNOWN has an audit outstanding. -/
theorem State.foldLoad_flag {es : List LineEntry} (h : (es.map LineEntry.line).Nodup) (s : State) :
    ∀ e ∈ es, e.cls ≠ 0 → (s.line e.line).condition = .unknown →
      ((es.foldl State.loadLine s).audit (e.line / 16)).flag = true := by
  induction es generalizing s with
  | nil => simp
  | cons a es ih =>
    rw [List.map_cons, List.nodup_cons] at h
    intro e he hc hk
    rcases List.mem_cons.1 he with rfl | he
    · exact State.foldLoad_flag_kept es (s.loadLine_flag e hc hk)
    · have hne : e.line ≠ a.line := fun hl => h.1 (hl ▸ List.mem_map_of_mem he)
      refine ih h.2 _ e he hc ?_
      rw [State.loadLine_line, if_neg hne]; exact hk

/-! ### LOAD_LINES -/

section LoadLines

variable {u : State} {tag a b n : Byte} {ps : Bytes} {es : List LineEntry}

theorem State.doLoadLines_group (h : n.toNat = 0 ∨ 16 < n.toNat ∨ 4096 < pair a b + n.toNat) :
    State.doLoadLines tag (a :: b :: n :: ps) u = u.respond tag .badParam [] := if_pos h

theorem State.doLoadLines_unread (h : readEntries n.toNat (pair a b) ps = none) :
    State.doLoadLines tag (a :: b :: n :: ps) u = u.respond tag .badParam [] := by
  by_cases hg : n.toNat = 0 ∨ 16 < n.toNat ∨ 4096 < pair a b + n.toNat
  · exact State.doLoadLines_group hg
  · refine (if_neg hg).trans ?_
    rw [h]; rfl

variable (hg : ¬ (n.toNat = 0 ∨ 16 < n.toNat ∨ 4096 < pair a b + n.toNat))
  (hr : readEntries n.toNat (pair a b) ps = some es)
include hg hr

theorem State.doLoadLines_inUse {e : LineEntry} (h : u.blockedEntry es = some e) :
    State.doLoadLines tag (a :: b :: n :: ps) u = u.respond tag .inUse (byte2 e.line) := by
  refine (if_neg hg).trans ?_
  rw [hr]; dsimp only; rw [h]

theorem State.doLoadLines_loads (h : u.blockedEntry es = none) :
    State.doLoadLines tag (a :: b :: n :: ps) u = (es.foldl State.loadLine u).respond tag .ok [] := by
  refine (if_neg hg).trans ?_
  rw [hr]; dsimp only; rw [h]

end LoadLines

theorem State.respond_desk (u : State) (tag : Byte) (r : Result) (body : Bytes) : (u.respond tag r body).desk = { u.desk with
    notices := u.desk.notices ++ [⟨tag, .response, r.code, body⟩]
    reservations := u.desk.reservations - 1 } := by
  simp [State.respond, State.placeNotice]

theorem State.blockedEntry_first {s : State} {pre post : List LineEntry} {e : LineEntry} (hc : e.cls = 0)
    (ha : (s.line e.line).access ≠ .free) (hpre : ∀ x ∈ pre, x.cls = 0 → (s.line x.line).access = .free) :
    s.blockedEntry (pre ++ e :: post) = some e := by
  unfold State.blockedEntry
  rw [List.find?_append, List.find?_eq_none.2 fun x hx => by simpa using hpre x hx]
  simp [hc, ha]

theorem State.blockedEntry_none {s : State} {es : List LineEntry} (h : ∀ e ∈ es, e.cls = 0 → (s.line e.line).access = .free) :
    s.blockedEntry es = none := List.find?_eq_none.2 fun x hx => by simpa using h x hx

/-- Settles O48: the three line commands answer by answer, then LOAD_LINES by its refusals and by the group it loads. -/
theorem lineCommandsAndLoads : Obligations.LineCommandsAndLoads := by
  refine ⟨fun s tag a b ps rest => ⟨fun h => ⟨fun hl => ?_, fun hl => ?_⟩, fun v h => ⟨fun hl => ?_, fun hl hv => ?_⟩,
    fun h => ⟨fun hl => ?_, fun hl ht => ?_, fun hl ht => ?_⟩⟩,
    fun s tag a b es extra rest => ⟨fun n ps h hg => ?_, fun h h1 h16 hlast hrange hlines => ?_⟩,
    ⟨rfl, fun _ _ => ⟨rfl, rfl, rfl, rfl, rfl, rfl, rfl, rfl⟩, rfl⟩,
    fun s tag a b n ps rest h => ⟨fun hlen => ?_, fun k c t r i more hk hd hbad => ?_⟩⟩
  · rw [exec_lineRead h, State.doLineRead_beyond (by exact hl), State.taking_respond h.normal]
  · rw [exec_lineRead h, State.doLineRead_line (by exact hl), State.taking_respond h.normal]; rfl
  · rw [exec_inhibit h, State.doInhibit_bad (by exact hl), State.taking_respond h.normal]
  · rw [exec_inhibit h, State.doInhibit_line (by exact hl) hv]
    exact congrArg _ (State.taking_respond (s := s.setLine (pair a b) { s.line (pair a b) with inhibit := v == 1 }) h.normal ..)
  · rw [exec_clearHazard h, State.doClearHazard_beyond (by exact hl), State.taking_respond h.normal]
  · rw [exec_clearHazard h, State.doClearHazard_inUse (by exact hl) (by exact ht), State.taking_respond h.normal]
  · rw [exec_clearHazard h, State.doClearHazard_clears (by exact hl) (by exact ht)]
    exact congrArg _ (State.taking_respond (s := s.setLine (pair a b) { s.line (pair a b) with hazard := false }) h.normal ..)
  · rw [exec_loadLines h, State.doLoadLines_group (by exact hg), State.taking_respond h.normal]
  · have hn : (BitVec.ofNat 8 es.length).toNat = es.length := by rw [BitVec.toNat_ofNat, Nat.mod_eq_of_lt (by omega)]
    have hgroup : ¬ ((BitVec.ofNat 8 es.length).toNat = 0 ∨ 16 < (BitVec.ofNat 8 es.length).toNat ∨
        4096 < pair a b + (BitVec.ofNat 8 es.length).toNat) := by
      rw [hn, pair]; omega
    have hread : readEntries (BitVec.ofNat 8 es.length).toNat (pair a b) (es.flatMap LineEntry.bytes ++ extra) = some es := by
      rw [hn]; exact readEntries_bytes hlines hrange extra
    have hdistinct : (es.map LineEntry.line).Nodup := EntriesFrom.nodup (first := pair a b) hlines
    refine ⟨fun pre e post he hc ha hpre => ?_, fun hfree => ?_⟩
    · have hblocked : (s.taking rest).blockedEntry es = some e := by rw [he]; exact State.blockedEntry_first hc ha hpre
      refine (exec_loadLines h).trans (congrArg _ ?_)
      exact (State.doLoadLines_inUse hgroup hread hblocked).trans (State.taking_respond h.normal ..)
    · have hblocked : (s.taking rest).blockedEntry es = none := State.blockedEntry_none hfree
      obtain ⟨hline, hother⟩ := State.foldLoad_line hdistinct (s.taking rest)
      have hflag := State.foldLoad_flag hdistinct (s.taking rest)
      refine ⟨_, (exec_loadLines h).trans (congrArg _ (State.doLoadLines_loads hgroup hread hblocked)),
        fun e he => ?_, fun m hm => ?_, fun e he hc hk => ?_, ?_, ?_⟩
      · rw [State.respond_line, hline e he, LineRec.load_eq]; rfl
      · rw [State.respond_line, hother m hm]; rfl
      · rw [State.respond_audit]; exact hflag e he hc hk
      · have hdesk : (es.foldl State.loadLine (s.taking rest)).desk = (s.taking rest).desk := by simp
        rw [State.respond_desk, hdesk]; rfl
      · simp [State.taking]
  · rw [exec_loadLines h, State.doLoadLines_unread (readEntries_short _ _ _ hlen), State.taking_respond h.normal]
  · rw [exec_loadLines h, State.doLoadLines_unread (readEntries_bad _ _ _ _ _ _ _ _ _ hk hd hbad), State.taking_respond h.normal]

end Sys2Proof.Machine
end Sequential


/-! PROOFS of the family of highway passage: the rooms of the queues, the order of the frames that cross, arrivals and
departures, the arbiter, the taking of commands, the reset sequence.

Elaborated one after another, as the section before. -/

section HighwayPassage
set_option Elab.async false

namespace Sys2Proof.Machine

/-! ## What the acts keep of the queues and collections -/

/-- The collections of the Sweep Unit lie within their rooms (R149, R156, R157). -/
def Sweep.WithinRooms (w : Sweep) : Prop :=
  w.revisits.length ≤ 64 ∧ w.suspects.length ≤ 16 ∧ w.ranges.length ≤ 32 ∧ w.config.ranges.length ≤ 32

/-- What stands in the queues and collections: the channels with what they owe, the notices and reservations, the commands, the
transit queues, the own frames, the held orders, the Sweep Unit's state, the tickets. -/
abbrev State.stores (s : State) :=
  (s.chans, s.desk.notices, s.desk.reservations, s.desk.commands, s.link.down, s.link.up, s.link.sOwn, s.link.offers,
    s.hold, s.sweep, s.tickets)

/-- A property of the queues and collections that the single writes of an act keep. `P k` is the property with `k` reserved
responses in hand: taking a command reserves one, a response uses one, and a channel may come to owe one (R180, R181). -/
structure Steady (P : Nat → State → Prop) : Prop where
  frame : ∀ {k s t}, P k s → t.stores = s.stores → P k t
  fewer : ∀ {j k s}, P k s → j ≤ k → P j s
  chan : ∀ {j k s h c}, P k s → c.owed + j ≤ (s.chan h).owed + k → P j (s.setChan h c)
  notify : ∀ {k s e b}, P k s → P k (s.notify e b)
  respond : ∀ {k s t r b}, P (k + 1) s → P k (s.respond t r b)
  taking : ∀ {k s f rest}, P k s → s.desk.notices.length + s.desk.reservations < 64 → s.desk.commands = f :: rest →
    P (k + 1) (s.taking rest)
  offer : ∀ {k s b t}, P k s → P k (s.offer b t)
  enters : ∀ {k s f rest}, P k s → s.link.offers = f :: rest → s.link.sOwn.length < 16 →
    P k (State.enterSOwn { s with link.offers := rest } f)
  hold : ∀ {k s L}, P k s → (s.hold.length ≤ 32 → L.length ≤ 32) → P k { s with hold := L }
  sweep : ∀ {k s} {w : Sweep}, P k s → (s.sweep.WithinRooms → w.WithinRooms) → P k { s with sweep := w }
  raise : ∀ {k s a n c e}, P k s → P k (s.raise a n c e)
  put : ∀ {k s n u}, P k s → P k (s.putTicket n u)
  remove : ∀ {k s t}, P k s → P k (s.removeTicket t)
  noticeLeaves : ∀ {k s}, P k s → P k s.leaveNotice
  noticesDropped : ∀ {k s}, P k s → P k s.restartNotices
  released : ∀ {k s}, P k s → P k s.released

/-- What a property must allow a command that takes a frame in or sends one out, or begins the part's life or its normal
passage. -/
structure Crossing (P : State → Prop) (c : Instr) (s : State) : Prop where
  reset : c = .coldReset → P { State.reset with pending := s.pending }
  started : c = .bypassEnd → P s.started
  down : ∀ f, c = .frameArrivesPortU f → s.link.down.length < 16 → P (s.enterDown f)
  command : ∀ f, c = .frameArrivesPortU f → s.desk.commands.length < 8 → P (s.enterCommand f)
  up : ∀ f u, c = .frameArrivesPortS f → s.link.up.length < 16 → u.link.up = s.link.up → P u → P (u.enterUp f)
  downLeaves : c = .frameLeavesPort .s → P { s with link.down := s.link.down.tail }
  ownLeaves : c = .frameLeavesPort .s → ∀ f rest, s.link.sOwn = f :: rest → P { s with link.sOwn := rest }
  upLeaves : c = .frameLeavesPort .u → P { s with link.up := s.link.up.tail }

/-- A channel that gives up its test no longer owes the response of an ABORT (R90, R92). -/
theorem Channel.givenUp_owed (c : Channel) : c.givenUp.owed + (if c.pendingAbort.isSome then 1 else 0) = c.owed := by
  show (0 + if c.run.isSome then 1 else 0) + _ = _ + _
  omega

namespace Steady

variable {P : Nat → State → Prop} (h : Steady P) {k : Nat}
include h

/-! ### Writes that P does not see -/

theorem other {s t : State} (hp : P k s) (ht : t.stores = s.stores := by simp) : P k t := h.frame hp ht

/-- The Sweep Unit's state is written, its collections kept. -/
theorem sweepOnly {s : State} {w : Sweep} (hp : P k s) (hw : s.sweep.WithinRooms → w.WithinRooms := by exact id) :
    P k { s with sweep := w } := h.sweep hp hw

/-- A channel is written that goes on owing what it owes. -/
theorem sameOwed {s : State} {n : Nat} {c : Channel} (hp : P k s)
    (ha : c.pendingAbort = (s.chan n).pendingAbort := by simp) (hr : c.run = (s.chan n).run := by simp) :
    P k (s.setChan n c) := h.chan hp (by simp [Channel.owed, ha, hr])

theorem wantAttempt {s : State} (hp : P k s) : P k s.wantAttempt := h.sweepOnly hp

theorem setBus {s : State} {b r} (hp : P k s) : P k (s.setBus b r) := h.other hp

theorem setLine {s : State} {l r} (hp : P k s) : P k (s.setLine l r) := h.other hp

theorem access {s : State} {l a} (hp : P k s) : P k (s.setAccess l a) := h.other hp

theorem condition {s : State} {l c} (hp : P k s) : P k (s.setCondition l c) := h.other hp

theorem writeRoutine {s : State} {l p o} (hp : P k s) : P k (s.writeRoutine l p o) := h.other hp

theorem commit {s : State} {f} (hp : P k s) : P k (s.commit f) := h.other hp

omit h in
theorem fold {α : Type} {f : State → α → State} (L : List α) {s : State} (hp : P k s)
    (hf : ∀ s a, P k s → P k (f s a)) : P k (L.foldl f s) := by
  induction L generalizing s with
  | nil => exact hp
  | cons a L ih => exact ih (hf s a hp)

/-! ### The hold queue and the flushes -/

theorem endFlush {s : State} {f} (hp : P k s) : P k (s.endFlush f) := h.other hp

theorem runFlush {s : State} {l} (n : Nat) (hp : P k s) : P k (State.runFlush n l s) := by
  induction n generalizing s with
  | zero => exact hp
  | succ n ih =>
    dsimp only [State.runFlush]
    split
    · exact hp
    split
    · exact hp
    split
    · exact h.endFlush hp
    split
    · exact hp
    have hL : ∀ p : HoldRec → Bool, (s.hold.eraseP p).length ≤ s.hold.length := fun _ => List.length_eraseP_le
    have ho : ∀ r : HoldRec, P k (State.offer { s with hold := s.hold.eraseP fun r => r.line == l } r.frame (.flush l)) :=
      fun r => h.offer (h.hold hp (hL _).trans)
    split
    · exact ih (h.commit (ho _))
    · exact h.other (ho _) rfl

theorem flushOn {s : State} {l} (hp : P k s) : P k (s.flushOn l) := h.runFlush _ hp

theorem beginFlush {s : State} {l b} (hp : P k s) : P k (s.beginFlush l b) := h.flushOn (h.other hp)

theorem releasePath {s : State} {l b} (hp : P k s) : P k (s.releasePath l b) := by
  unfold State.releasePath
  split
  · exact h.access (h.other hp)
  · split
    · exact h.beginFlush (h.access hp)
    · exact h.access hp

theorem holdOrder {s : State} {f l} (hp : P k s) : P k (s.holdOrder f l) := by
  unfold State.holdOrder
  split
  · rename_i hr
    have hr : s.hold.length < 32 := hr
    exact h.hold hp fun _ => by simpa using hr
  · exact h.notify hp

theorem lapse {s : State} {n r} (hp : P k s) : P k (s.lapse n r) := by
  dsimp only [State.lapse]
  have hn : P k (State.notify { s with hold := s.hold.eraseIdx n } .orderLapsed
      (byte1 LapseCause.timeout.code ++ orderBody r.frame ++ byte4 (s.now - r.arrival).toNat)) :=
    h.notify (h.hold hp (List.length_eraseIdx_le ..).trans)
  exact h.other hn

theorem offerEnters {s : State} {f rest} (hp : P k s) (ho : s.link.offers = f :: rest) (hr : s.link.sOwn.length < 16) :
    P k (s.offerEnters f rest) := by
  dsimp only [State.offerEnters]
  have he := h.enters hp ho hr
  split
  · split
    · exact h.flushOn (h.other (h.commit (f := f.bytes) he))
    · exact h.commit he
  all_goals exact he

/-! ### Tests taken and given up -/

theorem claimAndTap {s : State} {n l b} (hp : P k s) : P k (s.claimAndTap n l b) := by
  dsimp only [State.claimAndTap, State.beginTapping]
  exact h.setBus (h.offer (h.sameOwed (h.access (h.setBus (h.setBus hp)))))

theorem startTest {s : State} {n b t o} (hp : P k s) : P k (s.startTest n b t o) := h.claimAndTap (h.sameOwed hp)

theorem release {s : State} {n l b} (hp : P k s) : P k (s.release n l b) := by
  dsimp only [State.release]
  exact h.setBus (h.offer (h.offer (h.access (h.sameOwed hp))))

theorem endByCause {s : State} {n o} (hp : P k s) : P k (s.endByCause n o) := by
  dsimp only [State.endByCause]
  split
  · split
    · exact h.release (h.sameOwed hp)
    · exact hp
  · exact hp

theorem yieldTrigger {s : State} {l} (hp : P k s) : P k (s.yieldTrigger l) := by
  unfold State.yieldTrigger
  split
  · split
    · exact h.endByCause hp
    · exact hp
  · exact hp

/-- An order is refused, held or lost as P allows, and forwarded where P allows it to join the downstream queue. -/
theorem screen {s : State} {f o} (hp : P k s) (hd : P k (s.enterDown f)) : P k (s.screen f o) := by
  have hh : P k (s.holdOrder f o.line) := h.holdOrder hp
  by_cases ho : o.code ∈ [OrderCode.tapConnect, .tapRelease, .cardAudit]
  · rw [State.screen_relay ho]; exact h.notify hp
  by_cases ha : (s.line o.line).access ∈ [Access.free, .stuck]
  · rw [State.screen_open ho ha]; exact h.commit hd
  · rw [State.screen_held ho ha]
    split
    · exact h.yieldTrigger hh
    · exact hh

/-! ### The Sweep Unit -/

theorem count {s : State} {g} (hp : P k s) : P k (s.count g) := by
  unfold State.count
  split
  · exact h.sweepOnly hp
  · exact hp

theorem missLine {s : State} {l} (hp : P k s) : P k (s.missLine l) := h.writeRoutine (h.count hp)

theorem offerSuspect {s : State} {l p r} (hp : P k s) : P k (s.offerSuspect l p r) := by
  unfold State.offerSuspect
  split
  · exact hp
  · exact hp
  · exact h.count hp
  · rename_i hf
    have hr : s.sweep.suspects.length < 16 := by
      simp only [State.suspectFate, Config.suspectRoom] at hf
      grind
    exact h.wantAttempt (h.sweepOnly hp fun ⟨h1, _, h3, h4⟩ => ⟨h1, by simpa using hr, h3, h4⟩)

theorem deferLine {s : State} {l p} (hp : P k s) (hr : s.canRevisit l = true) : P k (s.deferLine l p) := by
  have hl : s.sweep.revisits.length < 64 := ((State.canRevisit_iff l).1 hr).1
  exact h.count (h.sweepOnly hp fun ⟨_, h2, h3, h4⟩ => ⟨by simpa using hl, h2, h3, h4⟩)

theorem countYield {s : State} {e} (hp : P k s) : P k (s.countYield e) := by
  unfold State.countYield
  split
  · split
    · rename_i hc; exact h.deferLine hp hc.2
    · exact h.count hp
  · split
    · rename_i hc; exact h.deferLine hp hc.2
    · exact h.count hp
  · exact h.count hp
  · exact hp

theorem bookEnd {s : State} {e} (hp : P k s) : P k (s.bookEnd e) := by
  dsimp only [State.bookEnd]
  split
  · split
    · exact h.countYield (h.writeRoutine hp)
    · exact h.writeRoutine hp
  · split
    · exact h.count (h.writeRoutine hp)
    · exact h.writeRoutine hp

theorem clear {s : State} {a n c} (hp : P k s) : P k (s.clearTicket a n c) := by
  unfold State.clearTicket
  split
  · split
    · exact hp
    · exact h.notify (h.put hp)
  · exact hp

theorem originActions {s : State} {e} (hp : P k s) : P k (s.originActions e) := by
  unfold State.originActions
  split
  · split
    · exact h.offerSuspect hp
    · exact hp
  · split
    · exact h.offerSuspect hp
    · exact hp
  · split
    · split
      · exact h.raise hp
      · exact hp
    · exact hp
  · split
    · exact h.clear hp
    · exact hp
  · exact hp
  · exact hp

theorem routineEnded {s : State} {e} (hp : P k s) : P k (s.routineEnded e) :=
  h.wantAttempt (h.originActions (h.bookEnd hp))

theorem discardContext {s : State} {c} (hp : P k s) : P k (s.discardContext c) := by
  unfold State.discardContext
  split
  · exact h.writeRoutine (h.count hp)
  · exact hp

theorem pushContext {s : State} {c} (hp : P k s) : P k (s.pushContext c) := by
  unfold State.pushContext
  split
  · exact h.discardContext hp
  · exact h.sweepOnly hp

theorem endDrain {s : State} (hp : P k s) : P k s.endDrain := by
  unfold State.endDrain
  split
  · exact h.sweepOnly (h.notify hp)
  · exact hp

theorem requestAudit {s : State} {c} (hp : P k s) : P k (s.requestAudit c) := by
  dsimp only [State.requestAudit]
  split
  · exact hp
  · exact h.other (h.offer hp) rfl

/-- A pass start latches the loaded ranges (R150). -/
theorem startPass {s : State} (hp : P k s) : P k s.startPass := by
  dsimp only [State.startPass]
  have hl : P k { s with sweep := { s.sweep with
      passNumber := (s.sweep.passNumber + 1) % 256, underWay := true, config := s.latched
      timer := none, startWaits := false, left := none } } :=
    h.sweepOnly hp fun ⟨h1, h2, h3, _⟩ => ⟨h1, h2, h3, h3⟩
  exact h.wantAttempt (h.sweepOnly (h.notify (h.sweepOnly (fold _ hl fun _ _ hp => h.requestAudit hp))))

theorem endPass {s : State} (hp : P k s) : P k s.endPass := h.sweepOnly (h.notify hp)

theorem walked {s : State} {r l a} (hp : P k s) : P k (s.walked r l a) := by
  dsimp only [State.walked]
  split
  · exact h.sweepOnly (h.sweepOnly (h.notify hp))
  · exact h.sweepOnly hp

omit h in
/-- The start of a test leaves the Sweep Unit's state. -/
theorem requestRoutine_sweep {s u : State} {t o} (hr : s.requestRoutine t o = .started u) : u.sweep = s.sweep := by
  obtain ⟨-, n, b, -, -, rfl⟩ := State.requestRoutine_started hr
  simp

theorem requestRoutine {s u : State} {t o} (hp : P k s) (hr : s.requestRoutine t o = .started u) : P k u := by
  obtain ⟨-, n, b, -, -, rfl⟩ := State.requestRoutine_started hr
  exact h.startTest hp

theorem sendReport {s : State} {r} (hp : P k s) : P k (s.sendReport r) := by
  unfold State.sendReport
  split
  · exact h.notify hp
  · exact hp

theorem yieldContext {s : State} {c} (hp : P k s) : P k (s.yieldContext c) := h.routineEnded (h.sendReport hp)

open SweepFree (carried)

theorem serveContext {s : State} (hp : P k s) : P k (carried s.serveContext) := by
  dsimp only [State.serveContext]
  split
  · exact hp
  split
  · exact hp
  rename_i c rest _
  have hy : P k (State.yieldContext { s with sweep.suspended := rest } c) := h.yieldContext (h.sweepOnly hp)
  have hd : P k (carried (if (State.yieldContext { s with sweep.suspended := rest } c).passDone && !s.passDone
      then .ended (State.yieldContext { s with sweep.suspended := rest } c)
      else .handled { State.yieldContext { s with sweep.suspended := rest } c with sweep.attemptDue := false })) := by
    split
    · exact hy
    · exact h.sweepOnly hy
  split
  · split
    · exact h.sweepOnly (h.requestRoutine hp ‹_›)
    · exact hp
    · exact hp
    · exact hd
  · exact hd

/-- A suspect leaves its queue, or stands at its tail instead of its head (R158). -/
theorem serveSuspect {s : State} {m} (hp : P k s) : P k (carried (s.serveSuspect m).1) := by
  dsimp only [State.serveSuspect]
  split
  · exact hp
  split
  · exact hp
  rename_i e rest hs
  have hw : s.sweep.WithinRooms → Sweep.WithinRooms { s.sweep with suspects := rest } :=
    fun ⟨h1, h2, h3, h4⟩ => ⟨h1, by rw [hs, List.length_cons] at h2; exact (Nat.le_succ _).trans h2, h3, h4⟩
  split
  · exact hp
  split
  · exact h.sweepOnly hp hw
  split
  · split
    · rename_i hr
      exact h.sweepOnly (h.requestRoutine hp hr) (by rw [requestRoutine_sweep hr]; exact hw)
    · exact hp
    · exact hp
    · exact h.missLine (h.sweepOnly hp hw)
  split
  · exact h.missLine (h.sweepOnly hp hw)
  · exact h.sweepOnly hp fun ⟨h1, h2, h3, h4⟩ => ⟨h1, by rw [hs] at h2; simpa using h2, h3, h4⟩

theorem serveWalk {s : State} (hp : P k s) : P k (carried s.serveWalk) := by
  dsimp only [State.serveWalk]
  split
  · exact hp
  · exact hp
  split
  · exact hp
  split
  · exact h.walked hp
  split
  · exact h.walked (h.count hp)
  split
  · exact h.walked (h.count hp)
  split
  · exact h.walked (h.count hp)
  split
  · split
    · exact h.walked (h.deferLine hp ‹_›)
    · exact h.walked (h.missLine hp)
  split
  · exact h.walked (h.requestRoutine hp ‹_›)
  · exact hp
  · exact hp
  · exact h.walked (h.missLine hp)

theorem serveRevisit {s : State} (hp : P k s) : P k (carried s.serveRevisit) := by
  dsimp only [State.serveRevisit]
  split
  · exact hp
  split
  · exact hp
  rename_i e rest hs
  have hw : s.sweep.WithinRooms → Sweep.WithinRooms { s.sweep with revisits := rest } :=
    fun ⟨h1, h2, h3, h4⟩ => ⟨by rw [hs, List.length_cons] at h1; exact (Nat.le_succ _).trans h1, h2, h3, h4⟩
  split
  · exact h.sweepOnly hp hw
  split
  · split
    · rename_i hr
      exact h.sweepOnly (h.requestRoutine hp hr) (by rw [requestRoutine_sweep hr]; exact hw)
    · exact hp
    · exact hp
    · exact h.missLine (h.sweepOnly hp hw)
  · exact h.missLine (h.sweepOnly hp hw)

theorem contextsOn {s : State} (n : Nat) (hp : P k s) : P k (carried (State.contextsOn n s)) := by
  induction n generalizing s with
  | zero => exact hp
  | succ n ih =>
    have hs := h.serveContext hp
    unfold State.contextsOn
    split
    · rename_i heq; rw [heq] at hs; exact ih hs
    · exact hs

theorem suspectsOn {s : State} (n : Nat) {m} (hp : P k s) : P k (carried (State.suspectsOn n s m).1) := by
  induction n generalizing s m with
  | zero => exact hp
  | succ n ih =>
    have hs := h.serveSuspect (m := m) hp
    unfold State.suspectsOn
    split
    · rename_i heq; rw [heq] at hs; exact ih hs
    · exact hs

theorem walkOn {s : State} (n : Nat) (hp : P k s) : P k (carried (State.walkOn n s)) := by
  induction n generalizing s with
  | zero => exact hp
  | succ n ih =>
    have hs := h.serveWalk hp
    unfold State.walkOn
    split
    · rename_i heq; rw [heq] at hs; exact ih hs
    · exact hs

theorem revisitsOn {s : State} (n : Nat) (hp : P k s) : P k (carried (State.revisitsOn n s)) := by
  induction n generalizing s with
  | zero => exact hp
  | succ n ih =>
    have hs := h.serveRevisit hp
    unfold State.revisitsOn
    split
    · rename_i heq; rw [heq] at hs; exact ih hs
    · exact hs

theorem serve {s : State} {m} (hp : P k s) : P k (carried (s.serve m).1) := by
  unfold State.serve
  have h1 := h.contextsOn (s.sweep.suspended.length + 1) hp
  split
  · rename_i s1 heq
    rw [heq] at h1
    have h2 := h.suspectsOn (s := s1) (s1.sweep.suspects.length + 1) (m := m) h1
    split
    · rename_i s2 m' heq2
      rw [heq2] at h2
      have h3 := h.walkOn (s := s2) (candidates s2.sweep.config.ranges + 1) h2
      split
      · rename_i s3 heq3
        rw [heq3] at h3
        exact h.revisitsOn _ h3
      · exact h3
    · exact h2
  · exact h1

theorem attempt {s : State} (n : Nat) {m} (hp : P k s) : P k (State.attempt n m s) := by
  induction n generalizing s m with
  | zero => exact hp
  | succ n ih =>
    unfold State.attempt
    have hs := h.serve (m := m) hp
    split <;> rename_i heq <;> rw [heq] at hs
    · exact ih hs
    all_goals exact hs

theorem attemptIfDue {s : State} (hp : P k s) : P k s.attemptIfDue := by
  unfold State.attemptIfDue
  split
  · exact h.attempt _ (h.sweepOnly hp)
  · exact hp

theorem beginPass {s : State} (hp : P k s) : P k s.beginPass := h.attemptIfDue (h.startPass hp)

theorem settleWith {s : State} (n : Nat) {last} (hp : P k s) : P k (State.settleWith n last s) := by
  induction n generalizing s last with
  | zero => exact hp
  | succ n ih =>
    unfold State.settleWith
    have hd := h.endDrain hp
    have he := h.endPass hd
    have hi : ∀ ms, P k (s.endDrain.endPass.startInterval ms) := fun _ => h.sweepOnly he
    dsimp only
    split
    · split
      · split
        · exact ih (hi _)
        · exact ih (h.beginPass he)
      · exact ih (hi _)
    · split
      · exact ih (h.attemptIfDue hd)
      · exact hd

theorem settle {s : State} (hp : P k s) : P k s.settle := h.settleWith _ hp

theorem runPass {s : State} (hp : P k s) : P k s.runPass := h.settleWith _ (h.beginPass hp)

/-! ### The Line Table's part in events -/

theorem countedTransition {s : State} {l} (hp : P k s) : P k (s.countedTransition l) := by
  dsimp only [State.countedTransition]
  split
  · exact h.offerSuspect (h.raise (h.setLine hp))
  · exact h.setLine hp

theorem loopEvent {s : State} {l e} (hp : P k s) : P k (s.loopEvent l e) := by
  dsimp only [State.loopEvent]
  split
  · exact hp
  split
  · exact hp
  rename_i c counted _
  have h1 : P k (if counted then (s.setCondition l c).countedTransition l else s.setCondition l c) := by
    split
    · exact h.countedTransition (h.condition hp)
    · exact h.condition hp
  split
  · exact h.yieldTrigger h1
  · exact h1

theorem setCardCondition {s : State} {n c} (hp : P k s) : P k (s.setCardCondition n c) :=
  fold _ hp fun _ _ hp => h.condition hp

theorem cardDown {s : State} {n} (hp : P k s) : P k (s.cardDown n) := h.raise (h.setCardCondition hp)

theorem cardOk {s : State} {n} (hp : P k s) : P k (s.cardOk n) := h.requestAudit (h.clear (h.setCardCondition hp))

theorem cardState {s : State} {n b} (hp : P k s) : P k (s.cardState n b) := by
  dsimp only [State.cardState]
  have h1 : P k ((circuitsOf n).foldl (fun s l => s.setLine l ((s.line l).onCardState (closedIn b l))) s) :=
    fold _ hp fun _ _ hp => h.setLine hp
  have h2 : ∀ L : List Nat, ∀ u, P k u → P k ((u.inFreeOrder L).1.foldl State.yieldTrigger (u.inFreeOrder L).2) :=
    fun L u hu => fold _ (h.other hu) fun _ _ hp => h.yieldTrigger hp
  split
  · exact h.other (h2 _ _ h1) rfl
  · exact h2 _ _ h1

/-! ### The end of a test and of a release -/

theorem noteIdle {s : State} {n} (hp : P k s) : P k (s.noteIdle n) := by
  unfold State.noteIdle
  split
  · exact h.wantAttempt hp
  · exact hp

/-- The ABORT that waited for the end of a test is answered with the response its channel owed (R92, R180). -/
theorem answerAbort {s : State} {n tag t} (hp : P (k + if tag.isSome then 1 else 0) s) : P k (s.answerAbort n tag t) := by
  unfold State.answerAbort
  cases tag with
  | none => exact hp
  | some tag =>
    dsimp only
    split
    · exact h.respond hp
    · exact h.other (h.respond hp) rfl

theorem endTest {s : State} {n} (hp : P k s) : P k (s.endTest n) := by
  dsimp only [State.endTest]
  have h1 : P (k + if (s.chan n).pendingAbort.isSome then 1 else 0) ((s.setChan n (s.chan n).givenUp).noteIdle n) := by
    have := (s.chan n).givenUp_owed
    exact h.noteIdle (h.chan hp (by omega))
  split
  · exact h.fewer h1 (by omega)
  have h2 := fun t => h.answerAbort (n := n) (t := t) h1
  split
  · exact h2 _
  split
  · exact h.sendReport (h2 _)
  · exact h.routineEnded (h.sendReport (h2 _))

theorem finishRelease {s : State} {n} (hp : P k s) : P k (s.finishRelease n) := by
  dsimp only [State.finishRelease]
  split
  · exact h.endTest hp
  split
  · have h1 : P k (s.setChan n { s.chan n with releaseLine := none, handover := false }) := h.sameOwed hp
    split
    · exact h.claimAndTap h1
    · exact h.endTest (h.releasePath (h.sameOwed h1))
  · split
    · exact h.endTest (h.releasePath (h.sameOwed hp))
    · exact h.endTest hp

theorem freeClaim {s : State} {b p} (hp : P k s) : P k (s.freeClaim b p) := by
  dsimp only [State.freeClaim]
  split
  · exact h.wantAttempt (h.setBus hp)
  · exact h.setBus hp

theorem completeRelease {s : State} {n b l} (hp : P k s) : P k (s.completeRelease n b l) :=
  h.finishRelease (h.releasePath (h.sameOwed (h.freeClaim hp)))

theorem stickRelay {s : State} {b l} (hp : P k s) : P k (s.stickRelay b l) := h.releasePath (h.raise (h.setBus hp))

theorem timeOutRelease {s : State} {n b l} (hp : P k s) : P k (s.timeOutRelease n b l) :=
  h.finishRelease (h.stickRelay (h.sameOwed hp))

/-! ### Protection, calibration, the running of a plan -/

theorem trip {s : State} {n} (hp : P k s) : P k (s.trip n) := by
  dsimp only [State.trip]
  split
  · exact hp
  · exact h.raise (h.setLine (h.endByCause (h.sameOwed hp)))

theorem setHeadCal {s : State} {n c} (hp : P k s) : P k (s.setHeadCal n c) := h.other hp

theorem assessUsed {s : State} {n t a r} (hp : P k s) : P k (s.assessUsed n t a r) := by
  dsimp only [State.assessUsed]
  split
  · exact h.raise (h.setHeadCal hp)
  · exact h.setHeadCal hp

theorem assessHead {s : State} {n} (hp : P k s) : P k (s.assessHead n) := by
  dsimp only [State.assessHead]
  split
  · exact h.raise (h.setHeadCal hp)
  · exact h.setHeadCal hp

theorem tickHour {s : State} (hp : P k s) : P k s.tickHour :=
  fold _ (fold _ hp fun _ _ hp => h.setHeadCal hp) fun _ _ hp => h.assessHead hp

theorem beginPhase {s : State} {n p} (hp : P k s) : P k (s.beginPhase n p) := h.offer (h.sameOwed hp)

/-- A calibration run owes the response reserved for its CALIBRATE (R133, R180). -/
theorem beginRun {s : State} {n t} (hp : P (k + 1) s) : P k (s.beginRun n t) := by
  refine h.beginPhase (h.chan hp ?_)
  simp only [Channel.owed, Option.isSome_some, if_true]
  omega

theorem idleHead {s : State} {n} (hp : P k s) : P k (s.idleHead n) := h.offer (h.sameOwed hp)

/-- A channel that leaves its calibration run no longer owes the response for it. -/
theorem leaveRun {s : State} {n b} (hp : P k s) : P (k + if (s.chan n).run.isSome then 1 else 0) (s.leaveRun n b) := by
  refine h.noteIdle (h.chan hp ?_)
  show (if (s.chan n).pendingAbort.isSome then 1 else 0) + 0 + (k + _) ≤ _ + _ + k
  omega

theorem failRun {s : State} {n c} (hp : P k s) : P k (s.failRun n c) := by
  dsimp only [State.failRun]
  have h1 : ∀ u, u = (if c = .restart then s.idleHead n else (s.idleHead n).raise .head n .headCalFail none) →
      P k u ∧ (u.chan n).run = (s.chan n).run := by
    rintro u rfl
    split
    · exact ⟨h.idleHead hp, State.idleHead_run _ _⟩
    · exact ⟨h.raise (h.idleHead hp), by rw [State.raise_chan]; exact State.idleHead_run _ _⟩
  obtain ⟨hu, hrun⟩ := h1 _ rfl
  have hl := h.leaveRun (n := n) (b := (s.chan n).headOut) hu
  rw [hrun] at hl
  split
  · rename_i hr _
    rw [hr] at hl
    exact h.respond hl
  · exact h.fewer hl (by omega)

theorem finishRun {s : State} {n r v i j t} (hr : (s.chan n).run = some r) (hp : P k s) :
    P k (s.finishRun n r v i j t) := by
  dsimp only [State.finishRun]
  refine h.respond ?_
  have hl := fun c => h.leaveRun (n := n) (b := false) (h.clear (a := .head) (n := n) (c := .headSilent)
    (h.clear (a := .head) (n := n) (c := .headCalFail) (h.clear (a := .head) (n := n) (c := .headCalDue)
      (h.setHeadCal (n := n) (c := c) (h.idleHead (n := n) hp)))))
  have hk : ((s.idleHead n).chan n).run = some r := (State.idleHead_run s n).trans hr
  simp only [State.clearTicket_chan, State.setHeadCal_chan, hk, Option.isSome_some, if_true] at hl
  exact hl _

theorem setRun {s : State} {n r} (hr : (s.chan n).run.isSome = true) (hp : P k s) : P k (s.setRun n r) :=
  h.chan hp (by simp [Channel.owed, hr])

theorem phaseDone {s : State} {n w} (hp : P k s) : P k (s.phaseDone n w) := by
  dsimp only [State.phaseDone]
  have hs : ∀ {r q p}, (s.chan n).run = some r → P k ((s.setRun n q).beginPhase n p) :=
    fun hr => h.beginPhase (h.setRun (by rw [hr]; rfl) hp)
  split
  · exact hs ‹_›
  · exact hs ‹_›
  · split
    · exact h.failRun hp
    · exact hs ‹_›
  · split
    · exact h.failRun hp
    · exact hs ‹_›
  · split
    · exact h.failRun hp
    · split
      · exact h.finishRun ‹_› hp
      · exact hp
  · exact hp

theorem beginRepetition {s : State} {n r p} (hp : P k s) : P k (s.beginRepetition n r p) := h.offer (h.sameOwed hp)

theorem beginStep {s : State} {n i p} (hp : P k s) : P k (s.beginStep n i p) := by
  unfold State.beginStep
  split
  · exact h.beginRepetition hp
  · exact hp

theorem resultTickets {s : State} {t r x} (hp : P k s) : P k (s.resultTickets t r x) := by
  dsimp only [State.resultTickets]
  split
  · exact h.raise hp
  · split
    · exact h.clear (h.clear hp)
    · exact h.clear hp
  all_goals exact hp

theorem formResult {s : State} {n t r p x} (hp : P k s) : P k (s.formResult n t r p x) := by
  dsimp only [State.formResult]
  have h1 : P k (s.setChan n { s.chan n with test := some { t with results := t.results ++ [x] } }) := h.sameOwed hp
  generalize s.setChan n { s.chan n with test := some { t with results := t.results ++ [x] } } = u at h1
  have h2 : P k (if r.notify then u.stepNotice n t p.position x else u) := by
    split
    · exact h.notify h1
    · exact h1
  have h3 := h.resultTickets (t := t) (r := r) (x := x) h2
  split
  · exact h.endByCause h3
  · split
    · exact h.endByCause h3
    · exact h.beginStep h3

theorem evaluate {s : State} {n t r p w} (hp : P k s) : P k (s.evaluate n t r p w) := by
  dsimp only [State.evaluate]
  split
  · exact h.beginRepetition (h.assessUsed hp)
  · exact h.formResult (h.assessUsed hp)

theorem windowDone {s : State} {n w} (hp : P k s) : P k (s.windowDone n w) := by
  dsimp only [State.windowDone]
  split
  · split
    · exact h.evaluate hp
    · exact hp
  · exact hp

/-! ### Sample Intake -/

theorem settleBlock {s : State} {n w p} (hp : P k s) : P k (s.settleBlock n w p) := by
  dsimp only [State.settleBlock]
  split
  · exact h.sameOwed hp (by split <;> rfl) (by split <;> rfl)
  · exact h.sameOwed hp (by split <;> rfl) (by split <;> rfl)
  · split
    · exact h.failRun (h.sameOwed hp)
    · exact h.sameOwed hp rfl rfl

theorem loss {s : State} {n w p} (hp : P k s) : P k (s.loss n w p) := by
  dsimp only [State.loss]
  split
  · split
    · exact h.failRun (h.sameOwed hp)
    · exact h.endByCause (h.sameOwed hp)
  · exact h.settleBlock (h.sameOwed hp (by split <;> rfl) (by split <;> rfl))

theorem accumulate {s : State} {n w t p} (hp : P k s) : P k (s.accumulate n w t p) := by
  dsimp only [State.accumulate]
  split
  · split
    · exact h.phaseDone (h.sameOwed hp)
    · exact h.windowDone (h.sameOwed hp)
  · exact h.sameOwed hp

theorem actOnFrame {s : State} {n c t p} (hp : P k s) : P k (s.actOnFrame n c t p) := by
  unfold State.actOnFrame
  split
  · exact hp
  split
  · exact h.settleBlock hp
  · exact h.settleBlock hp
  · exact h.loss hp
  · exact h.accumulate hp
  · exact h.loss hp
  · exact hp

theorem takeSample {s : State} {x} (hp : P k s) : P k (s.takeSample x) := by
  dsimp only [State.takeSample, State.handleSample]
  split
  · split
    · exact h.actOnFrame (h.sameOwed hp rfl rfl)
    · split
      · exact h.trip (h.sameOwed hp rfl rfl)
      · exact h.actOnFrame (h.sameOwed hp rfl rfl)
  · exact hp

theorem headSilent {s : State} {n} (hp : P k s) : P k (s.headSilent n) := by
  dsimp only [State.headSilent]
  have h1 := h.raise (a := .head) (n := n) (c := .headSilent) (e := none)
    (h.sameOwed (n := n) (c := { s.chan n with headOut := true }) hp)
  split
  · exact h.failRun h1
  · exact h.endByCause h1

/-! ### Relays -/

theorem confirmTap {s : State} {n b l} (hp : P k s) : P k (s.confirmTap n b l) := by
  dsimp only [State.confirmTap]
  have h1 : ∀ r : Bus, P k (((s.setBus b r).setAccess l (.tapped n)).setChan n
      { ((s.setBus b r).setAccess l (.tapped n)).chan n with stage := .sourcing }) :=
    fun _ => h.sameOwed (h.access (h.setBus hp))
  split
  · exact h.beginStep (h1 _)
  · exact h1 _

theorem strayMake {s : State} {b l} (hp : P k s) : P k (s.strayMake b l) := h.setBus (h.offer (h.raise hp))

theorem tapMade {s : State} {l b} (hp : P k s) : P k (s.tapMade l b) := by
  dsimp only [State.tapMade]
  split
  · exact hp
  split
  · exact hp
  split
  · split
    · split
      · exact h.confirmTap hp
      · exact h.setBus hp
    all_goals exact h.setBus hp
  · exact h.strayMake hp

theorem relayDrop {s : State} {n b l} (hp : P k s) : P k (s.relayDrop n b l) := h.endByCause (h.raise (h.setBus hp))

theorem strayBroken {s : State} {l b} (hp : P k s) : P k (s.strayBroken l b) := h.other hp

theorem completeRestartRelease {s : State} {b l} (hp : P k s) : P k (s.completeRestartRelease b l) :=
  h.releasePath (h.freeClaim hp)

theorem tapBroken {s : State} {l b} (hp : P k s) : P k (s.tapBroken l b) := by
  dsimp only [State.tapBroken]
  have hs : P k (s.strayBroken l b) := h.strayBroken hp
  split
  · exact hp
  split
  · rename_i n _
    have hd : P k (if (s.bus b).confirmed = some l then s.relayDrop n b l else s.strayBroken l b) := by
      split
      · exact h.relayDrop hp
      · exact hs
    split
    · exact hd
    · exact hd
    · exact hd
    · split
      · exact h.completeRelease hp
      · exact hs
    all_goals exact hs
  · split
    · exact h.completeRestartRelease hp
    · exact hs
  · split
    · exact h.setBus hp
    · exact hs
  all_goals exact hs

theorem noMake {s : State} {n l} (hp : P k s) : P k (s.noMake n l) := h.endByCause (h.raise hp)

theorem strayTimeout {s : State} {b l} (hp : P k s) : P k (s.strayTimeout b l) := h.raise (h.setBus hp)

/-! ### Highway events -/

theorem countDiscard {s : State} {p} (hp : P k s) : P k (s.countDiscard p) := h.other hp

/-- A sound frame at Port U joins the downstream queue or the command queue, or the Order Screen has it. -/
theorem dispatchU {s : State} {f} (hp : P k s) (hd : P k (s.enterDown f)) (hc : P k (s.enterCommand f)) :
    P k (s.dispatchU f) := by
  unfold State.dispatchU
  split
  · exact hd
  split
  · split
    · exact hc
    · exact h.countDiscard hp
  · split
    · exact h.screen hp hd
    · exact hd

theorem readScanEvent {s : State} {x} (hp : P k s) : P k (s.readScanEvent x) := by
  unfold State.readScanEvent
  split
  any_goals exact h.loopEvent hp
  · exact h.tapMade hp
  · exact h.tapBroken hp
  · exact h.cardDown hp
  · exact h.cardDown hp
  · exact h.cardOk hp
  · exact h.cardState hp

/-- A sound frame at Port S ends at the part, or joins the upstream queue as the act has left it. -/
theorem dispatchS {s : State} {f} (hp : P k s)
    (hu : ∀ u : State, P k u → u.link.up = s.link.up → P k (u.enterUp f)) : P k (s.dispatchS f) := by
  unfold State.dispatchS
  split
  · rename_i x _
    dsimp only [State.dispatchScan]
    split
    · exact h.readScanEvent hp
    · exact hu _ (h.readScanEvent hp) (by simp)
  · split
    · split
      · exact h.takeSample hp
      · exact h.countDiscard hp
    · exact hu _ hp rfl

theorem startTied {s : State} {f} (hp : P k s) : P k (s.startTied f) := by
  dsimp only [State.startTied]
  split
  · exact hp
  · exact hp
  · split
    · exact h.setBus hp
    · exact hp
  · split
    · split
      · exact h.setBus hp
      · exact hp
    · exact hp
  · split
    · exact h.other hp
    · exact hp
  · split
    · split
      · exact h.sameOwed hp
      · exact h.sameOwed hp
    · exact hp

/-! ### Desk commands: each handler uses the one response reserved for it (R178, R180) -/

omit h in
/-- The Command Unit takes commands in normal passage, with no ABORT awaiting completion and room for a response (R178, R181). -/
theorem canTake_iff (s : State) : s.canTake = true ↔ s.phase = .normal ∧ (∀ n, n < 4 → (s.chan n).pendingAbort = none) ∧
    s.desk.notices.length + s.desk.reservations < 64 := by
  have hfull : s.noticesFull = false ↔ s.desk.notices.length + s.desk.reservations < 64 :=
    decide_eq_false_iff_not.trans Nat.not_le
  have hpend : s.abortPending = false ↔ ∀ n, n < 4 → (s.chan n).pendingAbort = none := by
    simp only [State.abortPending, allChannels, List.any_eq_false, List.mem_cons, List.not_mem_nil, or_false,
      Option.not_isSome_iff_eq_none]
    exact forall_congr' fun n => imp_congr_left (by omega)
  simp only [State.canTake, Bool.and_eq_true, beq_iff_eq, Bool.not_eq_true', hfull, hpend, and_assoc]

/-- A command that is taken comes to its handler with a response reserved (R181). -/
theorem onCommand {s : State} {c g} (hp : P k s) (hg : ∀ {tag ps u}, P (k + 1) u → P k (g tag ps u)) :
    P k (s.onCommand c g) := by
  rcases s.onCommand_cases c g with he | ⟨f, rest, hq, ht, _, he⟩
  · rw [he]; exact hp
  · rw [he]
    obtain ⟨-, -, hroom⟩ := (canTake_iff s).1 ht
    exact hg (h.taking hp hroom hq)

theorem badParam {s : State} {t} (hp : P (k + 1) s) : P k (s.badParam t) := h.respond hp

theorem loadLine {s : State} {e} (hp : P k s) : P k (s.loadLine e) := by
  dsimp only [State.loadLine]
  split
  · exact h.requestAudit (h.setLine hp)
  · exact h.setLine hp

theorem doLoadLines {s : State} {t p} (hp : P (k + 1) s) : P k (State.doLoadLines t p s) := by
  unfold State.doLoadLines
  split
  · dsimp only
    split
    · exact h.badParam hp
    split
    · exact h.badParam hp
    split
    · exact h.respond hp
    · exact h.respond (fold _ hp fun _ _ hp => h.loadLine hp)
  · exact h.badParam hp

theorem doLineRead {s : State} {t p} (hp : P (k + 1) s) : P k (State.doLineRead t p s) := by
  unfold State.doLineRead
  split
  · split
    · exact h.respond hp
    · exact h.badParam hp
  · exact h.badParam hp

theorem doInhibit {s : State} {t p} (hp : P (k + 1) s) : P k (State.doInhibit t p s) := by
  unfold State.doInhibit
  split
  · split
    · split
      · exact h.respond (h.setLine hp)
      · exact h.badParam hp
    · exact h.badParam hp
  · exact h.badParam hp

theorem doClearHazard {s : State} {t p} (hp : P (k + 1) s) : P k (State.doClearHazard t p s) := by
  unfold State.doClearHazard
  split
  · dsimp only
    split
    · split
      · exact h.respond hp
      · exact h.respond (h.setLine hp)
    · exact h.badParam hp
  · exact h.badParam hp

theorem doLoadBusmap {s : State} {t p} (hp : P (k + 1) s) : P k (State.doLoadBusmap t p s) := by
  unfold State.doLoadBusmap
  split
  · split
    · exact h.badParam hp
    split
    · exact h.respond (h.setBus hp)
    · exact h.respond hp
  · exact h.badParam hp

theorem restoreLine {s : State} {l} (hp : P k s) : P k (s.restoreLine l) := by
  unfold State.restoreLine
  split
  · exact h.access hp
  · split
    · exact h.other hp
    · exact hp
  all_goals exact hp

theorem unstick {s : State} {b} (hp : P k s) : P k (s.unstick b) := by
  dsimp only [State.unstick]
  refine h.clear (h.setBus ?_)
  split
  · split
    · exact hp
    · exact h.restoreLine hp
  · exact hp

theorem doClearStuck {s : State} {t p} (hp : P (k + 1) s) : P k (State.doClearStuck t p s) := by
  unfold State.doClearStuck
  split
  · dsimp only
    split
    · exact h.badParam hp
    split
    · exact h.respond (h.settle (h.wantAttempt (h.unstick (h.setBus hp))))
    split
    · exact h.respond (h.unstick hp)
    · exact h.respond hp
  · exact h.badParam hp

theorem doLoadStep {s : State} {t p} (hp : P (k + 1) s) : P k (State.doLoadStep t p s) := by
  unfold State.doLoadStep
  split
  · exact h.badParam hp
  split
  · exact h.respond hp
  · exact h.respond (h.other hp)

theorem doLoadPlan {s : State} {t p} (hp : P (k + 1) s) : P k (State.doLoadPlan t p s) := by
  unfold State.doLoadPlan
  split
  · split
    · exact h.badParam hp
    dsimp only
    split
    · exact h.badParam hp
    split
    · exact h.respond hp
    · exact h.respond (h.other hp)
  · exact h.badParam hp

theorem preempt {s : State} {n t} (hp : P k s) : P k (s.preempt n t) := by
  dsimp only [State.preempt]
  split
  · exact h.release (h.access (h.sameOwed (h.pushContext hp)))
  · exact hp

theorem admitUrgent {s u : State} {q n} (hp : P k s) (hu : s.admitUrgent q = some (n, u)) : P k u := by
  unfold State.admitUrgent at hu
  split at hu
  · obtain ⟨b, _, he⟩ := Option.map_eq_some_iff.1 hu
    cases he; exact h.startTest hp
  · obtain ⟨b, _, he⟩ := Option.map_eq_some_iff.1 hu
    cases he; exact h.settle (h.preempt hp)

theorem doTest {s : State} {t p} (hp : P (k + 1) s) : P k (State.doTest t p s) := by
  unfold State.doTest
  split
  · exact h.badParam hp
  split
  · exact h.respond hp
  split
  · exact h.respond (h.admitUrgent hp ‹_›)
  · exact h.respond hp

/-- An ABORT that waits for its test leaves the response reserved for it to the channel (R92, R180). -/
theorem awaitAbort {s : State} {n t} (hp : P (k + 1) s) : P k (s.awaitAbort n t) := by
  refine h.chan hp ?_
  simp only [Channel.owed, Option.isSome_some, if_true]
  omega

theorem doAbort {s : State} {t p} (hp : P (k + 1) s) : P k (State.doAbort t p s) := by
  unfold State.doAbort
  split
  · exact h.badParam hp
  split
  · exact h.respond hp
  unfold State.abortOn
  split
  any_goals exact h.respond hp
  any_goals exact h.endByCause (h.awaitAbort hp)
  dsimp only [State.abortHandover]
  split
  · exact h.sameOwed (h.awaitAbort hp)
  · exact h.awaitAbort hp

theorem doReturnHead {s : State} {t p} (hp : P (k + 1) s) : P k (State.doReturnHead t p s) := by
  unfold State.doReturnHead
  split
  · split
    · exact h.badParam hp
    split
    · exact h.respond (h.settle (h.clear (h.noteIdle (h.sameOwed hp))))
    · exact h.respond hp
  · exact h.badParam hp

theorem setLimits {s : State} {p i vs} (hp : P k s) : P k (s.setLimits p i vs) := by
  induction vs generalizing s i with
  | nil => exact hp
  | cons v vs ih => exact ih (h.other hp)

theorem doLoadProfile {s : State} {t p} (hp : P (k + 1) s) : P k (State.doLoadProfile t p s) := by
  unfold State.doLoadProfile
  split
  · dsimp only
    split
    · exact h.badParam hp
    split
    · exact h.badParam hp
    · exact h.respond (h.setLimits hp)
  · exact h.badParam hp

theorem doCalibrate {s : State} {t p} (hp : P (k + 1) s) : P k (State.doCalibrate t p s) := by
  unfold State.doCalibrate
  split
  · split
    · exact h.badParam hp
    split
    · exact h.beginRun hp
    · exact h.respond hp
  · exact h.badParam hp

theorem doSetCalCoef {s : State} {t p} (hp : P (k + 1) s) : P k (State.doSetCalCoef t p s) := by
  unfold State.doSetCalCoef
  split
  · split
    · exact h.badParam hp
    dsimp only
    split
    · exact h.badParam hp
    · exact h.respond (h.setHeadCal hp)
  · exact h.badParam hp

omit h in
/-- SWEEP_LOAD reads as many ranges as it counts (R149). -/
theorem readRanges_length : ∀ {n : Nat} {ps : Bytes} {rs : List SweepRange}, readRanges n ps = some rs → rs.length = n
  | 0, _, _, he => by cases he; rfl
  | n + 1, a :: b :: c :: d :: p :: rest, _, he => by
    unfold readRanges at he
    split at he
    · obtain ⟨t, ht, rfl⟩ := Option.map_eq_some_iff.1 he
      rw [List.length_cons, readRanges_length ht]
    · cases he

theorem doSweepLoad {s : State} {t p} (hp : P (k + 1) s) : P k (State.doSweepLoad t p s) := by
  unfold State.doSweepLoad
  split
  · split
    · exact h.badParam hp
    rename_i hn
    split
    · exact h.badParam hp
    rename_i hr
    have hl := readRanges_length hr
    exact h.respond (h.sweepOnly hp fun ⟨h1, h2, _, h4⟩ => ⟨h1, h2, by dsimp only; omega, h4⟩)
  · exact h.badParam hp

theorem doSweepStart {s : State} {t p} (hp : P (k + 1) s) : P k (State.doSweepStart t p s) := by
  unfold State.doSweepStart
  split
  · exact h.respond (h.runPass hp)
  all_goals exact h.respond hp

theorem doSweepPause {s : State} {t p} (hp : P (k + 1) s) : P k (State.doSweepPause t p s) := by
  unfold State.doSweepPause
  split
  · exact h.respond (h.sweepOnly hp)
  · exact h.respond (h.sweepOnly hp)
  all_goals exact h.respond hp

theorem resume {s : State} (hp : P k s) : P k s.resume := by
  unfold State.resume
  split
  · exact h.runPass hp
  split
  · exact h.sweepOnly hp
  all_goals exact h.settle (h.wantAttempt (h.sweepOnly hp))

theorem doSweepResume {s : State} {t p} (hp : P (k + 1) s) : P k (State.doSweepResume t p s) := by
  unfold State.doSweepResume
  split
  · exact h.respond (h.resume hp)
  all_goals exact h.respond hp

/-- A stop empties the queues of the pass (R153). -/
theorem drain {s : State} (hp : P k s) : P k s.drain :=
  h.sweepOnly (fold _ (h.sweepOnly hp fun ⟨_, _, h3, h4⟩ => ⟨Nat.zero_le _, Nat.zero_le _, h3, h4⟩)
    fun _ _ hp => h.discardContext hp)

theorem doSweepStop {s : State} {t p} (hp : P (k + 1) s) : P k (State.doSweepStop t p s) := by
  unfold State.doSweepStop
  split
  · exact h.respond hp
  · exact h.respond (h.settle (h.drain hp))
  · exact h.respond (h.settle (h.drain hp))
  · exact h.respond (h.settle (h.drain hp))
  · exact h.respond hp

theorem doSweepMark {s : State} {t p} (hp : P (k + 1) s) : P k (State.doSweepMark t p s) := by
  unfold State.doSweepMark
  split
  · split
    · exact h.respond (h.sweepOnly hp)
    split
    · exact h.badParam hp
    · exact h.respond (h.sweepOnly hp)
  · exact h.badParam hp

theorem doSuspect {s : State} {t p} (hp : P (k + 1) s) : P k (State.doSuspect t p s) := by
  unfold State.doSuspect
  split
  · dsimp only
    split
    · exact h.badParam hp
    · split <;> exact h.respond (h.settle (h.offerSuspect hp))
  · exact h.badParam hp

theorem answerTicket {s : State} {t x} (hp : P (k + 1) s) : P k (s.answerTicket t x) := by
  unfold State.answerTicket
  split <;> exact h.respond hp

theorem doTicketRead {s : State} {t p} (hp : P (k + 1) s) : P k (State.doTicketRead t p s) := by
  unfold State.doTicketRead
  split
  · split
    · exact h.answerTicket hp
    split
    · exact h.answerTicket hp
    · exact h.badParam hp
  · exact h.badParam hp

theorem doTicketAck {s : State} {t p} (hp : P (k + 1) s) : P k (State.doTicketAck t p s) := by
  unfold State.doTicketAck
  split
  · split
    · exact h.respond hp
    split
    · exact h.respond (h.put hp)
    · exact h.respond hp
    · exact h.respond hp
  · exact h.badParam hp

theorem closeTicket {s : State} {t} (hp : P k s) : P k (s.closeTicket t) := by
  dsimp only [State.closeTicket]
  split
  · exact h.setLine (h.remove hp)
  · exact h.remove hp

theorem doTicketClose {s : State} {t p} (hp : P (k + 1) s) : P k (State.doTicketClose t p s) := by
  unfold State.doTicketClose
  split
  · split
    · exact h.respond hp
    · exact h.respond (h.closeTicket hp)
  · exact h.badParam hp

theorem doTicketNote {s : State} {t p} (hp : P (k + 1) s) : P k (State.doTicketNote t p s) := by
  unfold State.doTicketNote
  split
  · split
    · exact h.badParam hp
    split
    · exact h.respond hp
    · exact h.respond (h.put hp)
  · exact h.badParam hp

theorem doSetParam {s : State} {t p} (hp : P (k + 1) s) : P k (State.doSetParam t p s) := by
  unfold State.doSetParam
  split
  · split
    · exact h.badParam hp
    split
    · split
      · exact h.respond (h.other hp)
      · exact h.respond hp
    · exact h.badParam hp
  · exact h.badParam hp

theorem restartTap {s : State} {n} (hp : P k s) : P k (s.restartTap n) := by
  dsimp only [State.restartTap]
  split
  · exact h.sameOwed hp rfl rfl
  · exact h.access (h.setBus (h.offer (h.offer (h.sameOwed hp rfl rfl))))

theorem restartChannel {s : State} {n} (hp : P k s) : P k (s.restartChannel n) := by
  unfold State.restartChannel
  split
  any_goals exact hp
  any_goals exact h.restartTap hp
  · exact h.sameOwed hp
  · exact h.failRun hp

theorem doRestart {s : State} {t p} (hp : P (k + 1) s) : P k (State.doRestart t p s) := by
  unfold State.doRestart
  split
  · exact h.respond hp
  dsimp only [State.warmRestart]
  have h1 : ∀ {u : State}, P k u → P k u.restartChannels :=
    fun hu => fold _ (h.other hu) fun _ _ hp => h.restartChannel hp
  have h2 : ∀ {u : State}, P k u → P k u.restartFlushes :=
    fun hu => fold _ (h.other hu) fun _ _ hp => h.beginFlush hp
  exact h.noticesDropped (h.sweepOnly (h2 (h1 (h.respond hp)))
    fun ⟨_, _, h3, h4⟩ => ⟨Nat.zero_le _, Nat.zero_le _, h3, h4⟩)

/-! ### Every command, every step -/

omit h in
theorem answer {P : State → Prop} {t u : State} (hu : P u) (he : (Host.Outcome.next u : Answer) = .next t) : P t := by
  cases he; exact hu

theorem desk {c g} {s t : State} (hp : P 0 s) (hg : ∀ {tag ps u}, P 1 u → P 0 (g tag ps u))
    (he : (Host.Outcome.next (s.onCommand c g) : Answer) = .next t) : P 0 t := answer (h.onCommand hp hg) he

/-- A frame arrives at Port U: with room in both queues, or in the bypass with room for it to cross (R22, R34). -/
theorem exec_arrivalU {s t : State} {f} (hp : P 0 s) (hx : Crossing (P 0) (.frameArrivesPortU f) s)
    (he : exec (.frameArrivesPortU f) s = .next t) : P 0 t := by
  simp only [exec, execFrameArrivesPortU, State.bypassU] at he
  split at he
  · exact answer hp he
  · split at he
    · exact answer hp he
    split at he
    · rename_i hr
      exact answer (hx.down f rfl hr) he
    · exact answer hp he
  · rename_i hn
    split at he
    · rename_i hc
      have hr : s.link.down.length < 16 ∧ s.desk.commands.length < 8 := by
        have hc := hc.1
        simp only [State.creditU, hn, Config.transitRoom, Config.commandRoom] at hc
        omega
      exact answer (h.dispatchU hp (hx.down f rfl hr.1) (hx.command f rfl hr.2)) he
    · exact answer (h.countDiscard hp) he

/-- A frame arrives at Port S with room in the upstream queue (R22, R34). -/
theorem exec_arrivalS {s t : State} {f} (hp : P 0 s) (hx : Crossing (P 0) (.frameArrivesPortS f) s)
    (he : exec (.frameArrivesPortS f) s = .next t) : P 0 t := by
  simp only [exec, execFrameArrivesPortS, State.bypassS] at he
  split at he
  · exact answer hp he
  · split at he
    · exact answer hp he
    split at he
    · rename_i hr
      exact answer (hx.up f s rfl hr rfl hp) he
    · exact answer hp he
  · rename_i hn
    split at he
    · rename_i hc
      have hr : s.link.up.length < 16 := by
        have hc := hc.1
        simp only [State.creditS, hn, Config.transitRoom] at hc
        omega
      exact answer (h.settle (h.dispatchS hp fun u hu hl => hx.up f u rfl hr hl hu)) he
    · exact answer (h.countDiscard hp) he

/-- A frame leaves Port S (R30). -/
theorem exec_departureS {s t : State} (hp : P 0 s) (hx : Crossing (P 0) (.frameLeavesPort .s) s)
    (he : exec (.frameLeavesPort .s) s = .next t) : P 0 t := by
  simp only [exec, execFrameLeavesPort] at he
  split at he
  · exact answer hp he
  · exact answer (u := s.leaveDown) (h.other (hx.downLeaves rfl) (by simp [State.leaveDown])) he
  · refine answer (u := s.leaveSOwn) ?_ he
    unfold State.leaveSOwn
    split
    · exact hp
    · rename_i f rest ho
      have h1 : P 0 { s with link.sOwn := rest, link.portS := s.link.portS.departed } := h.other (hx.ownLeaves rfl f rest ho)
      exact h.other (h.startTied (f := f) h1)

/-- A frame leaves Port U (R30, R182). -/
theorem exec_departureU {s t : State} (hp : P 0 s) (hx : Crossing (P 0) (.frameLeavesPort .u) s)
    (he : exec (.frameLeavesPort .u) s = .next t) : P 0 t := by
  simp only [exec, execFrameLeavesPort] at he
  split at he
  · exact answer hp he
  · exact answer (u := s.leaveUp) (h.other (hx.upLeaves rfl) (by simp [State.leaveUp])) he
  · exact answer (h.noticeLeaves hp) he

/-- No command takes the property away. -/
theorem exec_next {c : Instr} {s t : State} (hp : P 0 s) (hx : Crossing (P 0) c s) (he : exec c s = .next t) : P 0 t := by
  cases c with
  | coldReset => exact answer (hx.reset rfl) he
  | rstnRelease =>
    simp only [exec, execRstnRelease] at he
    split at he
    · exact answer (h.released hp) he
    all_goals exact answer hp he
  | bypassEnd =>
    simp only [exec, execBypassEnd] at he
    split at he
    · split at he
      · exact answer (hx.started rfl) he
      · exact answer hp he
    all_goals exact answer hp he
  | frameArrivesPortU f => exact h.exec_arrivalU hp hx he
  | frameArrivesPortS f => exact h.exec_arrivalS hp hx he
  | creditAnnouncement port n =>
    simp only [exec, execCreditAnnouncement] at he
    split at he
    · exact answer hp he
    all_goals split at he <;> exact answer (h.other hp) he
  | frameLeavesPort port =>
    cases port with
    | u => exact h.exec_departureU hp hx he
    | s => exact h.exec_departureS hp hx he
  | sOwnOfferEnters =>
    simp only [exec, execSOwnOfferEnters] at he
    split at he
    · exact answer hp he
    · rename_i ho
      split at he
      · exact answer (h.offerEnters hp ho ‹_›) he
      · exact answer hp he
  | holdRecordLapse n =>
    simp only [exec, execHoldRecordLapse] at he
    split at he
    · split at he
      · exact answer (h.lapse hp) he
      · exact answer hp he
    · exact answer hp he
  | flushOffer l => exact answer (h.flushOn hp) he
  | auditTimerExpiry n =>
    simp only [exec, execAuditTimerExpiry] at he
    split at he
    · exact answer (h.other hp) he
    · exact answer hp he
  | tapConfirmTimerExpiry b =>
    simp only [exec, execTapConfirmTimerExpiry] at he
    split at he
    · split at he
      · exact answer (h.noMake hp) he
      · exact answer hp he
    · exact answer hp he
  | releaseConfirmTimerExpiry b =>
    simp only [exec, execReleaseConfirmTimerExpiry] at he
    split at he
    · split at he
      · exact answer (h.settle (h.timeOutRelease hp)) he
      · exact answer hp he
    · exact answer hp he
  | restartReleaseTimeout b =>
    simp only [exec, execRestartReleaseTimeout] at he
    split at he
    · split at he
      · exact answer (h.stickRelay hp) he
      · exact answer hp he
    · exact answer hp he
  | strayReleaseTimerExpiry b =>
    simp only [exec, execStrayReleaseTimerExpiry] at he
    split at he
    · split at he
      · exact answer (h.strayTimeout hp) he
      · exact answer hp he
    · exact answer hp he
  | lockoutEnd b =>
    simp only [exec, execLockoutEnd] at he
    split at he
    · split at he
      · exact answer (h.settle (h.wantAttempt (h.setBus hp))) he
      · exact answer hp he
    · exact answer hp he
  | intervalTimerExpiry =>
    simp only [exec, execIntervalTimerExpiry] at he
    split at he
    · split at he
      · exact answer (h.runPass hp) he
      · exact answer (h.sweepOnly (w := { s.sweep with timer := none, startWaits := true }) hp) he
      all_goals exact answer hp he
    · exact answer hp he
  | headTimerExpiry n =>
    simp only [exec, execHeadTimerExpiry] at he
    split at he
    · exact answer (h.settle (h.headSilent hp)) he
    · exact answer hp he
  | flapUnitBoundary =>
    simp only [exec, execFlapUnitBoundary] at he
    split at he
    · exact answer hp he
    all_goals
      split at he
      · exact answer (u := s.flapBoundary) (h.frame hp rfl) he
      · exact answer hp he
  | minuteCounterAdvance =>
    simp only [exec, execMinuteCounterAdvance] at he
    split at he
    · exact answer hp he
    all_goals
      split at he
      · exact answer (u := s.nextMinuteComes) (h.frame hp rfl) he
      · exact answer hp he
  | hourTick =>
    simp only [exec, execHourTick] at he
    split at he
    · exact answer (h.tickHour (s := { s with hourDue := false }) (h.other hp)) he
    · exact answer hp he
  | unknownCommand => exact h.desk hp (h.respond ·) he
  | loadLines => exact h.desk hp h.doLoadLines he
  | lineRead => exact h.desk hp h.doLineRead he
  | inhibit => exact h.desk hp h.doInhibit he
  | clearHazard => exact h.desk hp h.doClearHazard he
  | loadBusmap => exact h.desk hp h.doLoadBusmap he
  | clearStuck => exact h.desk hp h.doClearStuck he
  | loadStep => exact h.desk hp h.doLoadStep he
  | loadPlan => exact h.desk hp h.doLoadPlan he
  | test => exact h.desk hp h.doTest he
  | abort => exact h.desk hp h.doAbort he
  | returnHead => exact h.desk hp h.doReturnHead he
  | loadProfile => exact h.desk hp h.doLoadProfile he
  | calibrate => exact h.desk hp h.doCalibrate he
  | setCalCoef => exact h.desk hp h.doSetCalCoef he
  | sweepLoad => exact h.desk hp h.doSweepLoad he
  | sweepStart => exact h.desk hp h.doSweepStart he
  | sweepStop => exact h.desk hp h.doSweepStop he
  | sweepPause => exact h.desk hp h.doSweepPause he
  | sweepResume => exact h.desk hp h.doSweepResume he
  | sweepMark => exact h.desk hp h.doSweepMark he
  | suspect => exact h.desk hp h.doSuspect he
  | ticketRead => exact h.desk hp h.doTicketRead he
  | ticketAck => exact h.desk hp h.doTicketAck he
  | ticketClose => exact h.desk hp h.doTicketClose he
  | ticketNote => exact h.desk hp h.doTicketNote he
  | setParam => exact h.desk hp h.doSetParam he
  | status => exact h.desk hp (h.respond ·) he
  | restart => exact h.desk hp h.doRestart he
  | receptionBrokenOff port =>
    simp only [exec, execReceptionBrokenOff] at he
    split at he <;> exact answer (h.other hp) he

/-- No step takes the property away: neither a command nor the part's own waiting. -/
theorem step_next {s t : State} (hp : P 0 s)
    (hx : ∀ c rest, s.pending = c :: rest → Crossing (P 0) c { s with pending := rest })
    (he : Machine.step s = .next t) : P 0 t := by
  unfold Machine.step at he
  split at he
  · exact h.exec_next (h.other hp) (hx _ _ ‹_›) he
  · refine answer (u := s.idle) ?_ he
    unfold State.idle
    split
    · unfold State.passTime
      split <;> exact h.other hp
    all_goals exact h.other hp

end Steady
end Sys2Proof.Machine


namespace Sys2Proof.Machine

/-! ## O38: the queues stay within their rooms (R27, R29, R41, R149, R156, R157, R170, R178, R181) -/

/-! ### Queues and collections -/

theorem State.removeTicket_length {s : State} {t : Ticket} (ht : t ∈ s.tickets.entries) :
    (s.removeTicket t).tickets.entries.length < s.tickets.entries.length := by
  rw [State.removeTicket_tickets]
  exact List.length_filter_lt_length_iff_exists.2 ⟨t, ht, by simp⟩

/-- A raise creates an entry where there is room for it, or has made room (R170). -/
theorem State.raise_room {s : State} (h : s.tickets.entries.length ≤ 256) (k n c e) :
    (s.raise k n c e).tickets.entries.length ≤ 256 := by
  obtain ⟨t, -, u, ev, -, -, -, -, he⟩ | ⟨-, ⟨hr, he⟩ | ⟨t, ht, he⟩⟩ | he := s.raise_cases k n c e
  · rw [he]; simpa [State.ticketNotice, State.putTicket] using h
  · rw [he]; simpa using hr
  · have := State.removeTicket_length ht
    rw [he, State.createTicket_tickets]
    simp only [State.ticketNotice, State.notify_keeps, List.length_append, List.length_singleton]
    omega
  · rw [he]
    dsimp only [State.loseRaise]
    split <;> simpa using h

/-- What is left of a queue without its head keeps its room. -/
theorem length_le_of_eq_cons {α : Type} {L rest : List α} {x : α} {n : Nat} (h : L = x :: rest) (hl : L.length ≤ n) :
    rest.length ≤ n := by
  rw [h] at hl; exact Nat.le_of_succ_le hl

/-- The queues and collections but for the own frames and the tickets. -/
abbrev State.collections (s : State) := (s.desk.commands, s.link.down, s.link.up, s.hold, s.sweep)

theorem State.WithinRooms.congr {s t : State} (hs : s.WithinRooms) (ho : t.link.sOwn.length ≤ 16)
    (ht : t.tickets.entries.length ≤ 256) (h : t.collections = s.collections := by simp) : t.WithinRooms := by
  simp only [Prod.mk.injEq] at h
  obtain ⟨hcommands, hdown, hup, hhold, hsweep⟩ := h
  exact ⟨hdown ▸ hs.down, hup ▸ hs.up, ho, hcommands ▸ hs.commands, hhold ▸ hs.hold, hsweep ▸ hs.revisits,
    hsweep ▸ hs.suspects, hsweep ▸ hs.ranges, hsweep ▸ hs.latchedRanges, ht⟩

/-- Neither the own frames nor the tickets are seen. -/
theorem State.WithinRooms.keep {s t : State} (hs : s.WithinRooms) (ho : t.link.sOwn = s.link.sOwn := by simp)
    (ht : t.tickets.entries = s.tickets.entries := by simp) (h : t.collections = s.collections := by simp) : t.WithinRooms :=
  hs.congr (ho ▸ hs.sOwn) (ht ▸ hs.tickets) h

theorem steady_withinRooms : Steady fun _ => State.WithinRooms where
  frame hs h := by
    simp only [Prod.mk.injEq] at h
    obtain ⟨-, -, -, hcommands, hdown, hup, hown, -, hhold, hsweep, htickets⟩ := h
    exact hs.keep hown (by rw [htickets]) (by simp only [State.collections, hcommands, hdown, hup, hhold, hsweep])
  fewer hs _ := hs
  chan hs _ := hs.keep
  notify hs := hs.keep
  respond hs := hs.keep
  taking hs _ hq := { hs with commands := length_le_of_eq_cons hq hs.commands }
  offer hs := hs.congr (State.offer_room _ _ _ hs.sOwn) (by simpa using hs.tickets)
  enters hs _ hr := hs.congr (by simpa using hr) (by simpa using hs.tickets)
  hold hs h := { hs with hold := h hs.hold }
  sweep hs h := by
    obtain ⟨h1, h2, h3, h4⟩ := h ⟨hs.revisits, hs.suspects, hs.ranges, hs.latchedRanges⟩
    exact { hs with revisits := h1, suspects := h2, ranges := h3, latchedRanges := h4 }
  raise hs := hs.congr (by simpa using hs.sOwn) (State.raise_room hs.tickets _ _ _ _)
  put hs := { hs with tickets := by simpa [State.putTicket] using hs.tickets }
  remove hs := hs.congr (by simpa using hs.sOwn) (by
    rw [State.removeTicket_tickets]; exact (List.length_filter_le ..).trans hs.tickets)
  noticeLeaves hs := hs.keep
  noticesDropped hs := hs.keep
  released hs := { hs with tickets := Nat.zero_le _ }

theorem crossing_withinRooms {s : State} (hs : s.WithinRooms) (c : Instr) : Crossing State.WithinRooms c s where
  reset _ := by constructor <;> exact Nat.zero_le _
  started _ := hs.keep (by simp [State.started]) (by simp [State.started]) (by simp [State.started])
  down f _ hr := by
    constructor <;> simp
    exacts [hr, hs.up, hs.sOwn, hs.commands, hs.hold, hs.revisits, hs.suspects, hs.ranges, hs.latchedRanges, hs.tickets]
  command f _ hr := { hs with commands := by simpa [State.enterCommand] using hr }
  up f u _ hr hu hs := by
    constructor <;> simp
    exacts [hs.down, hu ▸ hr, hs.sOwn, hs.commands, hs.hold, hs.revisits, hs.suspects, hs.ranges, hs.latchedRanges, hs.tickets]
  downLeaves _ := { hs with down := List.tail_sublist _ |>.length_le.trans hs.down }
  ownLeaves _ f rest ho := { hs with sOwn := length_le_of_eq_cons ho hs.sOwn }
  upLeaves _ := { hs with up := List.tail_sublist _ |>.length_le.trans hs.up }

/-! ### The notice queue and its reservations -/

/-- STARTED, which enters unasked, needs room of its own (R186). -/
theorem State.NoticesHeld.started {k s} (hp : State.NoticesHeld k s) (hr : s.desk.notices.length + s.desk.reservations < 64)
    (hu : s.desk.notices.countP (fun n => n.kind != .response) < 56) : State.NoticesHeld k s.started :=
  State.NoticesHeld.place _ (hp.congr rfl rfl rfl) hr fun _ => hu

/-- A notice that leaves makes room, which LOST may take if the notice was unsolicited (R182). -/
theorem State.NoticesHeld.leaveNotice {k s} (hp : State.NoticesHeld k s) : State.NoticesHeld k s.leaveNotice := by
  unfold State.leaveNotice
  split
  · exact hp
  rename_i n rest hn
  obtain ⟨hchans, hunsol, hroom, hres⟩ := hp
  rw [hn, List.countP_cons] at hunsol
  rw [hn, List.length_cons] at hroom
  have hleft : State.NoticesHeld k { s with desk.notices := rest, link.portU := s.link.portU.departed } :=
    ⟨hchans, by show rest.countP _ ≤ 56; omega, by show rest.length + s.desk.reservations ≤ 64; omega, hres⟩
  split
  · rename_i hlost
    have hn1 : (n.kind != .response) = true := hlost.1
    rw [if_pos hn1] at hunsol
    have hplaced := hleft.place (lostNotice s.desk.lost) (by show rest.length + s.desk.reservations < 64; omega)
      fun _ => by show rest.countP (fun n => n.kind != .response) < 56; omega
    exact hplaced.congr (by simp) (by simp) (by simp)
  · exact hleft.congr (by simp) (by simp) (by simp)

/-- A restart drops notices at most (R183). -/
theorem keptNotices_sublist (b : Bool) (ns : List Notice) : (keptNotices b ns).Sublist ns := by
  cases ns with
  | nil => exact .slnil
  | cons n rest =>
    dsimp only [keptNotices]
    split
    · exact List.filter_sublist.cons_cons n
    · exact List.filter_sublist.cons n

theorem State.NoticesHeld.restartNotices {k s} (hp : State.NoticesHeld k s) : State.NoticesHeld k s.restartNotices := by
  have hs := keptNotices_sublist (s.link.portU.sending == some .own) s.desk.notices
  exact ⟨hp.chans, hs.countP_le.trans hp.unsolicited, (Nat.add_le_add_right hs.length_le _).trans hp.room, hp.reserved⟩

/-- With no channel listed no response is owed. -/
theorem State.NoticesHeld.released {k s} (hp : State.NoticesHeld k s) : State.NoticesHeld k s.released :=
  ⟨rfl, hp.unsolicited, hp.room, by
    have : 0 + k ≤ s.desk.reservations := by have := hp.reserved; omega
    exact this⟩

theorem steady_noticesHeld : Steady State.NoticesHeld where
  frame hp h := by
    simp only [Prod.mk.injEq] at h
    obtain ⟨hchans, hnotices, hreserved, -⟩ := h
    exact hp.congr hchans hnotices hreserved
  fewer hp h := hp.le h
  chan hp h := hp.set _ _ h
  notify hp := hp.notify _ _
  respond hp := hp.respond _ _ _
  taking hp hr _ := hp.taking _ hr
  offer hp := hp.offer _ _
  enters hp _ _ := hp.congr (by simp) (by simp) (by simp)
  hold hp _ := hp.congr rfl rfl rfl
  sweep hp _ := hp.congr rfl rfl rfl
  raise hp := hp.raise _ _ _ _
  put hp := hp.congr rfl rfl rfl
  remove hp := hp.congr (by simp) (by simp) (by simp)
  noticeLeaves hp := hp.leaveNotice
  noticesDropped hp := hp.restartNotices
  released hp := hp.released

theorem crossing_noticesHeld {s : State} (hp : s.NoticesWithinRoom) {c : Instr}
    (hc : c = .bypassEnd → s.desk.notices.length + s.desk.reservations < 64 ∧
      s.desk.notices.countP (fun n => n.kind != .response) < 56) : Crossing State.NoticesWithinRoom c s where
  reset _ := reset_noticesWithinRoom.congr rfl rfl rfl
  started h := hp.started (hc h).1 (hc h).2
  down _ _ _ := hp.congr (by simp) (by simp) (by simp)
  command _ _ _ := hp.congr rfl rfl rfl
  up _ _ _ _ _ hu := hu.congr (by simp) (by simp) (by simp)
  downLeaves _ := hp.congr rfl rfl rfl
  ownLeaves _ _ _ _ := hp.congr rfl rfl rfl
  upLeaves _ := hp.congr rfl rfl rfl

/-- Settles O38: every write of an act keeps the rooms, and the notice queue with its reservations. -/
theorem stepsKeepQueuesWithinRooms : Obligations.StepsKeepQueuesWithinRooms := by
  refine ⟨fun s t hs he => ?_, fun s t hp hc he => ?_⟩
  · exact steady_withinRooms.step_next hs
      (fun c rest _ => crossing_withinRooms (s := { s with pending := rest }) { hs with } c) he
  · exact steady_noticesHeld.step_next hp
      (fun c rest hq => crossing_noticesHeld (s := { s with pending := rest }) (hp.congr rfl rfl rfl)
        fun hb => hc rest (hb ▸ hq)) he

end Sys2Proof.Machine


namespace Sys2Proof.Machine

/-! ## O45: transit frames pass in order (R27, R30) -/

/-- The two transit queues stand at one of these. -/
def State.TransitAmong (downs ups : List (List Bytes)) (s : State) : Prop := s.link.down ∈ downs ∧ s.link.up ∈ ups

theorem State.TransitAmong.congr {downs ups} {s t : State} (hs : s.TransitAmong downs ups)
    (hd : t.link.down = s.link.down := by simp) (hu : t.link.up = s.link.up := by simp) : t.TransitAmong downs ups :=
  ⟨hd ▸ hs.1, hu ▸ hs.2⟩

/-- But for arrivals and departures no act touches a transit queue. -/
theorem steady_transitAmong (downs ups : List (List Bytes)) : Steady fun _ => State.TransitAmong downs ups where
  frame hs h := by
    simp only [Prod.mk.injEq] at h
    obtain ⟨-, -, -, -, hdown, hup, -⟩ := h
    exact hs.congr hdown hup
  fewer hs _ := hs
  chan hs _ := hs.congr
  notify hs := hs.congr
  respond hs := hs.congr
  taking hs _ _ := hs.congr
  offer hs := hs.congr
  enters hs _ _ := hs.congr
  hold hs _ := hs.congr
  sweep hs _ := hs.congr
  raise hs := hs.congr
  put hs := hs.congr
  remove hs := hs.congr
  noticeLeaves hs := hs.congr
  noticesDropped hs := hs.congr
  released hs := hs

/-- What a command may make of the downstream transit queue. -/
def downAfter (c : Instr) (down : List Bytes) : List (List Bytes) :=
  match c with
  | .frameArrivesPortU f => [down, down ++ [f]]
  | .frameLeavesPort .s => [down, down.tail]
  | _ => [down]

/-- What a command may make of the upstream transit queue. -/
def upAfter (c : Instr) (up : List Bytes) : List (List Bytes) :=
  match c with
  | .frameArrivesPortS f => [up, up ++ [f]]
  | .frameLeavesPort .u => [up, up.tail]
  | _ => [up]

theorem mem_downAfter_self (c : Instr) (L : List Bytes) : L ∈ downAfter c L := by
  unfold downAfter; split <;> simp

theorem mem_upAfter_self (c : Instr) (L : List Bytes) : L ∈ upAfter c L := by
  unfold upAfter; split <;> simp

theorem mem_downAfter {c : Instr} {L M : List Bytes} (h : M ∈ downAfter c L) :
    M = L ∨ (∃ f, c = .frameArrivesPortU f ∧ M = L ++ [f]) ∨ (c = .frameLeavesPort .s ∧ M = L.tail) := by
  unfold downAfter at h
  split at h <;> simp at h
  · exact h.imp_right fun h => .inl ⟨_, rfl, h⟩
  · exact h.imp_right fun h => .inr ⟨rfl, h⟩
  · exact .inl h

theorem mem_upAfter {c : Instr} {L M : List Bytes} (h : M ∈ upAfter c L) :
    M = L ∨ (∃ f, c = .frameArrivesPortS f ∧ M = L ++ [f]) ∨ (c = .frameLeavesPort .u ∧ M = L.tail) := by
  unfold upAfter at h
  split at h <;> simp at h
  · exact h.imp_right fun h => .inl ⟨_, rfl, h⟩
  · exact h.imp_right fun h => .inr ⟨rfl, h⟩
  · exact .inl h

/-- Arrivals join a tail, departures take a head. -/
theorem crossing_transit {c : Instr} (hc : c ≠ .coldReset) (s : State) :
    Crossing (State.TransitAmong (downAfter c s.link.down) (upAfter c s.link.up)) c s where
  reset h := absurd h hc
  started _ := State.TransitAmong.congr (s := s) ⟨mem_downAfter_self c _, mem_upAfter_self c _⟩
    (by simp [State.started]) (by simp [State.started])
  down f h _ := by subst h; exact ⟨by simp [downAfter], by simp [upAfter]⟩
  command f _ _ := ⟨mem_downAfter_self c _, mem_upAfter_self c _⟩
  up f u h _ hl hu := by
    subst h
    exact ⟨by simpa using hu.1, by simp [upAfter, hl]⟩
  downLeaves h := by subst h; exact ⟨by simp [downAfter], by simp [upAfter]⟩
  ownLeaves _ _ _ _ := ⟨mem_downAfter_self c _, mem_upAfter_self c _⟩
  upLeaves h := by subst h; exact ⟨by simp [downAfter], by simp [upAfter]⟩

/-- Settles O45: the writes of an act do not see the transit queues; what crosses them is the arrival or the departure itself. -/
theorem transitFramesPassInOrder : Obligations.TransitFramesPassInOrder := by
  intro c s t hc he
  have ht : t.TransitAmong (downAfter c s.link.down) (upAfter c s.link.up) :=
    (steady_transitAmong _ _).exec_next ⟨mem_downAfter_self c _, mem_upAfter_self c _⟩ (crossing_transit hc s) he
  exact ⟨mem_downAfter ht.1, mem_upAfter ht.2⟩

/-! ## O46: a frame offered toward Port S is never withdrawn (R29, R30) -/

/-- The frames that wait for Port S are these, and new ones behind them. -/
def State.OwnFramesFrom (L : List OwnFrame) (s : State) : Prop := ∃ new, s.ownFrames = L ++ new

theorem State.OwnFramesFrom.congr {L} {s t : State} (hs : s.OwnFramesFrom L)
    (h : t.ownFrames = s.ownFrames := by simp [State.ownFrames]) : t.OwnFramesFrom L := by
  obtain ⟨new, hnew⟩ := hs
  exact ⟨new, h.trans hnew⟩

/-- An offer joins behind all that wait. -/
theorem State.OwnFramesFrom.offer {L} {s : State} (hs : s.OwnFramesFrom L) (b : Bytes) (t : Tie) :
    (s.offer b t).OwnFramesFrom L := by
  obtain ⟨new, hnew⟩ := hs
  refine ⟨new ++ [⟨b, s.link.serial, t⟩], ?_⟩
  rw [← List.append_assoc, ← hnew]
  exact (s.offer_own b t).1

theorem steady_ownFramesFrom (L : List OwnFrame) : Steady fun _ => State.OwnFramesFrom L where
  frame hs h := by
    simp only [Prod.mk.injEq] at h
    obtain ⟨-, -, -, -, -, -, hown, hoffers, -⟩ := h
    exact hs.congr (by rw [State.ownFrames, hown, hoffers]; rfl)
  fewer hs _ := hs
  chan hs _ := hs.congr
  notify hs := hs.congr
  respond hs := hs.congr
  taking hs _ _ := hs.congr
  offer hs := hs.offer _ _
  enters hs ho _ := hs.congr (by simp [State.ownFrames, ho])
  hold hs _ := hs.congr
  sweep hs _ := hs.congr
  raise hs := hs.congr
  put hs := hs.congr rfl
  remove hs := hs.congr
  noticeLeaves hs := hs.congr
  noticesDropped hs := hs.congr
  released hs := hs

theorem crossing_ownFrames {c : Instr} {s : State} {L} (hs : s.OwnFramesFrom L) (hc : c ≠ .coldReset)
    (hl : c ≠ .frameLeavesPort .s) : Crossing (State.OwnFramesFrom L) c s where
  reset h := absurd h hc
  started _ := hs.congr (by simp [State.started, State.ownFrames])
  down f _ _ := hs.congr
  command f _ _ := hs.congr rfl
  up f u _ _ _ hu := hu.congr
  downLeaves h := absurd h hl
  ownLeaves h := absurd h hl
  upLeaves _ := hs.congr rfl

/-- A departure from Port S takes the head of the own frames, or a transit frame, or nothing. -/
theorem exec_frameLeavesPort_ownFrames {s t : State} (he : exec (.frameLeavesPort .s) s = .next t) :
    t.ownFrames = s.ownFrames ∨ t.ownFrames = s.ownFrames.tail := by
  simp only [exec, execFrameLeavesPort] at he
  split at he <;> cases he
  · exact .inl rfl
  · exact .inl (by simp [State.ownFrames, State.leaveDown])
  · unfold State.leaveSOwn
    split
    · exact .inl rfl
    · rename_i ho
      exact .inr (by simp [State.ownFrames, ho])

/-- Settles O46: the writes of an act join frames behind those that wait; only a departure from Port S takes one. -/
theorem ownFramesAreNotWithdrawn : Obligations.OwnFramesAreNotWithdrawn := by
  intro c s t hc he
  by_cases hl : c = .frameLeavesPort .s
  · subst hl
    exact (exec_frameLeavesPort_ownFrames he).imp (fun h => ⟨[], by rw [h, List.append_nil]⟩) fun h => ⟨rfl, h⟩
  · have hs : s.OwnFramesFrom s.ownFrames := ⟨[], (List.append_nil _).symm⟩
    exact .inl ((steady_ownFramesFrom _).exec_next hs (crossing_ownFrames hs hc hl) he)

end Sys2Proof.Machine


namespace Sys2Proof.Machine

/-! ## The ports at work (R21, R23, R30 to R32) -/

theorem State.fillU_running {s : State} (h : s.phase ≠ .held) : s.fillU = { s with
    link.portU := s.link.portU.giveSlot (!s.desk.notices.isEmpty) (!s.link.up.isEmpty) false } :=
  if_neg h

/-- While RSTN is low nothing is sent. -/
theorem State.fillS_held {s : State} (h : s.phase = .held) : s.fillS = s := if_pos h

theorem State.fillU_held {s : State} (h : s.phase = .held) : s.fillU = s := if_pos h

theorem State.enterDown_running {s : State} (h : s.phase ≠ .held) (f : Bytes) : s.enterDown f = { s with
    link.down := s.link.down ++ [f]
    link.portS := s.link.portS.giveSlot (!s.link.sOwn.isEmpty) true (heldBack (s.link.down ++ [f]) s.link.sOwn) } := by
  have hwaits : (!(s.link.down ++ [f]).isEmpty) = true := by simp
  rw [State.enterDown, State.fillS_running (by exact h), hwaits]

theorem State.enterUp_running {s : State} (h : s.phase ≠ .held) (f : Bytes) : s.enterUp f = { s with
    link.up := s.link.up ++ [f]
    link.portU := s.link.portU.giveSlot (!s.desk.notices.isEmpty) true false } := by
  have hwaits : (!(s.link.up ++ [f]).isEmpty) = true := by simp
  rw [State.enterUp, State.fillU_running (by exact h), hwaits]

theorem State.placeNotice_running {s : State} (h : s.phase ≠ .held) (n : Notice) : s.placeNotice n = { s with
    desk.notices := s.desk.notices ++ [n]
    link.portU := s.link.portU.giveSlot true (!s.link.up.isEmpty) false } := by
  have hwaits : (!(s.desk.notices ++ [n]).isEmpty) = true := by simp
  rw [State.placeNotice, State.fillU_running (by exact h), hwaits]

theorem State.countDiscard_u (s : State) :
    s.countDiscard .u = { s with link.portU.discards := min 65535 (s.link.portU.discards + 1) } := rfl

theorem State.countDiscard_s (s : State) :
    s.countDiscard .s = { s with link.portS.discards := min 65535 (s.link.portS.discards + 1) } := rfl

/-! ## Arrivals: credit, form and check (R20 to R22, R34) -/

theorem passesForm_iff (f : Bytes) : passesForm f = true ↔
    f.length = byteAt f 3 + 6 ∧ byteAt f 3 ≤ 250 ∧ crc (f.take (4 + byteAt f 3)) = wordAt f (4 + byteAt f 3) := by
  rw [passesForm, formOk, checkOk, Bool.and_eq_true, Bool.and_eq_true, beq_iff_eq, beq_iff_eq, decide_eq_true_iff, and_assoc]
  rfl

section Credit

variable {s : State} (hn : s.phase = .normal)
include hn

theorem State.creditU_pos_iff : 0 < s.creditU ↔ s.link.down.length < 16 ∧ s.desk.commands.length < 8 := by
  simp [State.creditU, hn, Config.transitRoom, Config.commandRoom]

theorem State.creditS_pos_iff : 0 < s.creditS ↔ s.link.up.length < 16 := by
  simp [State.creditS, hn, Config.transitRoom]

theorem exec_frameArrivesPortU_sound {f : Bytes} (hc : 0 < s.creditU) (hf : passesForm f = true) :
    exec (.frameArrivesPortU f) s = .next (s.dispatchU f) := by
  simp only [exec, execFrameArrivesPortU, hn, hc, hf, and_self, if_true]

theorem exec_frameArrivesPortU_discarded {f : Bytes} (h : ¬ (0 < s.creditU ∧ passesForm f = true)) :
    exec (.frameArrivesPortU f) s = .next (s.countDiscard .u) := by
  simp only [exec, execFrameArrivesPortU, hn, h, if_false]

theorem exec_frameArrivesPortS_discarded {f : Bytes} (h : ¬ (0 < s.creditS ∧ passesForm f = true)) :
    exec (.frameArrivesPortS f) s = .next (s.countDiscard .s) := by
  simp only [exec, execFrameArrivesPortS, hn, h, if_false]

theorem exec_receptionBrokenOff_normal (p : PortId) : exec (.receptionBrokenOff p) s = .next (s.countDiscard p) := by
  simp only [exec, execReceptionBrokenOff, hn]

end Credit

/-- A reception broken off before normal passage is not counted. -/
theorem exec_receptionBrokenOff_early {s : State} (h : s.phase ≠ .normal) (p : PortId) :
    exec (.receptionBrokenOff p) s = .next s := by
  cases hp : s.phase with
  | held | bypass => simp only [exec, execReceptionBrokenOff, hp]
  | normal => exact absurd hp h

section Held

variable {s : State} (h : s.phase = .held)
include h

theorem exec_frameArrivesPortU_held (f : Bytes) : exec (.frameArrivesPortU f) s = .next s := by
  simp only [exec, execFrameArrivesPortU, h]

theorem exec_frameArrivesPortS_held (f : Bytes) : exec (.frameArrivesPortS f) s = .next s := by
  simp only [exec, execFrameArrivesPortS, h]

end Held

section Bypass

variable {s : State} {till : Time} (h : s.phase = .bypass till) {f : Bytes}
include h

theorem exec_frameArrivesPortU_bypass : exec (.frameArrivesPortU f) s = .next (s.bypassU f) := by
  simp only [exec, execFrameArrivesPortU, h]

theorem exec_frameArrivesPortS_bypass : exec (.frameArrivesPortS f) s = .next (s.bypassS f) := by
  simp only [exec, execFrameArrivesPortS, h]

end Bypass

/-- A frame crosses unread when it is too short to name its node or names another. -/
theorem not_bypass_ends {f : Bytes} (h : f.length < 2 ∨ byteAt f 1 ≠ 30) : ¬ (2 ≤ f.length ∧ toPart f = true) := by
  rw [toPart_iff]; omega

section BypassCrossing

variable {s : State} {f : Bytes}

theorem State.bypass_ends (hl : 2 ≤ f.length) (hd : byteAt f 1 = 30) : s.bypassU f = s ∧ s.bypassS f = s :=
  ⟨if_pos ⟨hl, (toPart_iff f).2 hd⟩, if_pos ⟨hl, (toPart_iff f).2 hd⟩⟩

theorem State.bypassU_crosses (hf : f.length < 2 ∨ byteAt f 1 ≠ 30) (hr : s.link.down.length < 16) :
    s.bypassU f = s.enterDown f := by
  rw [State.bypassU, if_neg (not_bypass_ends hf), if_pos (by exact hr)]

theorem State.bypassS_crosses (hf : f.length < 2 ∨ byteAt f 1 ≠ 30) (hr : s.link.up.length < 16) :
    s.bypassS f = s.enterUp f := by
  rw [State.bypassS, if_neg (not_bypass_ends hf), if_pos (by exact hr)]

end BypassCrossing

/-- Settles O6: the guards of an arrival in normal passage, then the other two phases. -/
theorem framesDiscardedOrPassedUnread : Obligations.FramesDiscardedOrPassedUnread := by
  refine ⟨⟨fun f s hn hf => ?_, fun f s hn hf => ?_, fun s hn => ⟨exec_receptionBrokenOff_normal hn .u,
      exec_receptionBrokenOff_normal hn .s⟩, fun s p h => exec_receptionBrokenOff_early h p⟩,
    fun f s => ⟨fun h => ⟨exec_frameArrivesPortU_held h f, exec_frameArrivesPortS_held h f⟩,
      fun till h hl hd => ?_, fun till h hf hr => ?_, fun till h hf hr => ?_⟩⟩
  · refine exec_frameArrivesPortU_discarded hn fun ⟨hc, hp⟩ => ?_
    obtain ⟨hlen, hmax, hcrc⟩ := (passesForm_iff f).1 hp
    obtain ⟨hdown, hdesk⟩ := (State.creditU_pos_iff hn).1 hc
    omega
  · refine exec_frameArrivesPortS_discarded hn fun ⟨hc, hp⟩ => ?_
    obtain ⟨hlen, hmax, hcrc⟩ := (passesForm_iff f).1 hp
    have hup := (State.creditS_pos_iff hn).1 hc
    omega
  · obtain ⟨hu, hs⟩ := State.bypass_ends (s := s) hl hd
    rw [exec_frameArrivesPortU_bypass h, exec_frameArrivesPortS_bypass h, hu, hs]
    exact ⟨rfl, rfl⟩
  · rw [exec_frameArrivesPortU_bypass h, State.bypassU_crosses hf hr, State.enterDown_running (by simp [h])]
  · rw [exec_frameArrivesPortS_bypass h, State.bypassS_crosses hf hr, State.enterUp_running (by simp [h])]

/-! ## Dispatch at Port U (R24, R25) -/

theorem orderCodeOf_eq_some_iff (n : Nat) (c : OrderCode) : orderCodeOf n = some c ↔
    (n, c) ∈ [(0x01, OrderCode.ringStart), (0x02, .ringStop), (0x03, .feedOn), (0x04, .feedOff), (0x05, .reverse),
      (0x06, .normal), (0x08, .tapConnect), (0x09, .tapRelease), (0x0C, .cardAudit)] := by
  unfold orderCodeOf
  split <;> simp_all [eq_comm]

theorem readOrder_eq_some_iff (f : Bytes) (o : Order) : readOrder f = some o ↔
    byteAt f 0 = 0x10 ∧ byteAt f 3 = 4 ∧ f.length = 10 ∧ wordAt f 4 < 4096 ∧ o.line = wordAt f 4 ∧
      orderCodeOf (byteAt f 6) = some o.code := by
  obtain ⟨l, c⟩ := o
  unfold readOrder
  split
  · next h =>
    have : byteAt f 0 = 0x10 ∧ byteAt f 3 = 4 ∧ f.length = 10 ∧ wordAt f 4 < 4096 := h
    rw [Option.map_eq_some_iff]
    grind
  · next h => exact ⟨nofun, fun ⟨hk, hl, hlen, hw, _⟩ => absurd ⟨hk, hl, hlen, hw⟩ h⟩

theorem isDesk_iff (f : Bytes) : isDesk f = true ↔ byteAt f 0 = 0x30 ∧ 2 ≤ byteAt f 3 := by
  rw [isDesk, Bool.and_eq_true, beq_iff_eq, decide_eq_true_iff]
  rfl

section DispatchU

variable {s : State} {f : Bytes}

theorem State.dispatchU_toPart (hk : byteAt f 0 ∈ [0x10, 0x11, 0x20, 0x21, 0x30, 0x31]) (hd : byteAt f 1 = 30) :
    s.dispatchU f = if isDesk f then s.enterCommand f else s.countDiscard .u := by
  simp [State.dispatchU, (isKnownKind_iff (frameKind f)).2 hk, (toPart_iff f).2 hd]

/-- An ORDER is one of the six kinds, so the kind need not be asked of a frame to another node. -/
theorem State.dispatchU_order {o : Order} (hd : byteAt f 1 ≠ 30) (ho : readOrder f = some o) :
    s.dispatchU f = s.screen f o := by
  have hk : byteAt f 0 = 0x10 := ((readOrder_eq_some_iff f o).1 ho).1
  have hknown : isKnownKind (frameKind f) = true := (isKnownKind_iff _).2 (by simp [frameKind, hk])
  simp [State.dispatchU, hknown, mt (toPart_iff f).1 hd, ho]

theorem State.dispatchU_crosses (h : byteAt f 0 ∉ [0x10, 0x11, 0x20, 0x21, 0x30, 0x31] ∨
    (byteAt f 1 ≠ 30 ∧ readOrder f = none)) : s.dispatchU f = s.enterDown f := by
  by_cases hk : isKnownKind (frameKind f) = true
  · obtain hk' | ⟨hd, ho⟩ := h
    · exact absurd ((isKnownKind_iff _).1 hk) hk'
    · simp [State.dispatchU, hk, mt (toPart_iff f).1 hd, ho]
  · simp [State.dispatchU, hk]

end DispatchU

/-- Settles O7: dispatch branch by branch, then the decoder of ORDER frames field by field. -/
theorem portUDispatch : Obligations.PortUDispatch := by
  refine ⟨fun f s hn hdown hdesk hl hm hc => ?_, fun f o => ?_⟩
  · rw [exec_frameArrivesPortU_sound hn ((State.creditU_pos_iff hn).2 ⟨hdown, hdesk⟩) ((passesForm_iff f).2 ⟨hl, hm, hc⟩)]
    refine ⟨fun hk hd h2 => ?_, fun hk hd h => ?_, fun h => ?_, fun o hd ho => ?_⟩
    · rw [State.dispatchU_toPart (by simp [hk]) hd, if_pos ((isDesk_iff f).2 ⟨hk, h2⟩), State.enterCommand]
    · rw [State.dispatchU_toPart hk hd, if_neg (mt (isDesk_iff f).1 h), State.countDiscard_u]
    · rw [State.dispatchU_crosses h, State.enterDown_normal hn]
    · rw [State.dispatchU_order hd ho]
  · rw [readOrder_eq_some_iff, orderCodeOf_eq_some_iff]

/-! ## Credit and departures (R23, R30) -/

section Running

variable {s : State} (h : s.phase ≠ .held)
include h

theorem exec_creditAnnouncement_u (n : Nat) :
    exec (.creditAnnouncement .u n) s = .next { s with link.portU.credit := n }.fillU := by
  cases hp : s.phase with
  | held => exact absurd hp h
  | bypass | normal => simp only [exec, execCreditAnnouncement, hp]

theorem exec_creditAnnouncement_s (n : Nat) :
    exec (.creditAnnouncement .s n) s = .next { s with link.portS.credit := n }.fillS := by
  cases hp : s.phase with
  | held => exact absurd hp h
  | bypass | normal => simp only [exec, execCreditAnnouncement, hp]

end Running

theorem exec_creditAnnouncement_held {s : State} (h : s.phase = .held) (p : PortId) (n : Nat) :
    exec (.creditAnnouncement p n) s = .next s := by
  simp only [exec, execCreditAnnouncement, h]

section Departures

variable {s : State}

theorem exec_frameLeavesPort_s_transit (h : s.link.portS.sending = some .transit) :
    exec (.frameLeavesPort .s) s = .next s.leaveDown := by
  simp only [exec, execFrameLeavesPort, h]

theorem exec_frameLeavesPort_u_transit (h : s.link.portU.sending = some .transit) :
    exec (.frameLeavesPort .u) s = .next s.leaveUp := by
  simp only [exec, execFrameLeavesPort, h]

/-- A port that sends nothing has nothing to lose. -/
theorem exec_frameLeavesPort_s_idle (h : s.link.portS.sending = none) : exec (.frameLeavesPort .s) s = .next s := by
  simp only [exec, execFrameLeavesPort, h]

theorem exec_frameLeavesPort_u_idle (h : s.link.portU.sending = none) : exec (.frameLeavesPort .u) s = .next s := by
  simp only [exec, execFrameLeavesPort, h]

end Departures

/-- Settles O10. -/
theorem creditAndTransitDepartures : Obligations.CreditAndTransitDepartures := by
  refine ⟨fun n s => ⟨fun h => ⟨exec_creditAnnouncement_held h .u n, exec_creditAnnouncement_held h .s n⟩,
      fun h => ⟨?_, ?_⟩⟩,
    fun s h => ⟨fun hs => ?_, fun hu => ?_, exec_frameLeavesPort_s_idle, exec_frameLeavesPort_u_idle⟩⟩
  · rw [exec_creditAnnouncement_u h, State.fillU_running (by exact h)]
  · rw [exec_creditAnnouncement_s h, State.fillS_running (by exact h)]
  · rw [exec_frameLeavesPort_s_transit hs, State.leaveDown, State.fillS_running (by exact h)]; rfl
  · rw [exec_frameLeavesPort_u_transit hu, State.leaveUp, State.fillU_running (by exact h)]; rfl

/-! ## The reset sequence (R33 to R35) -/

theorem State.started_eq (s : State) : s.started = { s with
    phase := .normal
    link.portS := { s.link.portS with run := 0 }
    link.portU := ({ s.link.portU with run := 0 } : Port).giveSlot true (!s.link.up.isEmpty) false
    desk.notices := s.desk.notices ++ [⟨0, .started, 0, []⟩] } := by
  rw [State.started, State.placeNotice_running (by simp)]
  rfl

section Bypass

variable {s : State} {till : Time} (hp : s.phase = .bypass till)
include hp

theorem exec_bypassEnd_due (h : (s.now - till).toNat < 2 ^ 47) : exec .bypassEnd s = .next s.started := by
  simp only [exec, execBypassEnd, hp, reached_of_lt h, if_true]

theorem exec_bypassEnd_early (h : 2 ^ 47 ≤ (s.now - till).toNat) : exec .bypassEnd s = .next s := by
  simp only [exec, execBypassEnd, hp, not_reached_of_le h, Bool.false_eq_true, if_false]

end Bypass

theorem exec_rstnRelease_held {s : State} (h : s.phase = .held) : exec .rstnRelease s = .next s.released := by
  simp only [exec, execRstnRelease, h]

theorem exec_rstnRelease_running {s : State} (h : s.phase ≠ .held) : exec .rstnRelease s = .next s := by
  cases hp : s.phase with
  | held => exact absurd hp h
  | bypass | normal => simp only [exec, execRstnRelease, hp]

theorem after_zero (ms : Nat) : after 0 ms = BitVec.ofNat 48 ms := BitVec.zero_add _

theorem State.released_eq (s : State) : s.released = { s with
    phase := .bypass 5, now := 0, nextFlap := BitVec.ofNat 48 s.params.flapUnit, nextMinute := 60000
    lines := [], audits := [], chans := [], tickets := ⟨[], 1, 0, true⟩ } := by
  simp only [State.released, after_zero]
  rfl

/-- Settles O5, phase by phase. -/
theorem resetSequence : Obligations.ResetSequence := by
  refine ⟨fun _ => rfl, fun s h => ?_, fun s h => exec_rstnRelease_running h, fun s till hp h => ?_, fun s h => ?_⟩
  · rw [exec_rstnRelease_held h, State.released_eq]
  · rw [exec_bypassEnd_due hp h, State.started_eq]
  · cases hp : s.phase with
    | held | normal => simp only [exec, execBypassEnd, hp]
    | bypass till => exact exec_bypassEnd_early hp (h till hp)

end Sys2Proof.Machine


namespace Sys2Proof.Machine

/-! ## The output arbiter (R31, R32) -/

/-- An own frame alone, or after four transit frames. -/
theorem arbitrate_own {transit back : Bool} {run : Nat} (h : transit = false ∨ run = 4) :
    arbitrate true transit run back = some .own := by
  obtain rfl | rfl := h <;> simp [arbitrate]

/-- While no own frame has waited its four slots out, the transit frame's turn comes; held back, it gives the slot away. -/
theorem arbitrate_transit {own back : Bool} {run : Nat} (h : ¬ (own = true ∧ run = 4)) :
    arbitrate own true run back = some (if back then .own else .transit) := by
  have hturn : (own && (!true || run == 4)) = false := by simpa using h
  rw [arbitrate, hturn]
  cases back <;> rfl

section GiveSlot

variable {p : Port} {own transit back : Bool}

theorem Port.giveSlot_shut (h : p.sending ≠ none ∨ p.credit = 0) : p.giveSlot own transit back = p :=
  if_neg fun ⟨hs, hc⟩ => h.elim (absurd hs) (absurd · hc.ne')

/-- Nobody waits. -/
theorem Port.giveSlot_none : p.giveSlot false false back = p := by
  have hnone : arbitrate false false p.run back = none := rfl
  rw [Port.giveSlot, hnone, ite_self]

theorem Port.giveSlot_open (hs : p.sending = none) (hc : 0 < p.credit) {x : Source}
    (h : arbitrate own transit p.run back = some x) :
    p.giveSlot own transit back = { p with sending := some x, run := runAfter p.run x } := by
  rw [Port.giveSlot, if_pos ⟨hs, hc⟩, h]

end GiveSlot

/-- With an own frame waiting, an open slot is the own frame's at a run count of 4, and otherwise raises the count by one if it is
not. -/
theorem Port.giveSlot_ownWaits {p : Port} (hr : p.run ≤ 4) (hs : p.sending = none) (hc : 0 < p.credit)
    (transit back : Bool) : (p.giveSlot true transit back).sending = some .own ∨
      (p.run < 4 ∧ p.giveSlot true transit back = { p with sending := some .transit, run := p.run + 1 }) := by
  by_cases ho : transit = false ∨ p.run = 4
  · exact .inl (by rw [Port.giveSlot_open hs hc (arbitrate_own ho)])
  · obtain ⟨ht, hr4⟩ := not_or.1 ho
    obtain rfl : transit = true := by simpa using ht
    have hx := Port.giveSlot_open hs hc (arbitrate_transit (back := back) fun h : true = true ∧ _ => hr4 h.2)
    cases back with
    | true => exact .inl (by rw [hx]; rfl)
    | false =>
      have hcount : min 4 (p.run + 1) = p.run + 1 := by omega
      exact .inr ⟨by omega, by rw [hx]; simp [runAfter, hcount]⟩

/-- R31: the slots that are left to the transit frames grow fewer with the run count, and no credit is used while slots are only
given. -/
theorem own_mem_slotSources (slots : List (Bool × Bool)) : ∀ p : Port, p.run ≤ 4 → p.sending = none → 0 < p.credit →
    4 < slots.length + p.run → some Source.own ∈ slotSources p slots := by
  induction slots with
  | nil => intro p hr hs hc hn; simp only [List.length_nil] at hn; omega
  | cons w rest ih =>
    intro p hr hs hc hn
    rw [List.length_cons] at hn
    rw [slotSources, List.mem_cons]
    rcases Port.giveSlot_ownWaits hr hs hc w.1 w.2 with hown | ⟨hr4, hq⟩
    · exact .inl hown.symm
    · rw [hq]
      exact .inr (ih _ hr4 rfl hc (by change 4 < rest.length + (p.run + 1); omega))

/-! ### Which head is held back (R32) -/

theorem isOrderFor_iff (l : Nat) (f : Bytes) : isOrderFor l f = true ↔ ∃ o, readOrder f = some o ∧ o.line = l := by
  unfold isOrderFor
  cases readOrder f <;> simp

theorem heldBack_iff (down : List Bytes) (own : List OwnFrame) : heldBack down own = true ↔
    ∃ f rest o, down = f :: rest ∧ readOrder f = some o ∧
      ∃ g ∈ own, ∃ p, readOrder g.bytes = some p ∧ p.line = o.line := by
  cases down with
  | nil => simp [heldBack]
  | cons f rest => cases ho : readOrder f <;> simp [heldBack, ho, isOrderFor_iff]

/-- Settles O11: the arbiter's table, its count of transit slots, and the per-line rule. -/
theorem arbiterGivesSlots : Obligations.ArbiterGivesSlots := by
  refine ⟨fun p own transit back => ⟨fun h => ?_, fun hs hc => ⟨fun ho h => ?_, fun ht h hb => ?_, fun ht h hb => ?_⟩⟩,
    fun p slots hr hs hc h5 => own_mem_slotSources slots p hr hs hc (by omega), heldBack_iff,
    fun f l => isOrderFor_iff l f,
    fun s => ⟨fun h => ⟨State.fillS_held h, State.fillU_held h⟩, fun h => ⟨State.fillS_running h, State.fillU_running h⟩⟩⟩
  · rcases h with hs | hc | ⟨rfl, rfl⟩
    · exact Port.giveSlot_shut (.inl hs)
    · exact Port.giveSlot_shut (.inr hc)
    · exact Port.giveSlot_none
  · subst ho
    rw [Port.giveSlot_open hs hc (arbitrate_own h)]; rfl
  · subst ht hb
    rw [Port.giveSlot_open hs hc (arbitrate_transit h)]; rfl
  · subst ht hb
    rw [Port.giveSlot_open hs hc (arbitrate_transit h)]; rfl

end Sys2Proof.Machine


namespace Sys2Proof.Machine

/-! ## The taking of desk commands (R37, R178, R179) -/

/-- The handler of each desk command; a row that is no desk command has none. `exec_deskHandler` ties it to `exec`. -/
def deskHandler : Instr → Byte → Bytes → State → State
  | .unknownCommand => State.doUnknown
  | .loadLines => State.doLoadLines
  | .lineRead => State.doLineRead
  | .inhibit => State.doInhibit
  | .clearHazard => State.doClearHazard
  | .loadBusmap => State.doLoadBusmap
  | .clearStuck => State.doClearStuck
  | .loadStep => State.doLoadStep
  | .loadPlan => State.doLoadPlan
  | .test => State.doTest
  | .abort => State.doAbort
  | .returnHead => State.doReturnHead
  | .loadProfile => State.doLoadProfile
  | .calibrate => State.doCalibrate
  | .setCalCoef => State.doSetCalCoef
  | .sweepLoad => State.doSweepLoad
  | .sweepStart => State.doSweepStart
  | .sweepStop => State.doSweepStop
  | .sweepPause => State.doSweepPause
  | .sweepResume => State.doSweepResume
  | .sweepMark => State.doSweepMark
  | .suspect => State.doSuspect
  | .ticketRead => State.doTicketRead
  | .ticketAck => State.doTicketAck
  | .ticketClose => State.doTicketClose
  | .ticketNote => State.doTicketNote
  | .setParam => State.doSetParam
  | .status => State.doStatus
  | .restart => State.doRestart
  | _ => fun _ _ s => s

/-- A desk command is what its handler makes of the command taken, and nothing else. -/
theorem exec_deskHandler {c : Instr} (hc : isDeskCommand c = true) (s : State) :
    exec c s = .next (s.onCommand c (deskHandler c)) := by
  cases c with
  | coldReset | rstnRelease | bypassEnd | frameArrivesPortU | frameArrivesPortS | creditAnnouncement | frameLeavesPort
  | sOwnOfferEnters | holdRecordLapse | flushOffer | auditTimerExpiry | tapConfirmTimerExpiry
  | releaseConfirmTimerExpiry | restartReleaseTimeout | strayReleaseTimerExpiry | lockoutEnd | intervalTimerExpiry
  | headTimerExpiry | flapUnitBoundary | minuteCounterAdvance | hourTick | receptionBrokenOff => nomatch hc
  | _ => rfl

theorem isDeskCommand_of_fewestBytes {c : Instr} {n : Nat} (h : fewestBytes c = some n) : isDeskCommand c = true := by
  cases c with
  | unknownCommand | sweepStart | sweepStop | sweepPause | sweepResume | status | restart => rfl
  | _ => exact congrArg Option.isSome h

theorem exec_deskHandler_ready {c : Instr} (hc : isDeskCommand c = true) {s : State} {tag ps rest}
    (h : s.Ready c tag ps rest) : exec c s = .next (deskHandler c tag ps (s.taking rest)) := by
  rw [exec_deskHandler hc, State.onCommand_ready h]

/-- A command is not taken while the queue is empty, outside normal passage, while an ABORT is pending, while the notice queue is
full, or when another command heads the queue. -/
theorem State.onCommand_not_taken {s : State} {c : Instr} (h : s.desk.commands = [] ∨ s.phase ≠ .normal ∨
    (∃ h, h < 4 ∧ (s.chan h).pendingAbort ≠ none) ∨ 64 ≤ s.desk.notices.length + s.desk.reservations ∨
    ∃ f rest, s.desk.commands = f :: rest ∧ deskCommand f ≠ c) (g : Byte → Bytes → State → State) :
    s.onCommand c g = s := by
  obtain hs | ⟨f, rest, hq, htake, hcmd, -⟩ := s.onCommand_cases c g
  · exact hs
  obtain ⟨hnormal, hnone, hroom⟩ := (Steady.canTake_iff s).1 htake
  rcases h with hempty | hphase | ⟨n, hn, habort⟩ | hfull | ⟨f', rest', hq', hcmd'⟩
  · rw [hq] at hempty; cases hempty
  · exact absurd hnormal hphase
  · exact absurd (hnone n hn) habort
  · omega
  · rw [hq] at hq'
    cases hq'
    exact absurd hcmd hcmd'

/-! ### Short parameters -/

section Short

variable {ps : Bytes}

theorem readStep_short (h : ps.length < 18) : readStep ps = none := by
  unfold readStep
  split
  · simp only [List.length_cons] at h; omega
  · rfl

theorem readTest_short (h : ps.length < 7) : readTest ps = none := by
  unfold readTest
  split
  · simp only [List.length_cons] at h; omega
  · rfl

theorem readAbort_short (h : ps.length < 2) : readAbort ps = none := by
  unfold readAbort
  split
  · simp only [List.length_cons] at h; omega
  · rfl

/-- Every handler reads its fields by a pattern; what the pattern does not match is BAD_PARAM. -/
theorem deskHandler_short {c : Instr} {n : Nat} (hn : fewestBytes c = some n) (h : ps.length < n) (tag : Byte)
    (u : State) : deskHandler c tag ps u = u.badParam tag := by
  cases c with
  | loadStep => cases hn; rw [deskHandler, State.doLoadStep, readStep_short h]
  | test => cases hn; rw [deskHandler, State.doTest, readTest_short h]
  | abort => cases hn; rw [deskHandler, State.doAbort, readAbort_short h]
  | loadLines | lineRead | inhibit | clearHazard | loadBusmap | clearStuck | loadPlan | returnHead | loadProfile
  | calibrate | setCalCoef | sweepLoad | sweepMark | suspect | ticketRead | ticketAck | ticketClose | ticketNote
  | setParam =>
    cases hn
    simp only [deskHandler, State.doLoadLines, State.doLineRead, State.doInhibit, State.doClearHazard, State.doLoadBusmap,
      State.doClearStuck, State.doLoadPlan, State.doReturnHead, State.doLoadProfile, State.doCalibrate,
      State.doSetCalCoef, State.doSweepLoad, State.doSweepMark, State.doSuspect, State.doTicketRead, State.doTicketAck,
      State.doTicketClose, State.doTicketNote, State.doSetParam]
    split
    · simp only [List.length_cons] at h; omega
    · rfl
  | _ => cases hn

end Short

theorem exec_badParam_short {c : Instr} {n : Nat} {s : State} {tag : Byte} {ps : Bytes} {rest : List Bytes}
    (hn : fewestBytes c = some n) (h : ps.length < n) (hr : s.Ready c tag ps rest) :
    exec c s = .next (s.answered rest tag .badParam []) := by
  rw [exec_deskHandler_ready (isDeskCommand_of_fewestBytes hn) hr, deskHandler_short hn h, State.badParam,
    State.taking_respond hr.normal]

/-! ### The codes of the commands -/

theorem commandOfCode_eq_iff {c : Instr} (hc : c ≠ .unknownCommand) (n : Nat) : commandOfCode n = c ↔
    (n, c) ∈ [(0x01, Instr.loadLines), (0x02, .lineRead), (0x03, .inhibit), (0x04, .clearHazard), (0x10, .loadBusmap),
      (0x11, .clearStuck), (0x20, .loadStep), (0x21, .loadPlan), (0x22, .test), (0x23, .abort), (0x24, .returnHead),
      (0x30, .loadProfile), (0x31, .calibrate), (0x32, .setCalCoef), (0x40, .sweepLoad), (0x41, .sweepStart),
      (0x42, .sweepStop), (0x43, .sweepPause), (0x44, .sweepResume), (0x45, .sweepMark), (0x46, .suspect),
      (0x50, .ticketRead), (0x51, .ticketAck), (0x52, .ticketClose), (0x53, .ticketNote), (0x60, .setParam),
      (0x61, .status), (0x62, .restart)] := by
  unfold commandOfCode
  split <;> simp_all [eq_comm]

/-- Settles O47: the handlers' answers, the commands not taken, then the codes of frames, notices and results. -/
theorem commandsTakenAndRefused : Obligations.CommandsTakenAndRefused := by
  refine ⟨fun s tag ps rest hr => ?_, fun c n s tag ps rest hn h hr => exec_badParam_short hn h hr,
    fun c s hc h => ?_, fun n => rfl, fun f => ⟨rfl, rfl, fun c hc => commandOfCode_eq_iff hc (byteAt f 5)⟩, rfl, rfl⟩
  · rw [exec_deskHandler_ready rfl hr, deskHandler, State.doUnknown, State.taking_respond hr.normal]
  · rw [exec_deskHandler hc, State.onCommand_not_taken h]

end Sys2Proof.Machine

end HighwayPassage


/-! PROOFS of the family of order screening and the hold queue: held orders that lapse, releases that complete or stick, and the
warm restart.

The proofs are elaborated one after another, as in the families before. -/

section OrderScreening
set_option Elab.async false

namespace Sys2Proof.Machine

/-! ## O15: a held order lapses (R44 to R46, R50) -/

section Lapse

variable {s : State} {before behind : List HoldRec} {r : HoldRec} (hs : s.hold = before ++ r :: behind)
include hs

theorem exec_holdRecordLapse_early (h : 2 ^ 47 ≤ (s.now - r.expiry).toNat) :
    exec (.holdRecordLapse before.length) s = .next s := by
  simp [exec, execHoldRecordLapse, hs, not_reached_of_le h]

/-- At its expiry the record leaves the hold queue, the lapse is told, and a flush with nothing left ends. -/
theorem exec_holdRecordLapse_due (h : (s.now - r.expiry).toNat < 2 ^ 47) :
    exec (.holdRecordLapse before.length) s = .next ((State.notify { s with hold := before ++ behind } .orderLapsed
      (byte1 1 ++ (byte2 (wordAt r.frame 4) ++ byte1 (byteAt r.frame 6) ++ byte1 (byteAt r.frame 7)) ++
        byte4 (s.now - r.arrival).toNat)).endIfDone r.line) := by
  have herase : s.hold.eraseIdx before.length = before ++ behind := by
    rw [hs, List.eraseIdx_append_of_length_le (Nat.le_refl _), Nat.sub_self]; rfl
  simp only [exec, execHoldRecordLapse, hs, List.getElem?_append_right, Nat.le_refl,
    Nat.sub_self, List.getElem?_cons_zero, reached_of_lt h, if_true, State.lapse]
  rw [← hs, herase]
  rfl

end Lapse

theorem State.flushDone_flushing {s : State} {l : Nat} (h : (s.line l).access = .flushing) (rest : List Flush) (stuck : Bool) :
    s.flushDone rest l stuck = ({ s with flushes := rest } : State).setAccess l (if stuck then .stuck else .free) := if_pos h

section EndIfDone

variable {s : State} {l : Nat}

theorem State.endIfDone_noFlush (h : ∀ f ∈ s.flushes, f.line ≠ l) : s.endIfDone l = s := by
  rw [State.endIfDone, State.flush_none h]

theorem State.endIfDone_held (h : ∃ q ∈ s.hold, q.line = l) : s.endIfDone l = s := by
  have hholds : s.holdsFor l = true := by simpa [State.holdsFor] using h
  unfold State.endIfDone
  split
  · simp [hholds]
  · rfl

variable {before after : List Flush} {out : Option HoldRec} {stuck : Bool}
  (hs : s.flushes = before ++ ⟨l, out, stuck⟩ :: after) (hb : ∀ f ∈ before ++ after, f.line ≠ l)
include hs hb

theorem State.endIfDone_outstanding (h : out ≠ none) : s.endIfDone l = s := by
  have hf : s.flush l = some ⟨l, out, stuck⟩ := by rw [State.flush, hs, flush_found hb]
  simp [State.endIfDone, hf, h]

theorem State.endIfDone_done (h : out = none) (hh : ∀ q ∈ s.hold, q.line ≠ l) :
    s.endIfDone l = s.flushDone (before ++ after) l stuck := by
  have hf : s.flush l = some ⟨l, out, stuck⟩ := by rw [State.flush, hs, flush_found hb]
  have hholds : s.holdsFor l = false := by simpa [State.holdsFor] using hh
  simp [State.endIfDone, hf, h, hholds, ← State.endFlush_eq_flushDone hs hb]

end EndIfDone

/-- Settles O15: the record by its expiry, then its line's flush by what is left of it. -/
theorem heldRecordLapses : Obligations.HeldRecordLapses := by
  refine fun s before behind r hs => ⟨exec_holdRecordLapse_early hs, fun hdue =>
    ⟨fun h => ?_, fun fb out stuck fa hf hb => ⟨fun hout => ?_, fun hout hh => ?_⟩, fun stuck hf hh ha => ?_⟩⟩
  all_goals rw [exec_holdRecordLapse_due hs hdue]
  · rcases h with hheld | hnone
    · rw [State.endIfDone_held (by simpa using hheld)]
    · rw [State.endIfDone_noFlush (by simpa using hnone)]
  · rw [State.endIfDone_outstanding (by simpa using hf) hb hout]
  · rw [State.endIfDone_done (by simpa using hf) hb hout (by simpa using hh)]
  · rw [State.endIfDone_done (before := []) (after := []) (by simpa using hf) (by simp) rfl (by simpa using hh),
      State.flushDone_flushing (by rw [State.notify_line]; exact ha)]
    rfl

end Sys2Proof.Machine


namespace Sys2Proof.Machine

/-! ## The release path (R46) -/

section ReleasePath

variable {s : State} {l : Nat}

theorem State.releasePath_clear (hf : ∀ f ∈ s.flushes, f.line ≠ l) (hh : ∀ q ∈ s.hold, q.line ≠ l) (stuck : Bool) :
    s.releasePath l stuck = s.setAccess l (if stuck then .stuck else .free) := by
  have hholds : s.holdsFor l = false := by simpa [State.holdsFor] using hh
  simp [State.releasePath, State.flush_none hf, hholds, Access.afterRelease]

theorem State.releasePath_held (hf : ∀ f ∈ s.flushes, f.line ≠ l) (hh : ∃ q ∈ s.hold, q.line = l) (stuck : Bool) :
    s.releasePath l stuck = ({ s.setAccess l .flushing with flushes := s.flushes ++ [⟨l, none, stuck⟩] } : State).flushOn l := by
  have hholds : s.holdsFor l = true := by simpa [State.holdsFor] using hh
  simp [State.releasePath, State.flush_none hf, hholds, State.beginFlush]

/-- A flush under way takes the stuck mark over. -/
theorem State.releasePath_flush {before after : List Flush} {out : Option HoldRec} {mark : Bool}
    (hs : s.flushes = before ++ ⟨l, out, mark⟩ :: after) (hb : ∀ f ∈ before ++ after, f.line ≠ l) (stuck : Bool) :
    s.releasePath l stuck = { s.setAccess l .flushing with flushes := before ++ ⟨l, out, stuck⟩ :: after } := by
  have hf : s.flush l = some ⟨l, out, mark⟩ := by rw [State.flush, hs, flush_found hb]
  have hrep := flush_replaced (after := after) (out := out) (stuck := mark) (⟨l, out, stuck⟩ : Flush) rfl hb
  simp only [State.releasePath, hf, State.setFlush, hs, hrep]
  rfl

theorem State.releasePath_access_clear (hf : ∀ f ∈ s.flushes, f.line ≠ l) (hh : ∀ q ∈ s.hold, q.line ≠ l) (stuck : Bool) :
    ((s.releasePath l stuck).line l).access = if stuck then .stuck else .free := by
  simp [State.releasePath_clear hf hh]

end ReleasePath

/-! ## The lowest-numbered free bus (R51, R54) -/

/-- The bus is free and its reach set holds the line's shelf. -/
def State.BusFits (s : State) (l b : Nat) : Prop :=
  (s.bus b).state = .free ∧ (s.bus b).stray = none ∧ (s.bus b).reach.getLsbD (l / 256) = true

theorem State.busFits_iff (s : State) (l b : Nat) : ((s.bus b).isFree && (s.bus b).reaches l) = true ↔ s.BusFits l b := by
  simp [State.BusFits, Bus.isFree, Bus.reaches, and_assoc]

theorem State.freeBus_eq_some {s : State} {l b : Nat} (hb : b < 8) (hfit : s.BusFits l b) (hlow : ∀ c < b, ¬ s.BusFits l c) :
    s.freeBus l = some b := by
  show (List.range 8).find? _ = some b
  rw [List.find?_range_eq_some]
  refine ⟨(s.busFits_iff l b).2 hfit, by simpa using hb, fun c hc => ?_⟩
  rw [Bool.not_eq_true', Bool.eq_false_iff]
  exact mt (s.busFits_iff l c).1 (hlow c hc)

theorem State.freeBus_eq_none {s : State} {l : Nat} (h : ∀ c < 8, ¬ s.BusFits l c) : s.freeBus l = none := by
  show (List.range 8).find? _ = none
  rw [List.find?_eq_none]
  exact fun c hc => mt (s.busFits_iff l c).1 (h c (by simpa using hc))

@[simp] theorem State.setChan_freeBus (s : State) (h : Nat) (c : Channel) (l : Nat) :
    (s.setChan h c).freeBus l = s.freeBus l := rfl

/-! ## The booking of a routine end changes no line's access (R160, R161) -/

theorem State.writeRoutine_access (s : State) (l p : Nat) (o : RoutineOutcome) (m : Nat) :
    ((s.writeRoutine l p o).line m).access = (s.line m).access := by
  by_cases hm : m = l <;> simp [State.writeRoutine, hm]

theorem State.bookEnd_access (s : State) (e : RoutineEnd) (m : Nat) : ((s.bookEnd e).line m).access = (s.line m).access := by
  unfold State.bookEnd
  split <;> dsimp only <;> split <;> simp [State.writeRoutine_access]

theorem State.originActions_access (s : State) (e : RoutineEnd) (m : Nat) :
    ((s.originActions e).line m).access = (s.line m).access := by
  unfold State.originActions
  (repeat' split) <;> simp [State.raise_access]

theorem State.routineEnded_access (s : State) (e : RoutineEnd) (m : Nat) :
    ((s.routineEnded e).line m).access = (s.line m).access :=
  (State.originActions_access ..).trans (s.bookEnd_access e m)

/-! ## The end of a test (R90 to R92, R94) -/

/-- A channel has given up its test; if it is IDLE, a start attempt is due (R90, R154). -/
def State.gaveUp (s : State) (h : Nat) : State :=
  if (s.chan h).headOut then s.setChan h (s.chan h).givenUp else (s.setChan h (s.chan h).givenUp).wantAttempt

theorem State.noteIdle_givenUp (s : State) (h : Nat) : (s.setChan h (s.chan h).givenUp).noteIdle h = s.gaveUp h := by
  cases hout : (s.chan h).headOut <;> simp [State.noteIdle, State.gaveUp, Channel.givenUp, Channel.restStage, hout]

theorem State.gaveUp_sweep_config (s : State) (h : Nat) : (s.gaveUp h).sweep.config = s.sweep.config := by
  unfold State.gaveUp; split <;> rfl

theorem State.gaveUp_choice (s : State) (h : Nat) : (s.gaveUp h).choice = s.choice := by
  unfold State.gaveUp; split <;> rfl

theorem State.endTest_access (s : State) (h m : Nat) : ((s.endTest h).line m).access = (s.line m).access := by
  dsimp only [State.endTest]
  split
  · simp
  · split
    · simp
    · split <;> simp [State.routineEnded_access]

theorem State.endTest_chan (s : State) (h : Nat) : (s.endTest h).chan h = (s.chan h).givenUp := by
  dsimp only [State.endTest]
  split
  · simp
  · split
    · simp
    · split <;> simp

/-- A TEST_REPORT is called for: always for URGENT, and for ROUTINE as the latched policy says (R91). -/
theorem State.reportOf_wanted {s : State} {t : TestRec} {o : TestOutcome} (ho : t.outcome = some o) (h : Nat) (c : Channel)
    (p : Policy) : ((s.reportOf h c t).priority = .urgent ∨
        p.wantsReport (s.reportOf h c t).outcome (s.reportOf h c t).results = true) ↔
      t.priority = .urgent ∨ p = .all ∨ o ≠ .completed ∨ ∃ r ∈ t.results, r.verdict ≠ .pass ∧ r.verdict ≠ .unjudged := by
  cases p <;> simp [State.reportOf, Policy.wantsReport, ho]

theorem State.answerAbort_outcome {t : TestRec} {o : TestOutcome} (ho : t.outcome = some o) (s : State) (h : Nat) (tag : Byte) :
    s.answerAbort h (some tag) t = s.respond tag .ok (byte1 h ++ byte2 t.line ++ byte1 o.code) := by
  simp only [State.answerAbort, State.abortBody, ho]; rfl

/-- A test that a warm restart left without an outcome has a free one in the answer to its ABORT (log entry 18). -/
theorem State.answerAbort_noOutcome {t : TestRec} (ho : t.outcome = none) (s : State) (h : Nat) (tag : Byte) :
    s.answerAbort h (some tag) t = { s.respond tag .ok (byte1 h ++ byte2 t.line ++ [Config.freeOutcome s.choice]) with
      choice := s.choice + 1 } := by
  simp [State.answerAbort, State.abortBody, outcomeByte, ho]

section EndTest

variable {s : State} {h : Nat} {t : TestRec} (ht : (s.chan h).test = some t)
include ht

/-- The end of a test that is reported and booked: the ABORT that waits is answered, the report is sent if R91 calls for it, and a
ROUTINE test is booked. -/
theorem State.endTest_outcome {o : TestOutcome} (ho : t.outcome = some o) (hr : (s.chan h).restartEnded = false) :
    let u := ((s.gaveUp h).answerAbort h (s.chan h).pendingAbort t).sendReport (s.reportOf h (s.chan h) t)
    s.endTest h = if t.priority = .urgent then u else
      u.routineEnded ⟨t.line, t.plan, t.pass, t.startedInPass, some o, t.results, (s.chan h).origin⟩ := by
  simp only [State.endTest, ht, hr, State.noteIdle_givenUp, Bool.false_eq_true, if_false, ho]
  cases t.priority <;> rfl

/-- A test that a warm restart found in RELEASING ends with the answer to its ABORT (R94). -/
theorem State.endTest_restartEnded (hr : (s.chan h).restartEnded = true) :
    s.endTest h = (s.gaveUp h).answerAbort h (s.chan h).pendingAbort t := by
  simp only [State.endTest, ht, hr, State.noteIdle_givenUp, if_true]

end EndTest

/-! ## What follows a channel's release (R71, R72) -/

section FinishRelease

variable {s : State} {h : Nat}

theorem State.finishRelease_plain (hh : (s.chan h).handover = false) (hl : (s.chan h).releaseLine = none) :
    s.finishRelease h = s.endTest h := by
  cases ht : (s.chan h).test <;> simp [State.finishRelease, ht, hh, hl]

variable {t : TestRec} (ht : (s.chan h).test = some t)
include ht

theorem State.finishRelease_cleared (hh : (s.chan h).handover = false) (hl : (s.chan h).releaseLine ≠ none) :
    s.finishRelease h = ((s.setChan h { s.chan h with releaseLine := none }).releasePath t.line false).endTest h := by
  simp [State.finishRelease, ht, hh, Option.isSome_iff_ne_none.2 hl]

theorem State.finishRelease_takes {b : Nat} (hh : (s.chan h).handover = true) (hb : s.freeBus t.line = some b) :
    s.finishRelease h = (s.setChan h { s.chan h with releaseLine := none, handover := false }).claimAndTap h t.line b := by
  simp only [State.finishRelease, ht, hh, if_true, State.setChan_freeBus, hb]

theorem State.finishRelease_noBus (hh : (s.chan h).handover = true) (hb : s.freeBus t.line = none) :
    s.finishRelease h = ((s.setChan h { s.chan h with
      releaseLine := none, handover := false, test := some { t with outcome := some .noBus } }).releasePath
        t.line false).endTest h := by
  simp only [State.finishRelease, ht, hh, if_true, State.setChan_freeBus, hb, State.setChan_setChan, State.setChan_chan]

end FinishRelease

/-- A channel claims a bus for a line and begins TAPPING: its record, the bus, the line and the TAP_CONNECT (R56). -/
theorem State.claimAndTap_records (s : State) (h l b : Nat) :
    (s.claimAndTap h l b).chan h = { s.chan h with stage := .tapping, bus := some b, exposure := 0, peak := 0 } ∧
      (s.claimAndTap h l b).bus b = { s.bus b with
        state := .claimed h, commanded := some l, confirm := .tied s.link.serial } ∧
      (s.claimAndTap h l b).line l = { s.line l with access := .tapPending h } ∧
      (s.claimAndTap h l b).ownFrames = s.ownFrames ++ [⟨tapConnectFrame l b, s.link.serial, .confirm b⟩] := by
  simp [State.claimAndTap, State.beginTapping, State.ownFrames]

/-! ## Breaks and makes (R61, R63, R73) -/

section Breaks

variable {s : State} {b l : Nat} (hb : b < 8)
include hb

theorem State.tapBroken_releasing {h : Nat} (hs : (s.bus b).state = .claimed h) (hc : (s.bus b).commanded = some l)
    (hst : (s.chan h).stage = .releasing) : s.tapBroken l b = s.completeRelease h b l := by
  simp [State.tapBroken, Config.buses, Nat.not_le.2 hb, hs, hc, hst]

theorem State.tapBroken_restart (hs : (s.bus b).state = .claimedRestart) (hc : (s.bus b).commanded = some l) :
    s.tapBroken l b = s.completeRestartRelease b l := by
  simp [State.tapBroken, Config.buses, Nat.not_le.2 hb, hs, hc]

theorem State.tapBroken_outOfService (hs : (s.bus b).state = .outOfService)
    (hc : (s.bus b).commanded = some l ∨ (s.bus b).confirmed = some l) :
    s.tapBroken l b = s.setBus b { s.bus b with commanded := none, confirmed := none } := by
  simp [State.tapBroken, Config.buses, Nat.not_le.2 hb, hs, hc]

/-- A make of the commanded line outside TAPPING only sets the confirmed line. -/
theorem State.tapMade_late (hc : (s.bus b).commanded = some l) (hn : (s.bus b).confirmed ≠ some l)
    (hs : ∀ h, (s.bus b).state = .claimed h → (s.chan h).stage ≠ .tapping) :
    s.tapMade l b = s.setBus b { s.bus b with confirmed := some l } := by
  unfold State.tapMade
  simp only [Config.buses, Nat.not_le.2 hb, hn, hc, if_true, if_false]
  split
  · next h hst => rw [if_neg (hs h hst)]
  all_goals rfl

end Breaks

/-! ## O21: a release completes -/

theorem State.wantAttempt_bus (s : State) (b : Nat) : s.wantAttempt.bus b = s.bus b := rfl

/-- The bus state that a claim leaves behind at a confirmed break (R61, R65, R67, R73). -/
theorem State.freeClaim_eq (s : State) (b : Nat) (mark : Bool) :
    let state : BusState := if (s.bus b).oosMark then .outOfService
      else if mark then .lockout (s.now + BitVec.ofNat 48 (s.params.lockout * 1000)) else .free
    let freed := s.setBus b { s.bus b with
      confirm := .stopped, commanded := none, confirmed := none, oosMark := false, state := state }
    s.freeClaim b mark = if state = .free then freed.wantAttempt else freed := rfl

theorem State.freeClaim_bus (s : State) (b : Nat) (mark : Bool) : (s.freeClaim b mark).bus b = { s.bus b with
    confirm := .stopped, commanded := none, confirmed := none, oosMark := false
    state := if (s.bus b).oosMark then .outOfService
      else if mark then .lockout (s.now + BitVec.ofNat 48 (s.params.lockout * 1000)) else .free } := by
  rw [State.freeClaim_eq]
  dsimp only
  rw [apply_ite (State.bus · b), State.wantAttempt_bus, ite_self, State.setBus_bus, if_pos rfl]

theorem State.completeRelease_eq (s : State) (h b l : Nat) : s.completeRelease h b l =
    (((s.freeClaim b (s.chan h).protMark).setChan h { s.chan h with protMark := false }).releasePath l false).finishRelease h := by
  simp only [State.completeRelease, State.freeClaim_chan]

/-- A release without a handover completes: the bus, the channel and the line (R61, R67, R90). -/
theorem State.completeRelease_records {s : State} {b h l : Nat} (hh : (s.chan h).handover = false)
    (hl : (s.chan h).releaseLine = none) :
    (s.completeRelease h b l).bus b = (s.freeClaim b (s.chan h).protMark).bus b ∧
      (s.completeRelease h b l).chan h = Channel.givenUp { s.chan h with protMark := false } ∧
      ((∀ q ∈ s.hold, q.line ≠ l) → (∀ f ∈ s.flushes, f.line ≠ l) →
        ((s.completeRelease h b l).line l).access = .free) := by
  rw [State.completeRelease_eq, State.finishRelease_plain (by simpa using hh) (by simpa using hl)]
  refine ⟨by simp, by simp [State.endTest_chan], fun hq hf => ?_⟩
  rw [State.endTest_access, State.releasePath_access_clear (by simpa using hf) (by simpa using hq)]
  rfl

end Sys2Proof.Machine

namespace Sys2Proof.Machine

/-- Settles O21: the break by what the bus is claimed for, the handover by the bus it finds, the end of the test by its report. -/
theorem releaseCompletes : Obligations.ReleaseCompletes := by
  refine ⟨fun s b h l t hb hs hc hst ht => ⟨fun hh hl => ?_, fun hn => ?_⟩,
    fun s h t ht hh => ⟨fun b hb hfree hstray hreach hlow => ?_, fun hnone => ?_⟩,
    fun s h t o ht ho hr => ?_, fun _ => rfl,
    fun s l stuck => ⟨fun hf hq => State.releasePath_clear hf hq stuck,
      fun hf hq => congrArg Host.Outcome.next (State.releasePath_held hf hq stuck).symm,
      fun before out mark after hs hb => State.releasePath_flush hs hb stuck⟩,
    fun s b h l hb hs hc hst => ?_,
    fun s h t ht => ⟨State.finishRelease_plain, State.finishRelease_cleared ht, fun hh hnone => ?_⟩,
    fun s h t ht hr => ?_, fun s b l hb hs hc => ⟨fun hoos => ?_, fun hoos => ?_, fun hn => ?_⟩,
    rfl, rfl, fun _ => rfl, rfl, rfl, rfl, rfl, fun _ => rfl⟩
  -- the break completes the release
  · obtain ⟨hbus, hchan, hline⟩ := State.completeRelease_records (b := b) (l := l) hh hl
    rw [State.tapBroken_releasing hb hs hc hst]
    exact ⟨hbus.trans (State.freeClaim_bus ..), by rw [hchan]; simp [Channel.givenUp, Channel.restStage, hh, hl], hline⟩
  · refine State.tapMade_late hb hc hn fun g hg => ?_
    cases hs.symm.trans hg
    simp [hst]
  -- a pending handover
  · rw [State.finishRelease_takes ht hh (State.freeBus_eq_some hb ⟨hfree, hstray, hreach⟩ hlow)]
    obtain ⟨hchan, hbus, hline, hown⟩ := State.claimAndTap_records
      (s.setChan h { s.chan h with releaseLine := none, handover := false }) h t.line b
    exact ⟨by rw [hchan, State.setChan_chan, if_pos rfl], hbus, hline, hown⟩
  · rw [State.finishRelease_noBus ht hh (State.freeBus_eq_none hnone)]
    dsimp only
    rw [State.endTest_chan, State.endTest_access]
    simp only [State.releasePath_chan, State.setChan_chan, if_true]
    exact ⟨rfl, rfl, rfl, fun hq hf => State.releasePath_access_clear (by simpa using hf) (by simpa using hq) false⟩
  -- the end of a test with its report
  · intro c s0 s1 s2 reported body booked
    have hanswer : (s.gaveUp h).answerAbort h (s.chan h).pendingAbort t = s2 := by
      simp only [s2, c]
      split
      · next tag hp => rw [hp, State.answerAbort_outcome ho]; rfl
      · next hp => rw [hp]; rfl
    have hconfig : s2.sweep.config = s.sweep.config := by
      rw [← hanswer]; simp [State.gaveUp_sweep_config]
    have hbody : (s.reportOf h c t).bytes s2.choice = body := by
      simp only [Report.bytes, State.reportOf, outcomeByte, ho]; rfl
    have hwanted := State.reportOf_wanted ho h c (s := s) s2.sweep.config.policy
    rw [hconfig] at hwanted
    refine ⟨fun hrep => ?_, fun hrep => ?_⟩
    · have hsent : s2.sendReport (s.reportOf h c t) = s2.notify .testReport body := by
        rw [State.sendReport, hconfig, if_pos (hwanted.2 hrep), hbody]
      rw [State.endTest_outcome ht ho hr, hanswer, hsent]
    · have hkept : s2.sendReport (s.reportOf h c t) = s2 := by
        rw [State.sendReport, hconfig, if_neg (mt hwanted.1 hrep)]
      rw [State.endTest_outcome ht ho hr, hanswer, hkept]
  -- the release goes on after the break
  · intro after freed due
    have hdue : (s.freeClaim b (s.chan h).protMark).setChan h { s.chan h with protMark := false } = due := by
      show (if after = .free then State.wantAttempt _ else _).setChan h _ = if after = .free then _ else _
      by_cases ha : after = .free
      · simp only [if_pos ha]; rfl
      · simp only [if_neg ha]; rfl
    rw [State.tapBroken_releasing hb hs hc hst, State.completeRelease_eq, hdue]
  · exact State.finishRelease_noBus ht hh (State.freeBus_eq_none hnone)
  -- the end of a test that a restart found in RELEASING
  · rw [State.endTest_restartEnded ht hr]
    refine ⟨fun hp => by rw [hp]; rfl, fun tag hp => ⟨fun o ho => ?_, fun ho => ⟨Config.freeOutcome s.choice, ?_⟩⟩⟩
    · rw [hp, State.answerAbort_outcome ho]; rfl
    · rw [hp, State.answerAbort_noOutcome ho, State.gaveUp_choice]; rfl
  -- a restart release
  · rw [State.tapBroken_restart hb hs hc, State.completeRestartRelease, State.freeClaim_eq]
    simp [hoos]
  · rw [State.tapBroken_restart hb hs hc, State.completeRestartRelease, State.freeClaim_eq]
    simp [hoos, State.wantAttempt]
  · exact State.tapMade_late hb hc hn fun g hg => nomatch hs.symm.trans hg

end Sys2Proof.Machine

namespace Sys2Proof.Machine

/-! ## O22: a release that is not confirmed (R62, R63, R73) -/

/-- After the end of a channel's release its test ends, or the channel begins TAPPING on a free bus. -/
theorem State.finishRelease_cases (s : State) (h : Nat) :
    (∃ u : State, s.finishRelease h = u.endTest h ∧ u.buses = s.buses ∧ (u.chan h).protMark = (s.chan h).protMark) ∨
    ∃ l b, s.freeBus l = some b ∧ s.finishRelease h =
      (s.setChan h { s.chan h with releaseLine := none, handover := false }).claimAndTap h l b := by
  cases ht : (s.chan h).test with
  | none => exact .inl ⟨s, by simp only [State.finishRelease, ht], rfl, rfl⟩
  | some t =>
    cases hh : (s.chan h).handover with
    | true =>
      cases hb : s.freeBus t.line with
      | some b => exact .inr ⟨t.line, b, hb, State.finishRelease_takes ht hh hb⟩
      | none => exact .inl ⟨_, State.finishRelease_noBus ht hh hb, by simp, by simp⟩
    | false =>
      by_cases hl : (s.chan h).releaseLine = none
      · exact .inl ⟨s, State.finishRelease_plain hh hl, rfl, rfl⟩
      · exact .inl ⟨_, State.finishRelease_cleared ht hh hl, by simp, by simp⟩

theorem State.finishRelease_protMark (s : State) (h : Nat) :
    ((s.finishRelease h).chan h).protMark = (s.chan h).protMark := by
  obtain ⟨u, he, -, hp⟩ | ⟨l, b, -, he⟩ := s.finishRelease_cases h
  · rw [he, State.endTest_chan]; exact hp
  · rw [he, (State.claimAndTap_records ..).1]; simp

theorem State.claimAndTap_bus_other (s : State) (h l : Nat) {b c : Nat} (hc : c ≠ b) :
    (s.claimAndTap h l b).bus c = s.bus c := by
  simp [State.claimAndTap, State.beginTapping, hc]

/-- A handover takes a free bus, so every other bus is left as it is. -/
theorem State.finishRelease_bus {s : State} {b : Nat} (hb : (s.bus b).state ≠ .free) (h : Nat) :
    (s.finishRelease h).bus b = s.bus b := by
  obtain ⟨u, he, hu, -⟩ | ⟨l, c, hc, he⟩ := s.finishRelease_cases h
  · rw [he, State.endTest_bus, State.bus, hu, State.bus]
  · have hne : b ≠ c := fun hbc => hb (hbc ▸ (State.freeBus_some hc).2.1)
    rw [he, State.claimAndTap_bus_other _ _ _ hne, State.setChan_bus]

section StickRelay

variable (s : State) (b l : Nat)

/-- The bus of a relay that has stuck, and the ticket for it (R62, steps 1 and 2). -/
def State.relayStuck : State :=
  (s.setBus b { s.bus b with state := .outOfService, stuckLine := some l, oosMark := false, confirm := .stopped }).raise
    .bus b .relayStuck (some ⟨some l, none⟩)

theorem State.stickRelay_eq : s.stickRelay b l = (s.relayStuck b l).releasePath l true := rfl

@[simp] theorem State.relayStuck_keeps : (s.relayStuck b l).hold = s.hold ∧ (s.relayStuck b l).flushes = s.flushes := by
  simp [State.relayStuck]

theorem State.stickRelay_bus : (s.stickRelay b l).bus b = { s.bus b with
    state := .outOfService, stuckLine := some l, oosMark := false, confirm := .stopped } := by
  simp [State.stickRelay_eq, State.relayStuck]

theorem State.stickRelay_access (hh : ∀ q ∈ s.hold, q.line ≠ l) (hf : ∀ f ∈ s.flushes, f.line ≠ l) :
    ((s.stickRelay b l).line l).access = .stuck := by
  rw [State.stickRelay_eq, State.releasePath_access_clear (by simpa using hf) (by simpa using hh)]; rfl

theorem State.stickRelay_ticket (hroom : s.tickets.entries.length < 256) : ∃ k ∈ (s.stickRelay b l).tickets.entries,
    k.kind = .bus ∧ k.subject = b ∧ k.cls = .relayStuck ∧ k.state ≠ .cleared ∧ k.evidence = some ⟨some l, none⟩ := by
  obtain ⟨k, hk, hkind, hsubject, hcls, hstate, -, hev⟩ := State.raise_makes
    (s.setBus b { s.bus b with state := .outOfService, stuckLine := some l, oosMark := false, confirm := .stopped })
    .bus b .relayStuck (some ⟨some l, none⟩) hroom
  exact ⟨k, by rw [State.stickRelay_eq]; simpa [State.relayStuck] using hk, hkind, hsubject, hcls, hstate, hev⟩

end StickRelay

section Expiry

variable {s : State} {b l : Nat} {till : Time} (hc : (s.bus b).commanded = some l) (ht : (s.bus b).confirm = .running till)
include hc ht

theorem exec_releaseConfirmTimerExpiry_due {h : Nat} (hs : (s.bus b).state = .claimed h)
    (hst : (s.chan h).stage = .releasing) (hdue : (s.now - till).toNat < 2 ^ 47) :
    exec (.releaseConfirmTimerExpiry b) s = .next
      (((s.setChan h { s.chan h with protMark := false }).stickRelay b l).finishRelease h).settle := by
  simp only [exec, execReleaseConfirmTimerExpiry, hs, hc]
  exact if_pos ⟨(Timer.due_iff ..).2 ⟨till, ht, hdue⟩, hst⟩

theorem exec_restartReleaseTimeout_due (hs : (s.bus b).state = .claimedRestart) (hdue : (s.now - till).toNat < 2 ^ 47) :
    exec (.restartReleaseTimeout b) s = .next (s.stickRelay b l) := by
  simp only [exec, execRestartReleaseTimeout, hs, hc]
  exact if_pos ((Timer.due_iff ..).2 ⟨till, ht, hdue⟩)

theorem exec_releaseTimeouts_early (h : 2 ^ 47 ≤ (s.now - till).toNat) :
    exec (.releaseConfirmTimerExpiry b) s = .next s ∧ exec (.restartReleaseTimeout b) s = .next s := by
  cases hs : (s.bus b).state <;>
    simp [exec, execReleaseConfirmTimerExpiry, execRestartReleaseTimeout, hs, hc, ht, Timer.due, not_reached_of_le h]

end Expiry

/-- Settles O22: the expiry by what the bus is claimed for, the stuck line by its flush and its held orders, then the bus out of
service. -/
theorem unconfirmedReleaseSticks : Obligations.UnconfirmedReleaseSticks := by
  refine ⟨fun s b l till hc ht => ⟨fun hdue => ⟨fun h hs hst => ?_, fun hs => ?_⟩, exec_releaseTimeouts_early hc ht⟩,
    fun s b h l till hc ht hs hst hdue => exec_releaseConfirmTimerExpiry_due hc ht hs hst hdue,
    fun s b l => ⟨fun hf hh => ?_, fun hf hh => ?_, fun before out mark after hs hb => ?_⟩,
    fun s b l hb hs => ⟨State.tapBroken_outOfService hb hs, fun hc hn =>
      State.tapMade_late hb hc hn fun h hg => nomatch hs.symm.trans hg⟩⟩
  · refine ⟨_, exec_releaseConfirmTimerExpiry_due hc ht hs hst hdue, ?_, ?_, fun hh hl => ?_⟩
    · rw [State.finishRelease_bus (by simp [State.stickRelay_bus]), State.stickRelay_bus]
      simp
    · simp [State.finishRelease_protMark]
    · rw [State.finishRelease_plain (by simpa using hh) (by simpa using hl), State.endTest_chan, State.endTest_access]
      refine ⟨by simp [Channel.givenUp, Channel.restStage], rfl, fun hq hf => ?_⟩
      exact State.stickRelay_access _ b l hq hf
  · exact ⟨_, exec_restartReleaseTimeout_due hc ht hs hdue, s.stickRelay_bus b l, s.stickRelay_access b l, by simp,
      s.stickRelay_ticket b l⟩
  · exact State.releasePath_clear (s := s.relayStuck b l) (by simpa using hf) (by simpa using hh) true
  · rw [State.stickRelay_eq, State.releasePath_held (by simpa using hf) (by simpa using hh)]
    simp [State.relayStuck]
  · rw [State.stickRelay_eq, State.releasePath_flush (by simpa using hs) hb]
    rfl

end Sys2Proof.Machine

namespace Sys2Proof.Machine

/-! ## What a warm restart makes of a channel (R73, R94, R138) -/

/-- The record of a channel that a warm restart has reached. -/
def Channel.afterRestart (c : Channel) : Channel :=
  match c.stage with
  | .idle | .outOfService => c
  | .tapping | .sourcing | .settling | .measuring => c.restarted
  | .releasing => { c with handover := false, restartEnded := true, origin := .unset }
  | .calibrating => { c with
      epoch := c.epoch + 1, intake := .cold, calPhase := none, run := none
      stage := if c.headOut then .outOfService else .idle }

/-- The answer to CALIBRATE that a warm restart places for a channel: CAL_FAILED with cause RESTART (R138). -/
def Channel.restartAnswer (h : Nat) (c : Channel) : Option Notice :=
  if c.stage = .calibrating then
    c.run.bind fun run => c.calPhase.map fun p => ⟨run.tag, .response, 0x31, byte1 h ++ byte1 p.code ++ byte1 6⟩
  else none

theorem Channel.restartAnswer_response {h : Nat} {c : Channel} {n : Notice} (hn : c.restartAnswer h = some n) :
    n.kind = .response := by
  unfold Channel.restartAnswer at hn
  split at hn
  · simp only [Option.bind_eq_some_iff, Option.map_eq_some_iff] at hn
    obtain ⟨run, -, p, -, rfl⟩ := hn
    rfl
  · cases hn

/-- What the restart's acts leave but for the records, the desk, the frames and the sweep's marks: the part of the sweep that a
restart keeps, the tickets, the lines but for their access, and a frame that Port U is sending. -/
structure State.RestartKeeps (s u : State) : Prop where
  sweep : u.sweep.restarted = s.sweep.restarted
  tickets : u.tickets = s.tickets
  lines : ∀ l, (u.line l).SameButAccess (s.line l)
  port : s.link.portU.sending ≠ none → u.link.portU = s.link.portU

theorem State.RestartKeeps.refl (s : State) : s.RestartKeeps s := ⟨rfl, rfl, fun _ => rfl, fun _ => rfl⟩

theorem State.RestartKeeps.trans {s u v : State} (h1 : s.RestartKeeps u) (h2 : u.RestartKeeps v) : s.RestartKeeps v where
  sweep := h2.sweep.trans h1.sweep
  tickets := h2.tickets.trans h1.tickets
  lines l := (h2.lines l).trans (h1.lines l)
  port h := (h2.port (by rwa [h1.port h])).trans (h1.port h)

/-- What a warm restart does when it reaches a channel. -/
structure State.RestartReaches (s : State) (h : Nat) (u : State) : Prop where
  keeps : s.RestartKeeps u
  own : u.chan h = (s.chan h).afterRestart
  others : ∀ g, g ≠ h → u.chan g = s.chan g
  desk : u.desk = { s.desk with
    notices := s.desk.notices ++ ((s.chan h).restartAnswer h).toList
    reservations := s.desk.reservations - ((s.chan h).restartAnswer h).toList.length }

/-! ### A channel with a tap -/

theorem State.restartChannel_active {s : State} {h : Nat} (ha : (s.chan h).stage.active = true) :
    s.restartChannel h = s.restartTap h := by
  cases hst : (s.chan h).stage <;> simp_all [State.restartChannel, Stage.active]

theorem State.restartTap_noBus {s : State} {h : Nat} (hb : (s.chan h).bus = none) :
    s.restartTap h = s.setChan h (s.chan h).restarted := by
  simp [State.restartTap, hb]

/-- The tap of a bus is released: DIRECTIVE IDLE, then the TAP_RELEASE that the bus's confirm timer is tied to (R73). -/
theorem State.restartTap_bus {s : State} {h b : Nat} (hb : (s.chan h).bus = some b) :
    (s.restartTap h).chan h = (s.chan h).restarted ∧ (∀ g, g ≠ h → (s.restartTap h).chan g = s.chan g) ∧
      (s.restartTap h).bus b = { s.bus b with state := .claimedRestart, confirm := .tied (s.link.serial + 1) } ∧
      (∀ c, c ≠ b → (s.restartTap h).bus c = s.bus c) ∧
      (s.restartTap h).line ((s.bus b).commanded.getD 0) =
        { s.line ((s.bus b).commanded.getD 0) with access := .releasePending none } ∧
      (∀ m, m ≠ (s.bus b).commanded.getD 0 → (s.restartTap h).line m = s.line m) ∧
      (s.restartTap h).ownFrames = s.ownFrames ++ [⟨idleDirective h ((s.chan h).epoch + 1), s.link.serial, .untied⟩,
        ⟨tapReleaseFrame ((s.bus b).commanded.getD 0) b, s.link.serial + 1, .confirm b⟩] := by
  simp +contextual [State.restartTap, hb, State.ownFrames]

theorem State.restartTap_reaches {s : State} {h : Nat} (ha : (s.chan h).stage.active = true) :
    s.RestartReaches h (s.restartTap h) := by
  have hafter : (s.chan h).afterRestart = (s.chan h).restarted := by
    cases hst : (s.chan h).stage <;> simp_all [Channel.afterRestart, Stage.active]
  have hanswer : (s.chan h).restartAnswer h = none := by
    cases hst : (s.chan h).stage <;> simp_all [Channel.restartAnswer, Stage.active]
  cases hb : (s.chan h).bus with
  | none =>
    rw [State.restartTap_noBus hb]
    exact ⟨⟨rfl, rfl, fun _ => rfl, fun _ => rfl⟩, by simp [hafter], fun g hg => by simp [hg], by simp [hanswer]⟩
  | some b =>
    obtain ⟨hchan, hothers, -, -, hline, hlines, -⟩ := State.restartTap_bus hb
    refine ⟨⟨by simp, by simp, fun l => ?_, by simp⟩, hchan.trans hafter.symm, hothers, by simp [hanswer]⟩
    by_cases hl : l = (s.bus b).commanded.getD 0
    · rw [hl, hline]; rfl
    · rw [hlines l hl]; rfl

/-! ### A calibration run -/

theorem State.restartChannel_calibrating {s : State} {h : Nat} (hs : (s.chan h).stage = .calibrating) :
    s.restartChannel h = s.failRun h .restart := by
  simp [State.restartChannel, hs]

theorem State.respond_portU {s : State} (hp : s.link.portU.sending ≠ none) (tag : Byte) (r : Result) (body : Bytes) :
    (s.respond tag r body).link.portU = s.link.portU := by
  simp only [State.respond, State.placeNotice, State.fillU]
  split
  · rfl
  · exact Port.giveSlot_shut (.inl hp)

/-- The end of a run that a restart brings, but for its answer: no ticket is raised (R138). -/
def State.stopRun (s : State) (h : Nat) : State := (s.idleHead h).leaveRun h (s.chan h).headOut

theorem State.failRun_restart_answers {s : State} {h : Nat} {run : CalRun} {p : CalPhase} (hr : (s.chan h).run = some run)
    (hp : (s.chan h).calPhase = some p) : s.failRun h .restart =
      (s.stopRun h).respond run.tag .calFailed (byte1 h ++ byte1 p.code ++ byte1 6) := by
  simp only [State.failRun, hr, hp]; rfl

theorem State.failRun_restart_silent {s : State} {h : Nat} (hn : (s.chan h).run = none ∨ (s.chan h).calPhase = none) :
    s.failRun h .restart = s.stopRun h := by
  cases hr : (s.chan h).run with
  | none => simp only [State.failRun, hr]; rfl
  | some run =>
    have hp : (s.chan h).calPhase = none := by simpa [hr] using hn
    simp only [State.failRun, hr, hp]; rfl

theorem State.stopRun_records {s : State} {h : Nat} (hs : (s.chan h).stage = .calibrating) :
    (s.stopRun h).chan h = (s.chan h).afterRestart ∧ (∀ g, g ≠ h → (s.stopRun h).chan g = s.chan g) ∧
      (s.stopRun h).ownFrames = s.ownFrames ++ [⟨idleDirective h ((s.chan h).epoch + 1), s.link.serial, .untied⟩] ∧
      (s.stopRun h).desk = s.desk ∧ (s.stopRun h).cal = s.cal ∧ (s.stopRun h).tickets = s.tickets ∧
      (s.stopRun h).buses = s.buses ∧ (s.stopRun h).lines = s.lines ∧ (s.stopRun h).link.portU = s.link.portU := by
  simp +contextual [State.stopRun, State.leaveRun, State.idleHead, Channel.afterRestart, hs, State.ownFrames]

theorem State.stopRun_sweep (s : State) (h : Nat) : (s.stopRun h).sweep.restarted = s.sweep.restarted := by
  simp only [State.stopRun, State.leaveRun, State.noteIdle]
  split <;> simp [State.idleHead, Sweep.restarted]

theorem State.failRun_reaches {s : State} {h : Nat} (hs : (s.chan h).stage = .calibrating) :
    s.RestartReaches h (s.failRun h .restart) := by
  obtain ⟨hchan, hothers, -, hdesk, -, htickets, -, hlines, hport⟩ := State.stopRun_records hs
  have hkeeps : s.RestartKeeps (s.stopRun h) :=
    ⟨s.stopRun_sweep h, htickets, fun l => by rw [State.line_congr hlines]; rfl, fun _ => hport⟩
  cases hr : (s.chan h).run with
  | none =>
    rw [State.failRun_restart_silent (.inl hr)]
    exact ⟨hkeeps, hchan, hothers, by simp [hdesk, Channel.restartAnswer, hr]⟩
  | some run =>
    cases hp : (s.chan h).calPhase with
    | none =>
      rw [State.failRun_restart_silent (.inr hp)]
      exact ⟨hkeeps, hchan, hothers, by simp [hdesk, Channel.restartAnswer, hp]⟩
    | some p =>
      rw [State.failRun_restart_answers hr hp]
      refine ⟨hkeeps.trans ⟨by simp, by simp, fun l => by rw [State.respond_line]; rfl, fun h => State.respond_portU h ..⟩,
        by simpa using hchan, fun g hg => by simpa using hothers g hg, ?_⟩
      rw [State.respond_desk, hdesk]
      simp [Channel.restartAnswer, hs, hr, hp, Result.code]

/-! ### Every channel -/

theorem State.restartReleasing_reaches {s : State} {h : Nat} (hs : (s.chan h).stage = .releasing) :
    s.RestartReaches h (s.restartReleasing h) where
  keeps := ⟨rfl, rfl, fun _ => rfl, fun _ => rfl⟩
  own := by simp [State.restartReleasing, Channel.afterRestart, hs]
  others g hg := by simp [State.restartReleasing, hg]
  desk := by simp [Channel.restartAnswer, hs]

theorem State.restartChannel_reaches (s : State) (h : Nat) : s.RestartReaches h (s.restartChannel h) := by
  cases hs : (s.chan h).stage with
  | tapping | sourcing | settling | measuring =>
    have ha : (s.chan h).stage.active = true := by rw [hs]; rfl
    rw [State.restartChannel_active ha]
    exact State.restartTap_reaches ha
  | calibrating =>
    rw [State.restartChannel_calibrating hs]
    exact State.failRun_reaches hs
  | releasing =>
    have he : s.restartChannel h = s.restartReleasing h := by simp [State.restartChannel, hs]
    rw [he]
    exact State.restartReleasing_reaches hs
  | idle | outOfService =>
    have he : s.restartChannel h = s := by simp [State.restartChannel, hs]
    rw [he]
    exact ⟨.refl s, by simp [Channel.afterRestart, hs], fun _ _ => rfl, by simp [Channel.restartAnswer, hs]⟩

/-- What a warm restart does when it reaches channels, each once, in the order of a list. -/
theorem State.foldRestart_reaches : ∀ (L : List Nat) (s : State), L.Nodup →
    s.RestartKeeps (L.foldl State.restartChannel s) ∧
      (∀ h, (L.foldl State.restartChannel s).chan h = if h ∈ L then (s.chan h).afterRestart else s.chan h) ∧
      (L.foldl State.restartChannel s).desk = { s.desk with
        notices := s.desk.notices ++ L.filterMap fun h => (s.chan h).restartAnswer h
        reservations := s.desk.reservations - (L.filterMap fun h => (s.chan h).restartAnswer h).length }
  | [], s, _ => ⟨.refl s, fun _ => rfl, by simp⟩
  | a :: L, s, hL => by
    obtain ⟨ha, hL⟩ := List.nodup_cons.1 hL
    obtain ⟨hkeeps, hown, hothers, hdesk⟩ := s.restartChannel_reaches a
    obtain ⟨ihkeeps, ihchan, ihdesk⟩ := State.foldRestart_reaches L (s.restartChannel a) hL
    have hne : ∀ h ∈ L, h ≠ a := fun h hh he => ha (he ▸ hh)
    have hanswers : (L.filterMap fun h => ((s.restartChannel a).chan h).restartAnswer h) =
        L.filterMap fun h => (s.chan h).restartAnswer h :=
      List.filterMap_congr fun h hh => by rw [hothers h (hne h hh)]
    refine ⟨hkeeps.trans ihkeeps, fun h => ?_, ?_⟩
    · rw [List.foldl_cons, ihchan h]
      by_cases he : h = a
      · subst he; simp [ha, hown]
      · simp [he, hothers h he]
    · rw [List.foldl_cons, ihdesk, hanswers, hdesk]
      cases hn : (s.chan a).restartAnswer a <;> simp [hn, Nat.sub_sub, Nat.add_comm]

end Sys2Proof.Machine

namespace Sys2Proof.Machine

/-! ## A flush changes of the line records the access and the condition at most (R46, R50) -/

/-- Two records differ in the access and the condition at most. -/
def LineRec.SameButStates (r q : LineRec) : Prop :=
  { r with access := .free, condition := .unknown } = { q with access := .free, condition := .unknown }

theorem LineRec.SameButAccess.sameButStates {r q : LineRec} (h : r.SameButAccess q) : r.SameButStates q :=
  congrArg (fun r : LineRec => ({ r with condition := .unknown } : LineRec)) h

theorem State.commit_sameButStates (s : State) (f : Bytes) (m : Nat) : ((s.commit f).line m).SameButStates (s.line m) := by
  unfold State.commit
  split
  · next o _ =>
    split
    · rfl
    · by_cases hm : m = o.line <;> simp [LineRec.SameButStates, hm]
  · rfl

theorem State.endFlush_sameButStates (s : State) (f : Flush) (m : Nat) : ((s.endFlush f).line m).SameButStates (s.line m) := by
  dsimp only [State.endFlush]
  split
  · by_cases hm : m = f.line <;> simp [LineRec.SameButStates, State.line, State.setAccess, State.setLine, hm]
  · rfl

theorem State.runFlush_sameButStates (n l : Nat) (s : State) (m : Nat) :
    ((State.runFlush n l s).line m).SameButStates (s.line m) := by
  induction n generalizing s with
  | zero => rfl
  | succ n ih =>
    dsimp only [State.runFlush]
    split
    · rfl
    · split
      · rfl
      · split
        · exact State.endFlush_sameButStates ..
        · split
          · rfl
          · split
            · refine ((ih _).trans (State.commit_sameButStates ..)).trans ?_
              rw [State.offer_line]; rfl
            · rw [State.setFlush_line, State.offer_line]; rfl

theorem State.foldFlush_sameButStates (L : List Nat) (s : State) (m : Nat) :
    ((L.foldl (fun s l => s.beginFlush l false) s).line m).SameButStates (s.line m) := by
  induction L generalizing s with
  | nil => rfl
  | cons a L ih => exact (ih _).trans (State.runFlush_sameButStates ..)

theorem State.foldFlush_portU (L : List Nat) (s : State) :
    (L.foldl (fun s l => s.beginFlush l false) s).link.portU = s.link.portU := by
  induction L generalizing s with
  | nil => rfl
  | cons a L ih => exact (ih _).trans (by simp)

/-! ## The lines a warm restart flushes (R50) -/

theorem nodup_eraseDups {α : Type} [BEq α] [LawfulBEq α] : ∀ l : List α, l.eraseDups.Nodup
  | [] => List.nodup_nil
  | a :: l => by
    rw [List.eraseDups_cons, List.nodup_cons, List.mem_eraseDups]
    have : (l.filter fun b => !b == a).length < l.length + 1 := Nat.lt_succ_of_le (List.length_filter_le ..)
    exact ⟨by simp, nodup_eraseDups _⟩
  termination_by l => l.length

theorem State.mem_linesToFlush (s : State) (l : Nat) :
    l ∈ s.linesToFlush ↔ (∃ q ∈ s.hold, q.line = l) ∧ ∀ f ∈ s.flushes, f.line ≠ l := by
  simp [State.linesToFlush, State.flush]

/-! ## The notices a warm restart keeps (R183) -/

/-- The head stays if Port U is sending it, and the responses stay. -/
theorem keptNotices_eq (own : Bool) (ns : List Notice) : keptNotices own ns =
    ns.head?.toList.filter (fun n => n.kind != .response && own) ++ ns.filter (fun n => n.kind == .response) := by
  cases ns with
  | nil => rfl
  | cons n rest =>
    have hkept : rest.filter (fun m => !m.unsolicited) = rest.filter (fun n => n.kind == .response) :=
      List.filter_congr fun n _ => by simp [Notice.unsolicited, bne]
    have hhead : n.unsolicited = (n.kind != .response) := rfl
    by_cases hn : n.kind = .response <;> cases own <;> simp [keptNotices, hkept, hhead, hn]

/-- Of the notices before a restart's own answers the head stays if Port U is sending it, and the responses stay. -/
theorem keptNotices_append (own : Bool) (old : List Notice) {new : List Notice} (hnew : ∀ n ∈ new, n.kind = .response) :
    keptNotices own (old ++ new) = old.head?.toList.filter (fun n => n.kind != .response && own) ++
      (old.filter (fun n => n.kind == .response) ++ new) := by
  have hall : new.filter (fun n => n.kind == .response) = new :=
    List.filter_eq_self.2 fun n hn => by simp [hnew n hn]
  rw [keptNotices_eq, List.filter_append, hall]
  cases old with
  | nil =>
    cases new with
    | nil => rfl
    | cons n rest => simp [hnew n (List.mem_cons_self ..)]
  | cons n rest => rfl

theorem mem_keptNotices {own : Bool} {ns : List Notice} {n : Notice} (hn : n ∈ keptNotices own ns) :
    n.kind = .response ∨ (keptNotices own ns).head? = some n ∧ own = true := by
  rw [keptNotices_eq] at hn ⊢
  rcases List.mem_append.1 hn with hn | hn
  · cases ns with
    | nil => cases hn
    | cons a rest =>
      obtain ⟨ha, hown⟩ := List.mem_filter.1 hn
      obtain rfl : n = a := List.mem_singleton.1 ha
      have hfilter : [n].filter (fun n => n.kind != .response && own) = [n] := List.filter_eq_self.2 (by simpa using hown)
      exact .inr ⟨by simp [hfilter], by simpa using (Bool.and_eq_true_iff.1 hown).2⟩
  · exact .inl (by simpa using (List.mem_filter.1 hn).2)

theorem keptNotices_tail {own : Bool} {ns : List Notice} {n : Notice} (hn : n ∈ (keptNotices own ns).tail) :
    n.kind = .response := by
  cases ns with
  | nil => cases hn
  | cons a rest =>
    dsimp only [keptNotices] at hn
    have hrest : n ∈ rest.filter fun m => !m.unsolicited := by
      split at hn
      · exact hn
      · exact List.mem_of_mem_tail hn
    simpa [Notice.unsolicited] using (List.mem_filter.1 hrest).2

theorem keptNotices_head {n : Notice} {ns : List Notice} (h : ns.head? = some n) : (keptNotices true ns).head? = some n := by
  cases ns with
  | nil => cases h
  | cons a rest => exact h

end Sys2Proof.Machine

namespace Sys2Proof.Machine

/-! ## O60: the warm restart (R50, R73, R94, R138, R164, R183, R186) -/

section WarmRestart

variable (s : State)

/-- The answers that a warm restart places for calibration runs, channel by channel. -/
def State.restartAnswers : List Notice := allChannels.filterMap fun h => (s.chan h).restartAnswer h

/-- Every channel is reached once, in an order left open (log entry 5). -/
theorem State.restartChannels_order : ∃ (channels : List Nat) (m : Nat), channels.Perm allChannels ∧
    s.restartChannels = channels.foldl State.restartChannel { s with choice := m } :=
  ⟨_, _, freeOrder_perm _ _ _ (Nat.le_refl _), rfl⟩

theorem State.restartChannels_reaches : s.RestartKeeps s.restartChannels ∧
    (∀ h, h < 4 → s.restartChannels.chan h = (s.chan h).afterRestart) ∧
    ∃ runs : List Notice, runs.Perm s.restartAnswers ∧ s.restartChannels.desk = { s.desk with
      notices := s.desk.notices ++ runs, reservations := s.desk.reservations - runs.length } := by
  obtain ⟨channels, m, hperm, heq⟩ := s.restartChannels_order
  have hnodup : channels.Nodup := hperm.nodup_iff.2 (by decide)
  obtain ⟨⟨hsweep, htickets, hlines, hport⟩, hchan, hdesk⟩ := State.foldRestart_reaches channels { s with choice := m } hnodup
  rw [heq]
  refine ⟨⟨hsweep, htickets, hlines, hport⟩, fun h hh => ?_, _, hperm.filterMap _, hdesk⟩
  have hmem : h ∈ channels := hperm.mem_iff.2 (by simp [allChannels]; omega)
  exact (hchan h).trans (if_pos hmem)

/-- A flush begins for each line with held records and no flush, in an order left open (log entry 5). -/
theorem State.restartFlushes_order : ∃ (lines : List Nat) (n : Nat), lines.Nodup ∧
    (∀ l, l ∈ lines ↔ (∃ q ∈ s.hold, q.line = l) ∧ ∀ f ∈ s.flushes, f.line ≠ l) ∧
    s.restartFlushes = lines.foldl (fun w l => w.beginFlush l false) { s with choice := n } := by
  have hperm := freeOrder_perm s.linesToFlush.length s.linesToFlush s.choice (Nat.le_refl _)
  exact ⟨_, _, hperm.nodup_iff.2 (nodup_eraseDups _), fun l => hperm.mem_iff.trans (s.mem_linesToFlush l), rfl⟩

theorem State.restartFlushes_line (l : Nat) : (s.restartFlushes.line l).SameButStates (s.line l) := by
  obtain ⟨lines, n, -, -, heq⟩ := s.restartFlushes_order
  rw [heq]
  exact State.foldFlush_sameButStates lines { s with choice := n } l

theorem State.restartFlushes_portU : s.restartFlushes.link.portU = s.link.portU := by
  obtain ⟨lines, n, -, -, heq⟩ := s.restartFlushes_order
  rw [heq, State.foldFlush_portU]

/-- After the channels and the flushes a warm restart changes the Sweep Unit and the Command Unit alone. -/
theorem State.warmRestart_eq : s.warmRestart = { s.restartChannels.restartFlushes with
    sweep := s.warmRestart.sweep, desk := s.warmRestart.desk } := by
  simp only [State.warmRestart, State.restartNotices]

theorem State.warmRestart_lines : s.warmRestart.lines = s.restartChannels.restartFlushes.lines := by
  simp [State.warmRestart]

theorem State.warmRestart_link : s.warmRestart.link = s.restartChannels.restartFlushes.link := by
  simp [State.warmRestart]

theorem State.warmRestart_sweep : s.warmRestart.sweep = s.sweep.restarted := by
  obtain ⟨hkeeps, -⟩ := s.restartChannels_reaches
  simpa [State.warmRestart] using hkeeps.sweep

theorem State.warmRestart_tickets : s.warmRestart.tickets = s.tickets := by
  obtain ⟨hkeeps, -⟩ := s.restartChannels_reaches
  simpa [State.warmRestart] using hkeeps.tickets

theorem State.warmRestart_line (l : Nat) : (s.warmRestart.line l).SameButStates (s.line l) := by
  obtain ⟨hkeeps, -⟩ := s.restartChannels_reaches
  rw [State.line_congr s.warmRestart_lines]
  exact (s.restartChannels.restartFlushes_line l).trans (hkeeps.lines l).sameButStates

theorem State.warmRestart_portU (h : s.link.portU.sending ≠ none) : s.warmRestart.link.portU = s.link.portU := by
  obtain ⟨hkeeps, -⟩ := s.restartChannels_reaches
  rw [s.warmRestart_link, s.restartChannels.restartFlushes_portU, hkeeps.port h]

theorem State.warmRestart_chan {h : Nat} (hh : h < 4) : s.warmRestart.chan h = (s.chan h).afterRestart := by
  obtain ⟨-, hchan, -⟩ := s.restartChannels_reaches
  rw [← hchan h hh]
  simp [State.warmRestart, State.chan]

/-- The Command Unit after a warm restart: the answers of calibration runs, and of the rest what a restart keeps (R138, R183). -/
theorem State.warmRestart_desk : ∃ runs : List Notice, runs.Perm s.restartAnswers ∧ s.warmRestart.desk = {
    commands := s.desk.commands
    notices := keptNotices (s.warmRestart.link.portU.sending == some .own) (s.desk.notices ++ runs)
    reservations := s.desk.reservations - runs.length
    lost := 0 } := by
  obtain ⟨-, -, runs, hruns, hdesk⟩ := s.restartChannels_reaches
  refine ⟨runs, hruns, ?_⟩
  have hflushed : s.restartChannels.restartFlushes.desk = { s.desk with
      notices := s.desk.notices ++ runs, reservations := s.desk.reservations - runs.length } := by simpa using hdesk
  simp only [State.warmRestart, State.restartNotices, hflushed]

theorem State.restartAnswers_response {n : Notice} (hn : n ∈ s.restartAnswers) : n.kind = .response := by
  obtain ⟨h, -, ha⟩ := List.mem_filterMap.1 hn
  exact Channel.restartAnswer_response ha

end WarmRestart

/-! ### The command -/

theorem State.restartReleases_pos (s : State) : 0 < s.restartReleases ↔ ∃ b, b < 8 ∧ (s.bus b).state = .claimedRestart := by
  have hmem : ∀ b, b ∈ allBuses ↔ b < 8 := fun b => List.mem_range (n := 8)
  simp [State.restartReleases, List.countP_pos_iff, hmem]

section Restart

variable {s : State} {tag : Byte} {ps : Bytes} {rest : List Bytes} (hr : s.Ready .restart tag ps rest)
include hr

theorem exec_restart_starting (h : ∃ b, b < 8 ∧ (s.bus b).state = .claimedRestart) :
    exec .restart s = .next (s.answered rest tag .starting []) := by
  have hpos : 0 < (s.taking rest).restartReleases := s.restartReleases_pos.2 h
  rw [exec_deskHandler_ready rfl hr, deskHandler, State.doRestart, if_pos hpos, State.taking_respond hr.normal]

/-- RESTART answers with the number of channels it ends, and then restarts. -/
theorem exec_restart (h : ∀ b, b < 8 → (s.bus b).state ≠ .claimedRestart) :
    exec .restart s = .next (s.answered rest tag .ok (byte1 s.activeChannels)).warmRestart := by
  have hzero : ¬ 0 < (s.taking rest).restartReleases := fun hpos =>
    let ⟨b, hb, hs⟩ := s.restartReleases_pos.1 hpos
    h b hb hs
  rw [exec_deskHandler_ready rfl hr, deskHandler, State.doRestart, if_neg hzero, State.taking_respond hr.normal]
  rfl

end Restart

theorem State.answered_portU {s : State} (h : s.link.portU.sending ≠ none) (rest : List Bytes) (tag : Byte) (r : Result)
    (body : Bytes) : (s.answered rest tag r body).link.portU = s.link.portU := Port.giveSlot_shut (.inl h)

theorem Channel.afterRestart_active {c : Channel} (h : c.stage.active = true) : c.afterRestart = c.restarted := by
  cases hs : c.stage <;> simp_all [Channel.afterRestart, Stage.active]

/-- The channel records after a warm restart, stage by stage. -/
theorem Channel.afterRestart_stages (c : Channel) :
    (c.stage.active = true → c.afterRestart.test = none ∧ c.afterRestart.step = none ∧
      c.afterRestart.stage = (if c.headOut then .outOfService else .idle) ∧ c.afterRestart.epoch = c.epoch + 1) ∧
    (c.stage = .calibrating → c.afterRestart.run = none ∧
      c.afterRestart.stage = (if c.headOut then .outOfService else .idle)) ∧
    (c.stage = .releasing → c.afterRestart = { c with handover := false, restartEnded := true, origin := .unset }) ∧
    (c.stage ∈ [Stage.idle, .outOfService] → c.afterRestart = c) := by
  refine ⟨fun h => ?_, fun h => ?_, fun h => ?_, fun h => ?_⟩
  · rw [Channel.afterRestart_active h]
    exact ⟨rfl, rfl, rfl, rfl⟩
  · simp [Channel.afterRestart, h]
  · simp [Channel.afterRestart, h]
  · obtain h | h : c.stage = .idle ∨ c.stage = .outOfService := by simpa using h
    all_goals simp [Channel.afterRestart, h]

/-- Settles O60: the refusal, what the restart ends and keeps, its acts one by one, and the Command Unit after it. -/
theorem warmRestart : Obligations.WarmRestart := by
  refine ⟨fun s tag ps rest hr => ⟨exec_restart_starting hr, fun hnone => ⟨_, exec_restart hr hnone, ?_⟩⟩,
    fun s tag ps rest hr hnone => ?_, fun _ _ => rfl, fun s h b l ha hb hc => ?_, fun s h run p hs hrun hp => ?_,
    fun s tag ps rest hr hnone => ?_⟩
  · generalize hs0 : s.answered rest tag .ok (byte1 s.activeChannels) = s0
    obtain ⟨runs, -, hdesk⟩ := s0.warmRestart_desk
    have hnotices : s0.desk.notices = s.desk.notices ++ [⟨tag, .response, 0, byte1 s.activeChannels⟩] := by rw [← hs0]; rfl
    have hchan : ∀ h, s0.chan h = s.chan h := fun h => by rw [← hs0]; rfl
    have hmem : ∀ n ∈ s0.desk.notices, n.kind = .response → n ∈ s0.warmRestart.desk.notices := fun n hn hk => by
      rw [hdesk, keptNotices_eq]
      exact List.mem_append_right _ (List.mem_filter.2 ⟨List.mem_append_left _ hn, by simp [hk]⟩)
    refine ⟨?_, ?_, ?_, fun n hn => ?_, fun n hn hk => hmem n ?_ hk, fun n hn hown => ?_, ⟨_, hmem _ ?_ rfl, rfl⟩,
      fun h hh => ?_, fun l => ?_, ?_⟩
    · rw [s0.warmRestart_sweep, ← hs0]; rfl
    · rw [hdesk, ← hs0]; rfl
    · rw [hdesk]
    · rw [hdesk] at hn; exact keptNotices_tail hn
    · rw [hnotices]; exact List.mem_append_left _ hn
    · have hport : s0.warmRestart.link.portU = s.link.portU := by
        have h0 : s0.link.portU = s.link.portU := by rw [← hs0, State.answered_portU (by simp [hown])]
        rw [s0.warmRestart_portU (by simp [h0, hown]), h0]
      rw [hdesk, hport, hown, hnotices]
      refine keptNotices_head ?_
      simp [hn]
    · rw [hnotices]; exact List.mem_append_right _ (List.mem_singleton.2 rfl)
    · rw [s0.warmRestart_chan hh, hchan]
      exact (s.chan h).afterRestart_stages
    · have hline : s0.line l = s.line l := by rw [← hs0]; rfl
      rw [← hline]
      exact s0.warmRestart_line l
    · subst hs0
      simp [State.warmRestart_tickets, State.answered]
  · generalize hs0 : s.answered rest tag .ok (byte1 s.activeChannels) = s0
    obtain ⟨channels, m, hchannels, hreached⟩ := s0.restartChannels_order
    obtain ⟨lines, n, hnodup, hlines, hflushed⟩ := s0.restartChannels.restartFlushes_order
    refine ⟨s0.warmRestart, channels, lines, m, n, by rw [exec_restart hr hnone, hs0], hchannels, hnodup, fun l => ?_, ?_⟩
    · have hhold : s0.restartChannels.hold = s.hold := by rw [← hs0]; simp [State.answered]
      have hflushes : s0.restartChannels.flushes = s.flushes := by rw [← hs0]; simp [State.answered]
      rw [hlines l, hhold, hflushes]
    · intro s0' u v
      have hv : s0.restartChannels.restartFlushes = v := by rw [hflushed, hreached, ← hs0]; rfl
      rw [← hv]
      exact s0.warmRestart_eq
  · obtain ⟨-, -, hbus, hbuses, hline, hlines, hown⟩ := State.restartTap_bus hb
    rw [hc] at hline hlines hown
    rw [State.restartChannel_active ha]
    exact ⟨hbus, hbuses, hline, hlines, hown, by simp, by simp⟩
  · obtain ⟨-, -, hown, hdesk, hcal, htickets, hbuses, hlines, -⟩ := State.stopRun_records hs
    rw [State.restartChannel_calibrating hs, State.failRun_restart_answers hrun hp]
    refine ⟨by rw [State.respond_desk, hdesk]; rfl, by simpa [State.ownFrames] using hown, by simpa using hcal,
      by simpa using htickets, by simpa using hbuses, by simpa using hlines⟩
  · generalize hs0 : s.answered rest tag .ok (byte1 s.activeChannels) = s0
    obtain ⟨runs, hruns, hdesk⟩ := s0.warmRestart_desk
    have hanswers : s0.restartAnswers = s.restartAnswers := by rw [← hs0]; rfl
    have hnew : ∀ n ∈ (⟨tag, .response, 0, byte1 s.activeChannels⟩ : Notice) :: runs, n.kind = .response := fun n hn => by
      rcases List.mem_cons.1 hn with rfl | hn
      · rfl
      · exact s0.restartAnswers_response (hruns.mem_iff.1 hn)
    have hnotices : s0.desk.notices ++ runs = s.desk.notices ++ ⟨tag, .response, 0, byte1 s.activeChannels⟩ :: runs := by
      rw [← hs0]; simp [State.answered, Result.code]
    refine ⟨s0.warmRestart, runs, by rw [exec_restart hr hnone, hs0], hruns.trans (by rw [hanswers]; rfl), fun hsend => ?_,
      ?_, fun n hn => ?_⟩
    · have h0 : s0.link.portU = s.link.portU := by rw [← hs0, State.answered_portU hsend]
      rw [s0.warmRestart_portU (by rwa [h0]), h0]
    · rw [hdesk, hnotices, keptNotices_append _ _ hnew, ← hs0]; rfl
    · rw [hdesk] at hn ⊢
      simpa using mem_keptNotices hn

end Sys2Proof.Machine
end OrderScreening


/-! PROOFS of the family of test access: releases, taps, stray relays and lockouts, the bus commands, tests on demand with
pre-emption, and ABORT.

The proofs are elaborated one after another, as in the families before. -/

section TestAccess
set_option Elab.async false

namespace Sys2Proof.Machine

/-! ## A release begins (R60, R68, R89) -/

/-- A release writes the channel, the line, the bus and the S-own queue with its ports, and nothing else. -/
theorem State.release_frame (s : State) (h l b : Nat) : s.release h l b = { s with
    chans := (s.release h l b).chans, lines := (s.release h l b).lines
    buses := (s.release h l b).buses, link := (s.release h l b).link } := by
  have hkeeps := s.release_keeps h l b
  generalize s.release h l b = u at hkeeps ⊢
  cases u
  simp_all

theorem State.release_records (s : State) (h l b : Nat) :
    (s.release h l b).chan h = { s.chan h with
      stage := .releasing, step := none, intake := .cold, epoch := (s.chan h).epoch + 1 } ∧
    (s.release h l b).line l = { s.line l with access := .releasePending (some h) } ∧
    (s.release h l b).bus b = { s.bus b with confirm := .tied (s.link.serial + 1) } ∧
    (s.release h l b).ownFrames = s.ownFrames ++ [⟨idleDirective h ((s.chan h).epoch + 1), s.link.serial, .untied⟩,
      ⟨tapReleaseFrame l b, s.link.serial + 1, .confirm b⟩] := by
  simp [State.release, State.ownFrames, State.setAccess]

theorem State.release_others (s : State) (h l b : Nat) :
    (∀ g, g ≠ h → (s.release h l b).chan g = s.chan g) ∧ (∀ m, m ≠ l → (s.release h l b).line m = s.line m) ∧
      (∀ c, c ≠ b → (s.release h l b).bus c = s.bus c) := by
  refine ⟨fun g hg => ?_, fun m hm => ?_, fun c hc => ?_⟩ <;> simp [State.release, State.setAccess, *]

theorem State.endByCause_inactive {s : State} {h : Nat} (ha : (s.chan h).stage.active = false) (o : TestOutcome) :
    s.endByCause h o = s := by
  simp [State.endByCause, ha]

section EndByCause

variable {s : State} {h b : Nat} {t : TestRec} (ha : (s.chan h).stage.active = true) (ht : (s.chan h).test = some t)
  (hb : (s.chan h).bus = some b)
include ha ht hb

theorem State.endByCause_active (o : TestOutcome) : s.endByCause h o =
    (s.setChan h { s.chan h with test := some { t with outcome := some o } }).release h t.line b := by
  simp only [State.endByCause, ha, ht, hb, if_true]

/-- What a cause of release leaves: the channel, the line, the bus, and the frames offered. -/
theorem State.endByCause_records (o : TestOutcome) :
    (s.endByCause h o).chan h = { s.chan h with
      stage := .releasing, test := some { t with outcome := some o }, step := none
      epoch := (s.chan h).epoch + 1, intake := Intake.cold } ∧
    (s.endByCause h o).line t.line = { s.line t.line with access := .releasePending (some h) } ∧
    (s.endByCause h o).bus b = { s.bus b with confirm := .tied (s.link.serial + 1) } ∧
    (s.endByCause h o).ownFrames = s.ownFrames ++ [⟨idleDirective h ((s.chan h).epoch + 1), s.link.serial, .untied⟩,
      ⟨tapReleaseFrame t.line b, s.link.serial + 1, .confirm b⟩] := by
  obtain ⟨hchan, hline, hbus, hown⟩ := State.release_records
    (s.setChan h { s.chan h with test := some { t with outcome := some o } }) h t.line b
  rw [State.endByCause_active ha ht hb]
  refine ⟨by rw [hchan]; simp, hline, hbus, ?_⟩
  rw [hown, State.setChan_chan, if_pos rfl]
  rfl

theorem State.endByCause_others (o : TestOutcome) :
    (∀ g, g ≠ h → (s.endByCause h o).chan g = s.chan g) ∧ (∀ m, m ≠ t.line → (s.endByCause h o).line m = s.line m) ∧
      (∀ c, c ≠ b → (s.endByCause h o).bus c = s.bus c) := by
  obtain ⟨hchans, hlines, hbuses⟩ := State.release_others
    (s.setChan h { s.chan h with test := some { t with outcome := some o } }) h t.line b
  rw [State.endByCause_active ha ht hb]
  exact ⟨fun g hg => by rw [hchans g hg, State.setChan_chan, if_neg hg], hlines, hbuses⟩

theorem State.endByCause_frame (o : TestOutcome) : s.endByCause h o = { s with
    chans := (s.endByCause h o).chans, lines := (s.endByCause h o).lines
    buses := (s.endByCause h o).buses, link := (s.endByCause h o).link } := by
  rw [State.endByCause_active ha ht hb]
  exact State.release_frame ..

end EndByCause

section YieldTrigger

variable {s : State} {l h : Nat} {t : TestRec} (hl : (s.line l).access.channel = some h) (ht : (s.chan h).test = some t)
include hl ht

theorem State.yieldTrigger_routine (hp : t.priority = .routine) : s.yieldTrigger l = s.endByCause h .yielded := by
  simp [State.yieldTrigger, Channel.holdsRoutine, hl, ht, hp]

theorem State.yieldTrigger_urgent (hp : t.priority = .urgent) : s.yieldTrigger l = s := by
  simp [State.yieldTrigger, Channel.holdsRoutine, hl, ht, hp]

end YieldTrigger

theorem State.yieldTrigger_free {s : State} {l : Nat} (hl : (s.line l).access.channel = none) : s.yieldTrigger l = s := by
  simp only [State.yieldTrigger, hl]

/-- Settles O19: the release by the records it writes, then the yield trigger by the test it finds. -/
theorem releaseBegins : Obligations.ReleaseBegins := by
  refine ⟨fun s h b t o ha ht hb => ?_, fun s h o ha => State.endByCause_inactive ha o,
    fun s l h t hl ht => ⟨State.yieldTrigger_routine hl ht, State.yieldTrigger_urgent hl ht⟩,
    fun s l hl => State.yieldTrigger_free hl⟩
  obtain ⟨hchan, hline, hbus, hown⟩ := State.endByCause_records ha ht hb o
  obtain ⟨hchans, hlines, hbuses⟩ := State.endByCause_others ha ht hb o
  exact ⟨hchan, hchans, hline, hlines, hbus, hbuses, hown, by simp, by simp, by simp, State.endByCause_frame ha ht hb o⟩

end Sys2Proof.Machine

namespace Sys2Proof.Machine

/-! ## The tap is made, or the relay fails (R57 to R59, R83) -/

theorem State.raise_ownFrames (s : State) (k : SubjectKind) (n : Nat) (c : FaultClass) (e : Option Evidence) :
    (s.raise k n c e).ownFrames = s.ownFrames := by
  simp [State.ownFrames]

/-- A make in TAPPING confirms the tap and begins the first repetition of the test's first step. -/
theorem State.confirmTap_records {s : State} {h : Nat} {t : TestRec} {r : StepRec} (ht : (s.chan h).test = some t)
    (hr : s.stepRec t.startStep = some r) (b l : Nat) :
    (s.confirmTap h b l).bus b = { s.bus b with confirm := .stopped, confirmed := some l } ∧
    ((s.confirmTap h b l).line l).access = .tapped h ∧
    (s.confirmTap h b l).chan h = { s.chan h with
      stage := .sourcing, epoch := (s.chan h).epoch + 1
      step := some ⟨t.startStep, t.results.length + 1, 0, .clear, .clear⟩
      intake := { Intake.cold with tie := some s.link.serial } } ∧
    (s.confirmTap h b l).ownFrames = s.ownFrames ++
      [⟨sourceDirective h ((s.chan h).epoch + 1) r, s.link.serial, .head h ((s.chan h).epoch + 1)⟩] := by
  simp [State.confirmTap, State.beginStep, State.beginRepetition, State.setAccess, State.ownFrames, ht, hr]

section TapMade

variable {s : State} {b l : Nat}

theorem State.tapMade_again (hn : (s.bus b).confirmed = some l) : s.tapMade l b = s := by
  simp [State.tapMade, hn]

theorem State.tapMade_tapping (hb : b < 8) {h : Nat} (hs : (s.bus b).state = .claimed h)
    (hc : (s.bus b).commanded = some l) (hst : (s.chan h).stage = .tapping) (hn : (s.bus b).confirmed ≠ some l) :
    s.tapMade l b = s.confirmTap h b l := by
  simp [State.tapMade, Config.buses, Nat.not_le.2 hb, hs, hc, hst, hn]

end TapMade

section RelayFault

variable {s : State} {h b l : Nat} {t : TestRec} (ha : (s.chan h).stage.active = true) (ht : (s.chan h).test = some t)
  (hb : (s.chan h).bus = some b)
include ha ht hb

/-- The test of a relay that fails is released as by any other cause, with a ticket about the line (R58, R59). -/
theorem State.relayFault_records :
    let u := (s.raise .line l .relayNoMake none).endByCause h .relayFault
    u.chan h = { s.chan h with
      stage := .releasing, test := some { t with outcome := some .relayFault }, step := none
      epoch := (s.chan h).epoch + 1, intake := Intake.cold } ∧
    (u.line t.line).access = .releasePending (some h) ∧
    u.bus b = { s.bus b with confirm := .tied (s.link.serial + 1) } ∧
    u.ownFrames = s.ownFrames ++ [⟨idleDirective h ((s.chan h).epoch + 1), s.link.serial, .untied⟩,
      ⟨tapReleaseFrame t.line b, s.link.serial + 1, .confirm b⟩] ∧
    (s.tickets.entries.length < 256 → ∃ k ∈ u.tickets.entries,
      k.kind = .line ∧ k.subject = l ∧ k.cls = .relayNoMake ∧ k.state ≠ .cleared ∧ k.lastSeen = s.minute) := by
  obtain ⟨hchan, hline, hbus, hown⟩ := State.endByCause_records (s := s.raise .line l .relayNoMake none)
    (by simpa using ha) (by simpa using ht) (by simpa using hb) .relayFault
  refine ⟨by simpa using hchan, by rw [hline], by simpa using hbus, by simpa [State.raise_ownFrames] using hown,
    fun hroom => ?_⟩
  obtain ⟨k, hk, hkind, hsubject, hcls, hstate, hseen, -⟩ := s.raise_makes .line l .relayNoMake none hroom
  exact ⟨k, by simpa using hk, hkind, hsubject, hcls, hstate, hseen⟩

end RelayFault

section ConfirmTimer

variable {s : State} {b h l : Nat} {till : Time} (hs : (s.bus b).state = .claimed h) (hc : (s.bus b).commanded = some l)
  (ht : (s.bus b).confirm = .running till)
include hs hc ht

theorem exec_tapConfirmTimerExpiry_due (hst : (s.chan h).stage = .tapping) (hdue : (s.now - till).toNat < 2 ^ 47) :
    exec (.tapConfirmTimerExpiry b) s = .next ((s.raise .line l .relayNoMake none).endByCause h .relayFault) := by
  simp only [exec, execTapConfirmTimerExpiry, hs, hc]
  exact if_pos ⟨(Timer.due_iff ..).2 ⟨till, ht, hdue⟩, hst⟩

theorem exec_tapConfirmTimerExpiry_early (h : 2 ^ 47 ≤ (s.now - till).toNat) :
    exec (.tapConfirmTimerExpiry b) s = .next s := by
  simp [exec, execTapConfirmTimerExpiry, hs, hc, ht, Timer.due, not_reached_of_le h]

end ConfirmTimer

section StrayBroken

variable {s : State} {b l : Nat}

theorem State.strayBroken_match {timer : Timer} (h : (s.bus b).stray = some ⟨l, timer⟩) :
    s.strayBroken l b = s.setBus b { s.bus b with stray := none } := by
  simp [State.strayBroken, h]

theorem State.strayBroken_other (h : ∀ timer, (s.bus b).stray ≠ some ⟨l, timer⟩) : s.strayBroken l b = s := by
  unfold State.strayBroken
  dsimp only
  split
  · next y hy => exact if_neg fun hl => h y.timer (by rw [hy, ← hl])
  · rfl

end StrayBroken

section Drop

variable {s : State} {b h l : Nat} (hb : b < 8) (hs : (s.bus b).state = .claimed h)
include hb hs

/-- A break of the confirmed line while its test sources, settles or measures is a relay's drop (R59). -/
theorem State.tapBroken_drop (hst : (s.chan h).stage ∈ [Stage.sourcing, .settling, .measuring])
    (hn : (s.bus b).confirmed = some l) : s.tapBroken l b =
      ((s.setBus b { s.bus b with confirmed := none }).raise .line l .relayNoMake none).endByCause h .relayFault := by
  simp only [List.mem_cons, List.not_mem_nil, or_false] at hst
  obtain hst | hst | hst := hst <;> simp [State.tapBroken, Config.buses, Nat.not_le.2 hb, hs, hst, hn, State.relayDrop]

theorem State.tapBroken_tapping (hst : (s.chan h).stage = .tapping) : s.tapBroken l b = s.strayBroken l b := by
  simp [State.tapBroken, Config.buses, Nat.not_le.2 hb, hs, hst]

end Drop

theorem Stage.active_of_measuring {g : Stage} (h : g ∈ [Stage.sourcing, .settling, .measuring]) : g.active = true := by
  revert g; decide

/-- Settles O20: the make in TAPPING, the confirm timer before and at its expiry, and the break in each stage of a test. -/
theorem tapConfirmed : Obligations.TapConfirmed := by
  refine ⟨fun s b h l t hb hs hc hst ht hl hbus => ⟨fun r hn hr => ?_, fun till htimer hdue => ?_,
      fun till htimer hearly => exec_tapConfirmTimerExpiry_early hs hc htimer hearly⟩,
    fun s b l hn => State.tapMade_again hn,
    fun s b h l hb hs => ⟨fun hst hn => ⟨State.tapBroken_drop hb hs hst hn, fun t ht hbus => ?_⟩, fun hst hstray => ?_⟩⟩
  · rw [State.tapMade_tapping hb hs hc hst hn]
    exact State.confirmTap_records ht hr b l
  · subst hl
    obtain ⟨hchan, hline, hconfirm, hown, hticket⟩ :=
      State.relayFault_records (l := t.line) (by rw [hst]; rfl) ht hbus
    exact ⟨_, exec_tapConfirmTimerExpiry_due hs hc htimer hst hdue, by rw [hchan], by rw [hchan], hline, by rw [hconfirm],
      hown, hticket⟩
  · obtain ⟨hchan, hline, hconfirm, hown, hticket⟩ :=
      State.relayFault_records (s := s.setBus b { s.bus b with confirmed := none }) (l := l)
        (Stage.active_of_measuring hst) ht hbus
    rw [State.tapBroken_drop hb hs hst hn]
    exact ⟨hconfirm.trans (by simp), hchan, hline, hown, hticket⟩
  · rw [State.tapBroken_tapping hb hs hst, State.strayBroken_other hstray]

end Sys2Proof.Machine

namespace Sys2Proof.Machine

/-! ## Stray relays and lockouts (R63 to R65, R67) -/

theorem State.tapMade_stray {s : State} {b l : Nat} (hb : b < 8) (hn : (s.bus b).confirmed ≠ some l)
    (hc : (s.bus b).commanded ≠ some l) : s.tapMade l b = s.strayMake b l := by
  simp [State.tapMade, Config.buses, Nat.not_le.2 hb, hn, hc]

/-- A stray make: a ticket about the line, and a TAP_RELEASE whose timer is the stray release's own (R64). -/
theorem State.strayMake_records (s : State) (b l : Nat) :
    (s.strayMake b l).bus b = { s.bus b with stray := some ⟨l, .tied s.link.serial⟩ } ∧
    (s.strayMake b l).ownFrames = s.ownFrames ++ [⟨tapReleaseFrame l b, s.link.serial, .stray b⟩] ∧
    (s.strayMake b l).chans = s.chans ∧
    (s.strayMake b l).tickets = (s.raise .line l .relayStray none).tickets ∧
    (s.strayMake b l).desk = (s.raise .line l .relayStray none).desk := by
  simp [State.strayMake, State.ownFrames]

/-- The bus of a stray relay that has not let go in time: out of service, unless a claim holds it, which is marked (R65). -/
def Bus.stuckBy (r : Bus) (l : Nat) : Bus :=
  match r.state with
  | .free | .lockout _ => { r with stray := none, stuckLine := some l, state := .outOfService }
  | .claimed _ | .claimedRestart => { r with stray := none, stuckLine := some l, oosMark := true }
  | .outOfService => { r with stray := none, stuckLine := some l }

theorem State.strayTimeout_eq (s : State) (b l : Nat) : s.strayTimeout b l =
    (s.setBus b ((s.bus b).stuckBy l)).raise .bus b .relayStuck (some ⟨some l, none⟩) := by
  cases hs : (s.bus b).state <;> simp only [State.strayTimeout, Bus.stuckBy, hs]

section StuckBy

variable (r : Bus) (l : Nat)

theorem Bus.stuckBy_names : (r.stuckBy l).stray = none ∧ (r.stuckBy l).stuckLine = some l := by
  unfold Bus.stuckBy
  split <;> exact ⟨rfl, rfl⟩

variable {r}

theorem Bus.stuckBy_unclaimed (h : r.state = .free ∨ ∃ e, r.state = .lockout e) : (r.stuckBy l).state = .outOfService := by
  obtain h | ⟨e, h⟩ := h <;> simp [Bus.stuckBy, h]

theorem Bus.stuckBy_claimed (h : r.state = .claimedRestart ∨ ∃ g, r.state = .claimed g) :
    (r.stuckBy l).state = r.state ∧ (r.stuckBy l).oosMark = true := by
  obtain h | ⟨g, h⟩ := h <;> simp [Bus.stuckBy, h]

theorem Bus.stuckBy_outOfService (h : r.state = .outOfService) :
    r.stuckBy l = { r with stray := none, stuckLine := some l } := by
  simp [Bus.stuckBy, h]

end StuckBy

section StrayTimer

variable {s : State} {b l : Nat} {till : Time} (hs : (s.bus b).stray = some ⟨l, .running till⟩)
include hs

theorem exec_strayReleaseTimerExpiry_due (h : (s.now - till).toNat < 2 ^ 47) :
    exec (.strayReleaseTimerExpiry b) s = .next (s.strayTimeout b l) := by
  simp [exec, execStrayReleaseTimerExpiry, hs, Timer.due, reached_of_lt h]

theorem exec_strayReleaseTimerExpiry_early (h : 2 ^ 47 ≤ (s.now - till).toNat) :
    exec (.strayReleaseTimerExpiry b) s = .next s := by
  simp [exec, execStrayReleaseTimerExpiry, hs, Timer.due, not_reached_of_le h]

end StrayTimer

section Lockout

variable {s : State} {b : Nat} {till : Time} (hs : (s.bus b).state = .lockout till)
include hs

theorem exec_lockoutEnd_due (h : (s.now - till).toNat < 2 ^ 47) :
    exec (.lockoutEnd b) s = .next (s.setBus b { s.bus b with state := .free }).wantAttempt.settle := by
  simp only [exec, execLockoutEnd, hs, reached_of_lt h, if_true]
  rfl

theorem exec_lockoutEnd_early (h : 2 ^ 47 ≤ (s.now - till).toNat) : exec (.lockoutEnd b) s = .next s := by
  simp [exec, execLockoutEnd, hs, not_reached_of_le h]

end Lockout

/-- A break that is a relay's drop in a test, the one a release waits for, or a late break: it ends no stray release. -/
def State.TakesBreak (s : State) (l b : Nat) : Prop :=
  (∃ h, (s.bus b).state = .claimed h ∧
    (((s.chan h).stage ∈ [Stage.sourcing, .settling, .measuring] ∧ (s.bus b).confirmed = some l) ∨
      ((s.chan h).stage = .releasing ∧ (s.bus b).commanded = some l))) ∨
  ((s.bus b).state = .claimedRestart ∧ (s.bus b).commanded = some l) ∨
  ((s.bus b).state = .outOfService ∧ ((s.bus b).commanded = some l ∨ (s.bus b).confirmed = some l))

theorem State.not_takesBreak_of_unclaimed {s : State} {b : Nat}
    (hs : (s.bus b).state = .free ∨ ∃ e, (s.bus b).state = .lockout e) (l : Nat) : ¬ s.TakesBreak l b := by
  rcases hs with hs | ⟨e, hs⟩ <;> simp [State.TakesBreak, hs]

theorem State.tapBroken_untaken {s : State} {l b : Nat} (hb : b < 8) (ht : ¬ s.TakesBreak l b) :
    s.tapBroken l b = s.strayBroken l b := by
  rw [State.tapBroken, if_neg (by exact Nat.not_le.2 hb)]
  dsimp only
  cases hs : (s.bus b).state with
  | claimed h => cases hst : (s.chan h).stage <;> simp_all [State.TakesBreak]
  | claimedRestart | outOfService => simp_all [State.TakesBreak]
  | free | lockout => rfl

theorem State.taps_beyond {b : Nat} (hb : 8 ≤ b) (s : State) (l : Nat) : s.tapBroken l b = s ∧ s.tapMade l b = s :=
  ⟨if_pos hb, if_pos hb⟩

/-- Settles O23: the stray make, the stray release's timer by what the bus is claimed for, the lockout's end, then the breaks that
no test and no release takes. -/
theorem strayRelaysAndLockouts : Obligations.StrayRelaysAndLockouts := by
  refine ⟨fun s b l hb hn hc => ?_,
    fun s b l till hs => ⟨fun hdue => ⟨_, exec_strayReleaseTimerExpiry_due hs hdue, ?_⟩,
      exec_strayReleaseTimerExpiry_early hs⟩,
    fun s b till hs => ⟨exec_lockoutEnd_due hs, exec_lockoutEnd_early hs⟩,
    fun s b l hb hn hc => ?_,
    fun s b l m timer hb hs hstray => ?_,
    fun s b l => ⟨fun hb ht => ⟨fun timer hstray => ?_, fun hstray => ?_⟩, fun hb => State.taps_beyond hb s l⟩⟩
  · rw [State.tapMade_stray hb hn hc]
    obtain ⟨hbus, hown, hchans, -, -⟩ := s.strayMake_records b l
    exact ⟨hbus, hown, hchans⟩
  · have hbus : (s.strayTimeout b l).bus b = (s.bus b).stuckBy l := by simp [State.strayTimeout_eq]
    obtain ⟨hstray, hstuck⟩ := (s.bus b).stuckBy_names l
    dsimp only
    rw [hbus, State.strayTimeout_eq]
    refine ⟨hstray, hstuck, by simp, Bus.stuckBy_unclaimed l,
      Bus.stuckBy_claimed l, Bus.stuckBy_outOfService l, fun m => State.raise_access .., fun hroom => ?_⟩
    obtain ⟨k, hk, hkind, hsubject, hcls, hstate, -, hev⟩ := State.raise_makes
      (s.setBus b ((s.bus b).stuckBy l)) .bus b .relayStuck (some ⟨some l, none⟩) hroom
    exact ⟨k, hk, hkind, hsubject, hcls, hstate, hev⟩
  · rw [State.tapMade_stray hb hn hc]
    obtain ⟨-, -, -, htickets, hdesk⟩ := s.strayMake_records b l
    exact ⟨htickets, hdesk⟩
  · rw [State.tapBroken_untaken hb (State.not_takesBreak_of_unclaimed hs l),
      State.tapBroken_untaken hb (State.not_takesBreak_of_unclaimed hs m)]
    refine ⟨State.strayBroken_match hstray, fun hm => State.strayBroken_other fun timer' h => hm ?_⟩
    rw [hstray] at h
    cases h
    rfl
  · rw [State.tapBroken_untaken hb ht, State.strayBroken_match hstray]
  · rw [State.tapBroken_untaken hb ht, State.strayBroken_other hstray]

end Sys2Proof.Machine

namespace Sys2Proof.Machine

/-! ## O49: LOAD_BUSMAP and CLEAR_STUCK (R52, R66, R172) -/

/-- The bus, and no other, names the line as its stuck line. -/
def State.NamedBy (s : State) (b l : Nat) : Prop :=
  (s.bus b).stuckLine = some l ∧ ∀ c, c < 8 → c ≠ b → (s.bus c).stuckLine ≠ some l

theorem mem_allBuses (b : Nat) : b ∈ allBuses ↔ b < 8 := List.mem_range (n := 8)

theorem State.stuckElsewhere_iff (s : State) (b l : Nat) :
    s.stuckElsewhere b l = true ↔ ∃ c, c < 8 ∧ c ≠ b ∧ (s.bus c).stuckLine = some l := by
  simp [State.stuckElsewhere, mem_allBuses]

section Unstick

variable (s : State) (b : Nat)

/-- The line that the bus alone names is restored; a line that another bus names, and the lines of a bus that names none, stay. -/
def State.restored : State :=
  match (s.bus b).stuckLine with
  | some line => if s.stuckElsewhere b line then s else s.restoreLine line
  | none => s

theorem State.unstick_eq : s.unstick b = ((s.restored b).setBus b
    { s.bus b with stuckLine := none, oosMark := false }).clearTicket .bus b .relayStuck := by
  have hbus : (s.restored b).bus b = s.bus b := by
    unfold State.restored
    (repeat' split) <;> simp [State.bus]
  rw [← hbus]
  rfl

theorem State.restored_keeps : (s.restored b).tickets = s.tickets ∧ (s.restored b).desk = s.desk := by
  unfold State.restored
  (repeat' split) <;> simp

theorem State.unstick_bus : (s.unstick b).bus b = { s.bus b with stuckLine := none, oosMark := false } := by
  simp [State.unstick_eq]

theorem State.unstick_lines : (s.unstick b).lines = (s.restored b).lines ∧
    (s.unstick b).flushes = (s.restored b).flushes := by
  simp [State.unstick_eq]

/-- The ticket and the notice queue are as the clear request leaves them. -/
theorem State.unstick_clears : (s.unstick b).tickets = (s.clearTicket .bus b .relayStuck).tickets ∧
    (s.unstick b).desk = (s.clearTicket .bus b .relayStuck).desk := by
  obtain ⟨htickets, hdesk⟩ := s.restored_keeps b
  rw [State.unstick_eq]
  exact State.clearTicket_congr (v := (s.restored b).setBus b _) htickets hdesk ..

variable {s b} {l : Nat}

theorem State.restored_named (h : s.NamedBy b l) : s.restored b = s.restoreLine l := by
  obtain ⟨hname, hother⟩ := h
  have helse : ¬ s.stuckElsewhere b l = true := by simpa [State.stuckElsewhere_iff] using hother
  simp only [State.restored, hname]
  exact if_neg helse

theorem State.restored_elsewhere {c : Nat} (hname : (s.bus b).stuckLine = some l) (hc : c < 8) (hne : c ≠ b)
    (hother : (s.bus c).stuckLine = some l) : s.restored b = s := by
  simp only [State.restored, hname]
  exact if_pos ((s.stuckElsewhere_iff b l).2 ⟨c, hc, hne, hother⟩)

theorem State.restoreLine_stuck (ha : (s.line l).access = .stuck) : s.restoreLine l = s.setAccess l .free := by
  simp only [State.restoreLine, ha]

theorem State.restoreLine_flushing {before after : List Flush} {out : Option HoldRec} {mark : Bool}
    (ha : (s.line l).access = .flushing) (hs : s.flushes = before ++ ⟨l, out, mark⟩ :: after)
    (hb : ∀ f ∈ before ++ after, f.line ≠ l) :
    s.restoreLine l = { s with flushes := before ++ ⟨l, out, false⟩ :: after } := by
  have hf : s.flush l = some ⟨l, out, mark⟩ := by rw [State.flush, hs, flush_found hb]
  have hreplaced := flush_replaced (after := after) (out := out) (stuck := mark) (⟨l, out, false⟩ : Flush) rfl hb
  simp only [State.restoreLine, ha, hf, State.setFlush, hs, hreplaced]

end Unstick

/-- What an accepted CLEAR_STUCK leaves of the ticket, of the notices, and of the line that the bus names (R48, R66). -/
structure State.Unstuck (s : State) (b : Nat) (u : State) : Prop where
  tickets : u.tickets = (s.clearTicket .bus b .relayStuck).tickets
  desk : u.desk = (s.clearTicket .bus b .relayStuck).desk
  stuck : ∀ l, s.NamedBy b l → (s.line l).access = .stuck → (u.line l).access = .free
  flushing : ∀ l before out mark after, s.NamedBy b l → (s.line l).access = .flushing →
    s.flushes = before ++ ⟨l, out, mark⟩ :: after → (∀ f ∈ before ++ after, f.line ≠ l) →
    u.flushes = before ++ ⟨l, out, false⟩ :: after ∧ u.lines = s.lines
  elsewhere : ∀ l c, (s.bus b).stuckLine = some l → c < 8 → c ≠ b → (s.bus c).stuckLine = some l → u.line l = s.line l

theorem State.unstick_unstuck (s : State) (b : Nat) : s.Unstuck b (s.unstick b) := by
  obtain ⟨htickets, hdesk⟩ := s.unstick_clears b
  obtain ⟨hlines, hflushes⟩ := s.unstick_lines b
  refine ⟨htickets, hdesk, fun l hname ha => ?_, fun l before out mark after hname ha hs hb => ?_,
    fun l c hname hc hne hother => ?_⟩
  · rw [State.line_congr hlines, State.restored_named hname, State.restoreLine_stuck ha]
    simp [State.setAccess]
  · rw [hlines, hflushes, State.restored_named hname, State.restoreLine_flushing ha hs hb]
    exact ⟨rfl, rfl⟩
  · rw [State.line_congr hlines, State.restored_elsewhere hname hc hne hother]

/-- The bus of an accepted CLEAR_STUCK is FREE again where it was out of service, before its stuck line is restored (R66). -/
def State.busFreed (s : State) (b : Nat) : State :=
  s.setBus b { s.bus b with state := .free, commanded := none, confirmed := none }

theorem State.busFreed_keeps (s : State) (b l : Nat) : (s.busFreed b).line l = s.line l ∧ (s.busFreed b).lines = s.lines ∧
    (s.busFreed b).flushes = s.flushes ∧ (s.busFreed b).tickets = s.tickets ∧ (s.busFreed b).desk = s.desk :=
  ⟨rfl, rfl, rfl, rfl, rfl⟩

theorem State.returnBus_eq (s : State) (b : Nat) : s.returnBus b = ((s.busFreed b).unstick b).wantAttempt := rfl

theorem State.returnBus_bus (s : State) (b : Nat) : (s.returnBus b).bus b = { s.bus b with
    state := .free, commanded := none, confirmed := none, stuckLine := none, oosMark := false } := by
  rw [State.returnBus_eq, State.wantAttempt_bus, State.unstick_bus]
  simp [State.busFreed]

theorem State.busFreed_stuckLine (s : State) (b c : Nat) : ((s.busFreed b).bus c).stuckLine = (s.bus c).stuckLine := by
  by_cases hc : c = b <;> simp [State.busFreed, hc]

section Unstuck

variable {s u : State} {b : Nat}

theorem State.Unstuck.wantAttempt (h : s.Unstuck b u) : s.Unstuck b u.wantAttempt :=
  ⟨h.tickets, h.desk, h.stuck, h.flushing, h.elsewhere⟩

theorem State.Unstuck.of_busFreed (h : (s.busFreed b).Unstuck b u) : s.Unstuck b u := by
  obtain ⟨htickets, hdesk, hstuck, hflushing, helse⟩ := h
  obtain ⟨htickets', hdesk'⟩ := State.clearTicket_congr (v := s.busFreed b) (w := s) rfl rfl .bus b .relayStuck
  simp only [State.NamedBy, State.busFreed_stuckLine, State.busFreed_keeps] at hstuck hflushing helse
  exact ⟨htickets.trans htickets', hdesk.trans hdesk', hstuck, hflushing, helse⟩

end Unstuck

theorem State.returnBus_unstuck (s : State) (b : Nat) : s.Unstuck b (s.returnBus b) :=
  ((s.busFreed b).unstick_unstuck b).wantAttempt.of_busFreed

/-- What a clear request does to the tickets depends on them alone (R172). -/
theorem State.clearTicket_tickets_congr {v w : State} (ht : v.tickets = w.tickets) (k : SubjectKind) (n : Nat)
    (c : FaultClass) : (v.clearTicket k n c).tickets = (w.clearTicket k n c).tickets := by
  unfold State.clearTicket State.findTicket
  rw [ht]
  (repeat' split) <;> simp [State.putTicket, ht]

section BusCommands

variable {s : State} {tag n : Byte} {ps : Bytes} {rest : List Bytes}

section LoadBusmap

variable {x y : Byte} (hr : s.Ready .loadBusmap tag (n :: x :: y :: ps) rest)
include hr

theorem exec_loadBusmap_beyond (hb : 8 ≤ n.toNat) : exec .loadBusmap s = .next (s.answered rest tag .badParam []) := by
  rw [exec_deskHandler_ready rfl hr, ← State.taking_respond hr.normal]
  exact congrArg _ (if_pos hb)

theorem exec_loadBusmap_inUse (hb : n.toNat < 8) (hs : (s.bus n.toNat).state ≠ .free) :
    exec .loadBusmap s = .next (s.answered rest tag .inUse []) := by
  rw [exec_deskHandler_ready rfl hr, ← State.taking_respond hr.normal]
  exact congrArg _ ((if_neg (Nat.not_le.2 hb)).trans (if_neg hs))

theorem exec_loadBusmap_free (hb : n.toNat < 8) (hs : (s.bus n.toNat).state = .free) :
    exec .loadBusmap s = .next ((s.setBus n.toNat { s.bus n.toNat with
      reach := BitVec.ofNat 16 (x.toNat * 256 + y.toNat) }).answered rest tag .ok []) := by
  rw [exec_deskHandler_ready rfl hr, ← State.taking_respond (s := s.setBus n.toNat _) hr.normal]
  exact congrArg _ ((if_neg (Nat.not_le.2 hb)).trans (if_pos hs))

end LoadBusmap

section ClearStuck

variable (hr : s.Ready .clearStuck tag (n :: ps) rest)
include hr

theorem exec_clearStuck_beyond (hb : 8 ≤ n.toNat) : exec .clearStuck s = .next (s.answered rest tag .badParam []) := by
  rw [exec_deskHandler_ready rfl hr, ← State.taking_respond hr.normal]
  exact congrArg _ (if_pos hb)

variable (hb : n.toNat < 8)
include hb

theorem exec_clearStuck_outOfService (hs : (s.bus n.toNat).state = .outOfService) :
    exec .clearStuck s = .next (((s.taking rest).returnBus n.toNat).settle.respond tag .ok []) := by
  rw [exec_deskHandler_ready rfl hr]
  exact congrArg _ ((if_neg (Nat.not_le.2 hb)).trans (if_pos hs))

theorem exec_clearStuck_marked (hs : (s.bus n.toNat).state ≠ .outOfService) (hm : (s.bus n.toNat).oosMark = true) :
    exec .clearStuck s = .next (((s.taking rest).unstick n.toNat).respond tag .ok []) := by
  rw [exec_deskHandler_ready rfl hr]
  exact congrArg _ ((if_neg (Nat.not_le.2 hb)).trans ((if_neg hs).trans (if_pos hm)))

theorem exec_clearStuck_notFound (hs : (s.bus n.toNat).state ≠ .outOfService) (hm : (s.bus n.toNat).oosMark = false) :
    exec .clearStuck s = .next (s.answered rest tag .notFound []) := by
  rw [exec_deskHandler_ready rfl hr, ← State.taking_respond hr.normal]
  exact congrArg _ ((if_neg (Nat.not_le.2 hb)).trans ((if_neg hs).trans (if_neg (by simpa using hm))))

end ClearStuck

end BusCommands

/-- Settles O49: LOAD_BUSMAP by the bus's state, then CLEAR_STUCK for a bus out of service, a marked one and any other. -/
theorem busCommands : Obligations.BusCommands := by
  refine ⟨fun s tag n ps rest => ⟨fun x y hr => ⟨exec_loadBusmap_beyond hr, exec_loadBusmap_inUse hr,
      exec_loadBusmap_free hr⟩, fun hr => ⟨exec_clearStuck_beyond hr, exec_clearStuck_notFound hr, fun hb hs => ?_,
      fun hb hs hm => ?_⟩⟩, fun s tag n ps rest hr hb hacc => ?_⟩
  · obtain ⟨-, -, hstuck, -, helse⟩ := (s.taking rest).returnBus_unstuck n.toNat
    exact ⟨_, exec_clearStuck_outOfService hr hb hs, State.returnBus_bus .., rfl, by simp [State.taking],
      by simp [State.taking], fun l hname ha hother => hstuck l ⟨hname, hother⟩ ha, helse⟩
  · exact ⟨_, exec_clearStuck_marked hr hb hs hm, by rw [State.respond_bus, State.unstick_bus]; rfl, by simp [State.taking],
      by simp [State.respond_desk, Result.code]⟩
  · obtain ⟨u, hu, hout, hmarked⟩ : ∃ u, (s.taking rest).Unstuck n.toNat u ∧
        ((s.bus n.toNat).state = .outOfService → exec .clearStuck s = .next (u.settle.respond tag .ok [])) ∧
        ((s.bus n.toNat).state ≠ .outOfService → exec .clearStuck s = .next (u.respond tag .ok [])) := by
      by_cases hs : (s.bus n.toNat).state = .outOfService
      · exact ⟨_, State.returnBus_unstuck .., fun _ => exec_clearStuck_outOfService hr hb hs, fun hn => absurd hs hn⟩
      · exact ⟨_, State.unstick_unstuck .., fun h => absurd h hs,
          fun _ => exec_clearStuck_marked hr hb hs (hacc.resolve_left hs)⟩
    obtain ⟨htickets, hdesk, hstuck, hflushing, -⟩ := hu
    exact ⟨u, htickets.trans (State.clearTicket_tickets_congr (v := s.taking rest) (w := s) rfl ..), hdesk,
      fun l hname ha hother => hstuck l ⟨hname, hother⟩ ha,
      fun l before out mark after hname ha hother => hflushing l before out mark after ⟨hname, hother⟩ ha, hout, hmarked⟩

end Sys2Proof.Machine

namespace Sys2Proof.Machine

/-! ## O52: ABORT (R72, R92, R180) -/

section ReadAbort

variable {x n m : Byte} {ps : Bytes}

theorem readAbort_selector (h : 1 < x.toNat) : readAbort (x :: n :: ps) = none := by
  have h0 : x ≠ 0 := by rintro rfl; exact absurd h (by decide)
  have h1 : x ≠ 1 := by rintro rfl; exact absurd h (by decide)
  simp only [readAbort, if_neg h0, if_neg h1]

theorem readAbort_channel (h : n.toNat < 4) : readAbort (0 :: n :: ps) = some (.channel n.toNat) := if_pos h

theorem readAbort_channel_beyond (h : 4 ≤ n.toNat) : readAbort (0 :: n :: ps) = none := if_neg (Nat.not_lt.2 h)

theorem readAbort_line (h : pair n m < 4096) : readAbort (1 :: n :: m :: ps) = some (.line (pair n m)) := if_pos h

theorem readAbort_line_beyond (h : 4096 ≤ pair n m) : readAbort (1 :: n :: m :: ps) = none := if_neg (Nat.not_lt.2 h)

end ReadAbort

section Abort

variable {s : State} {tag : Byte} {ps : Bytes} {rest : List Bytes} (hr : s.Ready .abort tag ps rest)
include hr

theorem exec_abort_unread (h : readAbort ps = none) : exec .abort s = .next (s.answered rest tag .badParam []) := by
  rw [exec_deskHandler_ready rfl hr, ← State.taking_respond hr.normal]
  simp only [deskHandler, State.doAbort, h, State.badParam]

variable {q : AbortTarget} (hq : readAbort ps = some q)
include hq

theorem exec_abort_nothing (h : s.abortChannel q = none) : exec .abort s = .next (s.answered rest tag .notFound []) := by
  have hfound : (s.taking rest).abortChannel q = none := by rw [← h]; cases q <;> rfl
  rw [exec_deskHandler_ready rfl hr, ← State.taking_respond hr.normal]
  simp only [deskHandler, State.doAbort, hq, hfound]

theorem exec_abort_found {h : Nat} (hh : s.abortChannel q = some h) :
    exec .abort s = .next ((s.taking rest).abortOn h tag) := by
  have hfound : (s.taking rest).abortChannel q = some h := by rw [← hh]; cases q <;> rfl
  rw [exec_deskHandler_ready rfl hr]
  simp only [deskHandler, State.doAbort, hq, hfound]

end Abort

section AbortOn

variable {s : State} {h : Nat} {tag : Byte}

theorem State.abortOn_rest (hs : (s.chan h).stage ∈ [Stage.idle, .outOfService]) :
    s.abortOn h tag = s.respond tag .notFound [] := by
  obtain hs | hs : (s.chan h).stage = .idle ∨ (s.chan h).stage = .outOfService := by simpa using hs
  all_goals simp only [State.abortOn, hs]

theorem State.abortOn_calibrating (hs : (s.chan h).stage = .calibrating) : s.abortOn h tag = s.respond tag .busy [] := by
  simp only [State.abortOn, hs]

theorem State.abortOn_active (ha : (s.chan h).stage.active = true) :
    s.abortOn h tag = (s.awaitAbort h tag).endByCause h .aborted := by
  unfold State.abortOn
  cases hs : (s.chan h).stage with
  | tapping | sourcing | settling | measuring => rfl
  | idle | calibrating | releasing | outOfService => rw [hs] at ha; cases ha

/-- In RELEASING the outcome stays, but for a pending handover, which is given up as ABORTED (R72). -/
theorem State.abortOn_releasing {t : TestRec} (hs : (s.chan h).stage = .releasing) (ht : (s.chan h).test = some t) :
    s.abortOn h tag = s.setChan h { s.chan h with
      pendingAbort := some tag, handover := false
      test := some (if (s.chan h).handover then { t with outcome := some .aborted } else t) } := by
  simp only [State.abortOn, hs, State.abortHandover, State.awaitAbort, State.setChan_chan, if_true]
  cases (s.chan h).handover <;> simp [ht]

end AbortOn

/-- Settles O52: the parameters that name nothing, then the channel an ABORT finds, stage by stage. -/
theorem abortCommand : Obligations.AbortCommand := by
  refine ⟨fun s tag x n extra rest hr => ⟨fun hbad => exec_abort_unread hr ?_, fun m more hx hextra => ?_,
    fun h htarget => ?_⟩, fun s tag n rest hr => exec_abort_unread hr rfl⟩
  · rcases hbad with hx | ⟨rfl, hn⟩
    · exact readAbort_selector hx
    · exact readAbort_channel_beyond hn
  · subst hx hextra
    exact ⟨fun hl => exec_abort_unread hr (readAbort_line_beyond hl),
      fun hl hnone => exec_abort_nothing hr (readAbort_line hl) hnone⟩
  · have hexec : exec .abort s = .next ((s.taking rest).abortOn h tag) := by
      rcases htarget with ⟨rfl, rfl, hh⟩ | ⟨m, more, rfl, rfl, hl, hline⟩
      · exact exec_abort_found hr (readAbort_channel hh) rfl
      · exact exec_abort_found hr (readAbort_line hl) hline
    rw [hexec, ← State.taking_respond hr.normal, ← State.taking_respond hr.normal]
    refine ⟨fun hs => congrArg _ (State.abortOn_rest hs), fun hs => congrArg _ (State.abortOn_calibrating hs),
      fun t b ha ht hb => ⟨_, rfl, ?_⟩, fun t hs ht => congrArg _ (State.abortOn_releasing hs ht)⟩
    rw [State.abortOn_active (by exact ha)]
    obtain ⟨hchan, hline, -, -⟩ := State.endByCause_records (s := (s.taking rest).awaitAbort h tag) (h := h) (t := t) (b := b)
      (by simpa [State.awaitAbort] using ha) (by simpa [State.awaitAbort] using ht) (by simpa [State.awaitAbort] using hb)
      .aborted
    rw [hchan, hline]
    exact ⟨rfl, rfl, by simp [State.awaitAbort], rfl, by simp [State.taking]⟩

end Sys2Proof.Machine

namespace Sys2Proof.Machine

/-! ## Admission (R53, R54) -/

theorem mem_allChannels (h : Nat) : h ∈ allChannels ↔ h < 4 := List.mem_range (n := 4)

theorem State.idleChannel_eq_some {s : State} {h : Nat} : s.idleChannel = some h ↔
    h < 4 ∧ (s.chan h).stage = .idle ∧ ∀ g, g < h → (s.chan g).stage ≠ .idle := by
  show (List.range 4).find? _ = some h ↔ _
  simp [List.find?_range_eq_some, and_left_comm]

theorem State.idleChannel_eq_none {s : State} : s.idleChannel = none ↔ ∀ h, h < 4 → (s.chan h).stage ≠ .idle := by
  simp [State.idleChannel, List.find?_eq_none, mem_allChannels]

theorem State.freeBus_eq_none_iff {s : State} {l : Nat} : s.freeBus l = none ↔ ∀ b, ¬ (b < 8 ∧ s.BusFits l b) := by
  simp only [State.freeBus, List.find?_eq_none, mem_allBuses, State.busFits_iff, not_and]

/-! ### The victim (R69) -/

/-- A ROUTINE test in TAPPING to MEASURING whose bus, or some free bus, reaches the line. -/
def State.Eligible (s : State) (l h : Nat) : Prop :=
  h < 4 ∧ (s.chan h).stage.active = true ∧ (∃ v, (s.chan h).test = some v ∧ v.priority = .routine) ∧
    ((∃ b, b < 8 ∧ s.BusFits l b) ∨ ∃ b, (s.chan h).bus = some b ∧ (s.bus b).reach.getLsbD (l / 256) = true)

theorem Channel.holdsRoutine_iff (c : Channel) : c.holdsRoutine = true ↔ ∃ v, c.test = some v ∧ v.priority = .routine := by
  unfold Channel.holdsRoutine
  cases c.test <;> simp

theorem State.freeBus_isSome_iff (s : State) (l : Nat) : (s.freeBus l).isSome = true ↔ ∃ b, b < 8 ∧ s.BusFits l b := by
  rw [Option.isSome_iff_ne_none, ne_eq, State.freeBus_eq_none_iff]
  simp

theorem State.eligible_iff (s : State) (l h : Nat) : h ∈ allChannels.filter (s.eligible l) ↔ s.Eligible l h := by
  rw [List.mem_filter, mem_allChannels, State.Eligible, State.eligible, Bool.and_eq_true, Bool.or_eq_true, Channel.candidate,
    Bool.and_eq_true, Channel.holdsRoutine_iff, State.freeBus_isSome_iff]
  cases (s.chan h).bus <;> simp [Bus.reaches, and_comm, and_left_comm]

/-- The later of the best channel so far and the next one; the best so far among equals. -/
def laterStarted (started : Nat → Nat) (best : Option Nat) (h : Nat) : Option Nat :=
  match best with
  | none => some h
  | some g => if started g < started h then some h else some g

theorem State.victim_eq (s : State) (l : Nat) : s.victim l =
    (allChannels.filter (s.eligible l)).foldl (laterStarted fun h => (s.chan h).started) none := rfl

section Latest

variable {started : Nat → Nat} {h : Nat}

theorem foldl_laterStarted_some (L : List Nat) (g : Nat) : ∃ k ∈ g :: L, L.foldl (laterStarted started) (some g) = some k := by
  induction L generalizing g with
  | nil => exact ⟨g, by simp, rfl⟩
  | cons a L ih =>
    by_cases hlt : started g < started a
    · obtain ⟨k, hk, he⟩ := ih a
      exact ⟨k, List.mem_cons_of_mem _ hk, by simpa [laterStarted, hlt] using he⟩
    · obtain ⟨k, hk, he⟩ := ih g
      refine ⟨k, ?_, by simpa [laterStarted, hlt] using he⟩
      rcases List.mem_cons.1 hk with rfl | hk <;> simp [*]

/-- Nothing started after the best so far takes its place. -/
theorem foldl_laterStarted_stays {L : List Nat} (hL : ∀ g ∈ L, started g ≤ started h) :
    L.foldl (laterStarted started) (some h) = some h := by
  induction L with
  | nil => rfl
  | cons a L ih =>
    rw [List.foldl_cons, laterStarted, if_neg (Nat.not_lt.2 (hL a (by simp)))]
    exact ih fun g hg => hL g (by simp [hg])

/-- The first of the latest is found: those before it started earlier, those after it no later. -/
theorem foldl_laterStarted_first {L K : List Nat} (hL : ∀ g ∈ L, started g < started h)
    (hK : ∀ g ∈ K, started g ≤ started h) : (L ++ h :: K).foldl (laterStarted started) none = some h := by
  rw [List.foldl_append, List.foldl_cons]
  have hbest : laterStarted started (L.foldl (laterStarted started) none) h = some h := by
    cases L with
    | nil => rfl
    | cons a L =>
      obtain ⟨k, hk, he⟩ := foldl_laterStarted_some (started := started) L a
      show laterStarted started (L.foldl _ (some a)) h = some h
      rw [he]
      exact if_pos (hL k hk)
  rw [hbest]
  exact foldl_laterStarted_stays hK

end Latest

theorem State.victim_eq_none {s : State} {l : Nat} : s.victim l = none ↔ ∀ g, ¬ s.Eligible l g := by
  simp only [← State.eligible_iff, ← List.eq_nil_iff_forall_not_mem]
  rw [State.victim_eq]
  cases allChannels.filter (s.eligible l) with
  | nil => simp
  | cons a L =>
    obtain ⟨k, -, hk⟩ := foldl_laterStarted_some (started := fun h => (s.chan h).started) L a
    simp only [List.foldl_cons, laterStarted, hk]
    simp

/-- The victim is the eligible channel whose test started last, the lowest among equals. -/
theorem State.victim_eq_some {s : State} {l h : Nat} (he : s.Eligible l h) (hlast : ∀ g, s.Eligible l g →
    (s.chan g).started < (s.chan h).started ∨ ((s.chan g).started = (s.chan h).started ∧ h ≤ g)) :
    s.victim l = some h := by
  have hsorted : (allChannels.filter (s.eligible l)).Pairwise (· < ·) := List.Pairwise.filter _ (by decide)
  have hmem := (s.eligible_iff l h).2 he
  have hall : ∀ g ∈ allChannels.filter (s.eligible l), (s.chan g).started < (s.chan h).started ∨
      ((s.chan g).started = (s.chan h).started ∧ h ≤ g) := fun g hg => hlast g ((s.eligible_iff l g).1 hg)
  rw [State.victim_eq]
  obtain ⟨L, K, hLK⟩ := List.append_of_mem hmem
  rw [hLK] at hsorted hall ⊢
  obtain ⟨-, -, hbefore⟩ := List.pairwise_append.1 hsorted
  refine foldl_laterStarted_first (fun g hg => ?_) fun g hg => ?_
  · have hlt : g < h := hbefore g hg h (by simp)
    exact (hall g (by simp [hg])).resolve_right fun ⟨_, hle⟩ => Nat.not_le.2 hlt hle
  · have := hall g (by simp [hg])
    omega

end Sys2Proof.Machine

namespace Sys2Proof.Machine

/-! ### The rows of admission (R53) -/

/-- The line is inhibited and the request ROUTINE. -/
def State.Inhibited (s : State) (q : Request) : Prop := q.urgent = false ∧ (s.line q.line).inhibit = true

/-- The line's hazard flag is set and the request is not URGENT with OVERRIDE. -/
def State.Hazardous (s : State) (q : Request) : Prop :=
  (s.line q.line).hazard = true ∧ ¬ (q.urgent = true ∧ q.overrideHazard = true)

/-- The line is not FREE, or its condition refuses the request. -/
def State.Busy (s : State) (q : Request) : Prop :=
  (s.line q.line).access ≠ .free ∨ (s.line q.line).condition = .ringing ∨ (s.line q.line).condition = .cardDown ∨
    (((s.line q.line).condition = .offHook ∨ (s.line q.line).condition = .unknown) ∧
      ¬ (q.urgent = true ∧ q.breakIn = true))

theorem not_both_iff (a b : Bool) : (!(a && b)) = true ↔ ¬ (a = true ∧ b = true) := by cases a <;> simp

section Refusal

variable {s : State} {q : Request}

theorem State.refusal_early {r : Result} (h : s.earlyRefusal q = some r) : s.refusal q = some r := by
  simp only [State.refusal, h]

theorem State.refusal_unequipped (hc : (s.line q.line).cls = 0) : s.refusal q = some .lineUnequipped :=
  State.refusal_early (if_pos hc)

variable (hc : (s.line q.line).cls ≠ 0)
include hc

theorem State.refusal_inhibited (hi : s.Inhibited q) : s.refusal q = some .lineInhibited := by
  refine State.refusal_early ((if_neg hc).trans (if_pos ?_))
  simpa [State.Inhibited] using hi

variable (hi : ¬ s.Inhibited q)
include hi

theorem State.refusal_hazard (hh : s.Hazardous q) : s.refusal q = some .lineHazard := by
  refine State.refusal_early ((if_neg hc).trans ((if_neg ?_).trans (if_pos ?_)))
  · simpa [State.Inhibited] using hi
  · rw [Bool.and_eq_true, not_both_iff]
    exact hh

variable (hh : ¬ s.Hazardous q)
include hh

/-- The rows from LINE_BUSY down, where none above them holds. -/
theorem State.earlyRefusal_sound : s.earlyRefusal q =
    if (s.line q.line).access ≠ .free then some .lineBusy
    else if (s.line q.line).condition = .ringing ∨ (s.line q.line).condition = .cardDown then some .lineBusy
    else if ((s.line q.line).condition = .offHook ∨ (s.line q.line).condition = .unknown) ∧
      !(q.urgent && q.breakIn) then some .lineBusy
    else if (s.planSteps q.plan).isNone then some .planInvalid else none := by
  refine (if_neg hc).trans ((if_neg ?_).trans (if_neg ?_))
  · simpa [State.Inhibited] using hi
  · rw [Bool.and_eq_true, not_both_iff]
    exact hh

theorem State.refusal_busy (hb : s.Busy q) : s.refusal q = some .lineBusy := by
  refine State.refusal_early ?_
  rw [State.earlyRefusal_sound hc hi hh]
  rcases hb with ha | hr | hd | ⟨hcond, hflag⟩
  · exact if_pos ha
  · simp [hr]
  · simp [hd]
  · have hflag' : (!(q.urgent && q.breakIn)) = true := (not_both_iff ..).2 hflag
    simp only [hcond, hflag', and_self, if_true, ite_self]

variable (hb : ¬ s.Busy q)
include hb

theorem State.earlyRefusal_plan :
    s.earlyRefusal q = if (s.planSteps q.plan).isNone then some .planInvalid else none := by
  obtain ⟨ha, hr, hd, hcond⟩ : (s.line q.line).access = .free ∧ (s.line q.line).condition ≠ .ringing ∧
      (s.line q.line).condition ≠ .cardDown ∧
      ¬ (((s.line q.line).condition = .offHook ∨ (s.line q.line).condition = .unknown) ∧
        ¬ (q.urgent = true ∧ q.breakIn = true)) := by
    simpa only [State.Busy, not_or, ne_eq, not_not] using hb
  rw [State.earlyRefusal_sound hc hi hh, if_neg (not_not.2 ha), if_neg (not_or.2 ⟨hr, hd⟩), 
    if_neg (by rwa [not_both_iff])]

theorem State.refusal_plan (hp : s.planSteps q.plan = none) : s.refusal q = some .planInvalid :=
  State.refusal_early (by simp [State.earlyRefusal_plan hc hi hh hb, hp])

variable (hp : s.planSteps q.plan ≠ none)
include hp

theorem State.refusal_noIdle (hidle : s.idleChannel = none) : s.refusal q =
    if q.urgent = false ∨ s.victim q.line = none then some .noChannel else none := by
  have hearly : s.earlyRefusal q = none := by simp [State.earlyRefusal_plan hc hi hh hb, hp]
  simp [State.refusal, hearly, hidle]

theorem State.refusal_idle {h : Nat} (hidle : s.idleChannel = some h) : s.refusal q =
    if s.freeBus q.line = none then some .noBus else none := by
  have hearly : s.earlyRefusal q = none := by simp [State.earlyRefusal_plan hc hi hh hb, hp]
  simp [State.refusal, hearly, hidle]

end Refusal

theorem State.exists_idleChannel {s : State} (h : ∃ h, h < 4 ∧ (s.chan h).stage = .idle) : ∃ c, s.idleChannel = some c := by
  rw [← Option.ne_none_iff_exists', ne_eq, State.idleChannel_eq_none]
  obtain ⟨c, hc, hs⟩ := h
  exact fun hall => hall c hc hs

/-- The rows of admission, from the top (R53, R54). -/
theorem State.refusal_rows (s : State) (q : Request) :
    ((s.line q.line).cls = 0 → s.refusal q = some .lineUnequipped) ∧
    ((s.line q.line).cls ≠ 0 → s.Inhibited q → s.refusal q = some .lineInhibited) ∧
    ((s.line q.line).cls ≠ 0 → ¬ s.Inhibited q → s.Hazardous q → s.refusal q = some .lineHazard) ∧
    ((s.line q.line).cls ≠ 0 → ¬ s.Inhibited q → ¬ s.Hazardous q → s.Busy q → s.refusal q = some .lineBusy) ∧
    ((s.line q.line).cls ≠ 0 → ¬ s.Inhibited q → ¬ s.Hazardous q → ¬ s.Busy q →
      (s.planSteps q.plan = none → s.refusal q = some .planInvalid) ∧
      (s.planSteps q.plan ≠ none → (∀ h, h < 4 → (s.chan h).stage ≠ .idle) →
        ((q.urgent = false ∨ ∀ g, ¬ s.Eligible q.line g) → s.refusal q = some .noChannel) ∧
        (q.urgent = true → (∃ g, s.Eligible q.line g) → s.refusal q = none)) ∧
      (s.planSteps q.plan ≠ none → (∃ h, h < 4 ∧ (s.chan h).stage = .idle) →
        ((∀ b, ¬ (b < 8 ∧ s.BusFits q.line b)) → s.refusal q = some .noBus) ∧
        ((∃ b, b < 8 ∧ s.BusFits q.line b) → s.refusal q = none))) := by
  refine ⟨State.refusal_unequipped, State.refusal_inhibited, State.refusal_hazard, State.refusal_busy,
    fun hc hi hh hb => ⟨State.refusal_plan hc hi hh hb, fun hp hall => ?_, fun hp hidle => ?_⟩⟩
  · rw [State.refusal_noIdle hc hi hh hb hp (State.idleChannel_eq_none.2 hall)]
    refine ⟨fun h => if_pos (h.imp_right State.victim_eq_none.2), fun hu ⟨g, hg⟩ => if_neg ?_⟩
    rintro (hr | hnone)
    · simp [hu] at hr
    · exact State.victim_eq_none.1 hnone g hg
  · obtain ⟨c, hidle⟩ := State.exists_idleChannel hidle
    rw [State.refusal_idle hc hi hh hb hp hidle]
    exact ⟨fun h => if_pos (State.freeBus_eq_none_iff.2 h),
      fun ⟨b, hb⟩ => if_neg fun hnone => State.freeBus_eq_none_iff.1 hnone b hb⟩

end Sys2Proof.Machine

namespace Sys2Proof.Machine

/-! ## O51: TEST and pre-emption (R53, R54, R69, R70, R80, R81) -/

/-! ### Pre-emption (R70) -/

theorem State.discardContext_suspended (s : State) (c : Context) :
    (s.discardContext c).sweep.suspended = s.sweep.suspended := by
  unfold State.discardContext State.count State.writeRoutine
  (repeat' split) <;> rfl

theorem State.pushContext_suspended (s : State) (c : Context) : (s.pushContext c).sweep.suspended =
    if s.sweep.state = .draining then s.sweep.suspended else s.sweep.suspended ++ [c] := by
  unfold State.pushContext
  split
  · exact s.discardContext_suspended c
  · rfl

section Preempt

variable {s : State} {h b : Nat} {t v : TestRec} (hv : (s.chan h).test = some v) (hb : (s.chan h).bus = some b)
include hv hb

/-- The urgent test takes the victim's channel: no exposure, no step, and the victim's line to release. -/
theorem State.preempt_eq : s.preempt h t =
    (((s.pushContext ((s.chan h).context v)).setChan h { s.chan h with
      test := some t, step := none, releaseLine := some v.line, handover := true
      exposure := 0, peak := 0, origin := .unset, restartEnded := false }).setAccess t.line (.tapPending h)).release
        h v.line b := by
  simp only [State.preempt, hv, hb]

theorem State.preempt_records (hne : v.line ≠ t.line) :
    (s.preempt h t).chan h = { s.chan h with
      stage := .releasing, test := some t, step := none, epoch := (s.chan h).epoch + 1, releaseLine := some v.line
      handover := true, exposure := 0, peak := 0, origin := .unset, restartEnded := false, intake := Intake.cold } ∧
    ((s.preempt h t).line v.line).access = .releasePending (some h) ∧
    ((s.preempt h t).line t.line).access = .tapPending h ∧
    (s.preempt h t).bus b = { s.bus b with confirm := .tied (s.link.serial + 1) } ∧
    (s.preempt h t).ownFrames = s.ownFrames ++ [⟨idleDirective h ((s.chan h).epoch + 1), s.link.serial, .untied⟩,
      ⟨tapReleaseFrame v.line b, s.link.serial + 1, .confirm b⟩] ∧
    (s.preempt h t).sweep.suspended =
      if s.sweep.state = .draining then s.sweep.suspended else s.sweep.suspended ++ [(s.chan h).context v] := by
  rw [State.preempt_eq hv hb]
  generalize hu : (_ : State).setAccess t.line (.tapPending h) = u
  obtain ⟨hchan, hline, hbus, hown⟩ := u.release_records h v.line b
  obtain ⟨-, hlines, -⟩ := u.release_others h v.line b
  rw [hchan, hline, hbus, hown, hlines _ hne.symm]
  subst hu
  refine ⟨?_, rfl, ?_, ?_, ?_, ?_⟩
  · simp
  · simp [State.setAccess]
  · simp
  · simp [State.ownFrames]
  · simp [State.pushContext_suspended]

end Preempt

/-! ### The command (R81) -/

section ReadTest

variable {a b p pr bi ov o : Byte} {ps : Bytes}

theorem readTest_bad (h : 4096 ≤ pair a b ∨ 15 < p.toNat ∨ pr ≠ 1 ∨ 1 < bi.toNat ∨ 1 < ov.toNat ∨ 8 < o.toNat) :
    readTest (a :: b :: p :: pr :: bi :: ov :: o :: ps) = none := by
  unfold readTest
  dsimp only
  rcases Nat.lt_or_ge 1 bi.toNat with hbi | hbi
  · rw [flagOf_none hbi]
  rcases Nat.lt_or_ge 1 ov.toNat with hov | hov
  · rw [flagOf_none hov]
    cases flagOf bi.toNat <;> rfl
  rw [flagOf_flag hbi, flagOf_flag hov]
  refine if_neg fun ⟨hl, hp, hpr, ho⟩ => ?_
  have hpr : pr = 1 := BitVec.eq_of_toNat_eq hpr
  rcases h with h | h | h | h | h | h
  · exact absurd hl (Nat.not_lt.2 h)
  · omega
  · exact h hpr
  all_goals omega

theorem readTest_good (hl : pair a b < 4096) (hp : p.toNat ≤ 15) (hbi : bi.toNat ≤ 1) (hov : ov.toNat ≤ 1)
    (ho : o.toNat ≤ 8) : readTest (a :: b :: p :: 1 :: bi :: ov :: o :: ps) =
      some ⟨pair a b, p.toNat, bi == 1, ov == 1, o.toNat⟩ := by
  unfold readTest
  dsimp only
  rw [flagOf_flag hbi, flagOf_flag hov]
  exact if_pos ⟨hl, hp, rfl, ho⟩

end ReadTest

section Test

variable {s : State} {tag : Byte} {ps : Bytes} {rest : List Bytes} (hr : s.Ready .test tag ps rest)
include hr

theorem exec_test_unread (h : readTest ps = none) : exec .test s = .next (s.answered rest tag .badParam []) := by
  rw [exec_deskHandler_ready rfl hr, ← State.taking_respond hr.normal]
  simp only [deskHandler, State.doTest, h, State.badParam]

variable {q : TestParams} (hq : readTest ps = some q)
include hq

theorem exec_test_refused {r : Result} (h : s.refusal q.request = some r) :
    exec .test s = .next (s.answered rest tag r []) := by
  have hrefused : (s.taking rest).refusal q.request = some r := h
  rw [exec_deskHandler_ready rfl hr, ← State.taking_respond hr.normal]
  simp only [deskHandler, State.doTest, hq, hrefused]

variable (h : s.refusal q.request = none)
include h

theorem exec_test_idle {c b : Nat} (hc : s.idleChannel = some c) (hb : s.freeBus q.line = some b) :
    exec .test s = .next (((s.taking rest).startTest c b (s.urgentRecord q) .unset).respond tag .ok (byte1 c)) := by
  have hadmitted : (s.taking rest).refusal q.request = none := h
  have hc' : (s.taking rest).idleChannel = some c := hc
  have hb' : (s.taking rest).freeBus q.line = some b := hb
  rw [exec_deskHandler_ready rfl hr]
  simp only [deskHandler, State.doTest, State.admitUrgent, hq, hadmitted, hc', hb', Option.map_some]
  rfl

theorem exec_test_preempts {c : Nat} (hc : s.idleChannel = none) (hv : s.victim q.line = some c) :
    exec .test s = .next (((s.taking rest).preempt c (s.urgentRecord q)).settle.respond tag .ok (byte1 c)) := by
  have hadmitted : (s.taking rest).refusal q.request = none := h
  have hc' : (s.taking rest).idleChannel = none := hc
  have hv' : (s.taking rest).victim q.line = some c := hv
  rw [exec_deskHandler_ready rfl hr]
  simp only [deskHandler, State.doTest, State.admitUrgent, hq, hadmitted, hc', hv', Option.map_some]
  rfl

end Test

/-- A test begins TAPPING: its channel, its bus, its line and the TAP_CONNECT (R54, R56, R80). -/
theorem State.startTest_records (s : State) (h b : Nat) (t : TestRec) (o : Origin) :
    (s.startTest h b t o).chan h = { s.chan h with
      test := some t, origin := o, restartEnded := false, stage := .tapping, bus := some b, exposure := 0, peak := 0 } ∧
    (s.startTest h b t o).bus b = { s.bus b with
      state := .claimed h, commanded := some t.line, confirm := .tied s.link.serial } ∧
    ((s.startTest h b t o).line t.line).access = .tapPending h ∧
    (s.startTest h b t o).ownFrames = s.ownFrames ++ [⟨tapConnectFrame t.line b, s.link.serial, .confirm b⟩] := by
  obtain ⟨hchan, hbus, hline, hown⟩ := State.claimAndTap_records
    (s.setChan h { s.chan h with test := some t, origin := o, restartEnded := false }) h t.line b
  rw [State.startTest, hchan, hbus, hline, hown, State.setChan_chan, if_pos rfl]
  exact ⟨rfl, rfl, rfl, rfl⟩

theorem State.respond_ownFrames (s : State) (tag : Byte) (r : Result) (body : Bytes) :
    (s.respond tag r body).ownFrames = s.ownFrames := by
  simp [State.ownFrames]

theorem Channel.started_eq {c : Channel} {t : TestRec} (h : c.test = some t) : c.started = t.startTime.toNat := by
  simp [Channel.started, h]

/-- The eligible channel whose test started last, the lowest among equals, is the victim: the times are compared as numbers. -/
theorem State.victim_latest {s : State} {l h : Nat} (he : s.Eligible l h)
    (hlast : ∀ g x y, s.Eligible l g → (s.chan g).test = some x → (s.chan h).test = some y →
      x.startTime.toNat < y.startTime.toNat ∨ (x.startTime = y.startTime ∧ h ≤ g)) : s.victim l = some h := by
  refine State.victim_eq_some he fun g hg => ?_
  obtain ⟨-, -, ⟨y, hy, -⟩, -⟩ := he
  obtain ⟨-, -, ⟨x, hx, -⟩, -⟩ := id hg
  rw [Channel.started_eq hx, Channel.started_eq hy]
  exact (hlast g x y hg hx hy).imp_right fun ⟨ht, hle⟩ => ⟨congrArg _ ht, hle⟩

/-- Settles O51: the parameters, the refusal and the start on an IDLE channel; the pre-emption and its victim; the rows of
admission. -/
theorem testOnDemandAndPreemption : Obligations.TestOnDemandAndPreemption := by
  refine ⟨fun s tag a b p pr bi ov o extra rest hr => ⟨fun hbad => exec_test_unread hr (readTest_bad hbad),
      fun hl hp hpr hbi hov ho => ?_⟩, fun s h b t v hv hb hne => ?_, fun s q => s.refusal_rows q,
    fun s tag a b p bi ov o extra rest h hr hl hp hbi hov ho hadmitted hall he hlast => ?_,
    fun s h => State.idleChannel_eq_some⟩
  · subst hpr
    have hread := readTest_good (ps := extra) hl hp hbi hov ho
    refine ⟨fun r hrefused => exec_test_refused hr hread hrefused, fun h bus hadmitted hidle hbus =>
      ⟨_, exec_test_idle hr hread hadmitted hidle hbus, ?_⟩⟩
    obtain ⟨hchan, htaken, hline, hown⟩ := (s.taking rest).startTest_records h bus
      (s.urgentRecord ⟨pair a b, p.toNat, bi == 1, ov == 1, o.toNat⟩) .unset
    rw [State.respond_chan, State.respond_bus, State.respond_line, State.respond_ownFrames, hchan, htaken, hown]
    exact ⟨rfl, rfl, rfl, rfl, rfl, hline, rfl, rfl, by simp [State.respond_desk, State.taking, Result.code]⟩
  · obtain ⟨hchan, hreleased, hpending, hbus, hown, hsuspended⟩ := State.preempt_records hv hb hne
    exact ⟨hchan, hreleased, hpending, hbus, hown, fun hd => by rw [hsuspended, if_neg hd]; rfl,
      fun hd => by rw [hsuspended, if_pos hd]⟩
  · exact exec_test_preempts hr (readTest_good hl hp hbi hov ho) hadmitted (State.idleChannel_eq_none.2 hall)
      (State.victim_latest he hlast)

end Sys2Proof.Machine
end TestAccess


/-! PROOFS of the family of test plans and channel sequencing: LOAD_STEP and LOAD_PLAN, RETURN_HEAD and CALIBRATE, the verdict of a
repetition and the forming of a step result.

The proofs are elaborated one after another, as in the families before. -/

section TestPlans
set_option Elab.async false

namespace Sys2Proof.Machine

/-! ## O50: LOAD_STEP and LOAD_PLAN (R75 to R78) -/

/-! ### The sets of the parameters (R37, R75) -/

theorem arrangementOf_eq_some (n : Nat) (a : Arrangement) :
    arrangementOf n = some a ↔ (n, a) ∈ [(0, Arrangement.tr), (1, .tg), (2, .rg)] := by
  unfold arrangementOf
  split <;> simp_all [eq_comm]

theorem stepKindOf_eq_some (n : Nat) (a : StepKind) :
    stepKindOf n = some a ↔ (n, a) ∈ [(0, StepKind.vdc), (1, .vac), (2, .res)] := by
  unfold stepKindOf
  split <;> simp_all [eq_comm]

theorem rangeOf_eq_some (n : Nat) (a : Range) : rangeOf n = some a ↔ (n, a) ∈ [(0, Range.high), (1, .low)] := by
  unfold rangeOf
  split <;> simp_all [eq_comm]

theorem senseOf_eq_some (n : Nat) (a : Sense) : senseOf n = some a ↔ (n, a) ∈ [(0, Sense.above), (1, .below)] := by
  unfold senseOf
  split <;> simp_all [eq_comm]

theorem stepClassOf_eq_some (n : Nat) (a : FaultClass) : stepClassOf n = some a ↔
    (n, a) ∈ [(1, FaultClass.lowInsulationTg), (2, .lowInsulationRg), (3, .lowInsulationTr), (4, .loopResistance),
      (5, .foreignDc), (6, .foreignAc)] := by
  unfold stepClassOf
  split <;> simp_all [eq_comm]

theorem flagOf_eq_some (n : Nat) (a : Bool) : flagOf n = some a ↔ (n, a) ∈ [(0, false), (1, true)] := by
  unfold flagOf
  split <;> simp_all [eq_comm]

theorem slotOf_eq_some (n : Nat) (a : Option Nat) : slotOf n = some a ↔ (n < 8 ∧ a = some n) ∨ (n = 255 ∧ a = none) := by
  unfold slotOf
  grind

theorem linkOf_eq_some (n : Nat) (a : Option Nat) : linkOf n = some a ↔ (n < 128 ∧ a = some n) ∨ (n = 255 ∧ a = none) := by
  unfold linkOf
  grind

/-! ### The parameters of LOAD_STEP -/

section ReadStep

variable {i ar kd rg l1 l0 k b1 b0 dw mx sl se fc rp sf nt lk : Byte} {ps : Bytes}

theorem readStep_good {arr : Arrangement} {kind : StepKind} {range : Range} {slot : Option Nat} {sense : Sense}
    {cls : FaultClass} {stop note : Bool} {link : Option Nat} (harr : arrangementOf ar.toNat = some arr)
    (hkind : stepKindOf kd.toNat = some kind) (hrange : rangeOf rg.toNat = some range)
    (hslot : slotOf sl.toNat = some slot) (hsense : senseOf se.toNat = some sense)
    (hcls : stepClassOf fc.toNat = some cls) (hstop : flagOf sf.toNat = some stop) (hnote : flagOf nt.toNat = some note)
    (hlink : linkOf lk.toNat = some link) (hi : i.toNat ≤ 127) (hrep : rp.toNat ≤ 7) :
    readStep (i :: ar :: kd :: rg :: l1 :: l0 :: k :: b1 :: b0 :: dw :: mx :: sl :: se :: fc :: rp :: sf :: nt :: lk :: ps) =
      some ⟨i.toNat, ⟨arr, kind, signedPair l1 l0, range, k.toNat, pair b1 b0, dw.toNat, mx.toNat, slot, sense, cls,
        rp.toNat, stop, note, link⟩⟩ := by
  unfold readStep
  simp only [harr, hkind, hrange, hslot, hsense, hcls, hstop, hnote, hlink, hi, hrep, and_self, if_true]

/-- What LOAD_STEP reads lies in the sets of R75. -/
theorem readStep_within {q : StepParams}
    (h : readStep (i :: ar :: kd :: rg :: l1 :: l0 :: k :: b1 :: b0 :: dw :: mx :: sl :: se :: fc :: rp :: sf :: nt :: lk ::
      ps) = some q) :
    i.toNat ≤ 127 ∧ ar.toNat ≤ 2 ∧ kd.toNat ≤ 2 ∧ rg.toNat ≤ 1 ∧ (sl.toNat < 8 ∨ sl.toNat = 255) ∧ se.toNat ≤ 1 ∧
      (1 ≤ fc.toNat ∧ fc.toNat ≤ 6) ∧ rp.toNat ≤ 7 ∧ sf.toNat ≤ 1 ∧ nt.toNat ≤ 1 ∧ (lk.toNat < 128 ∨ lk.toNat = 255) := by
  unfold readStep at h
  dsimp only at h
  split at h
  · next harr hkind hrange hslot hsense hcls hstop hnote hlink =>
    split at h
    · next hbounds =>
      simp only [arrangementOf_eq_some, stepKindOf_eq_some, rangeOf_eq_some, slotOf_eq_some, senseOf_eq_some,
        stepClassOf_eq_some, flagOf_eq_some, linkOf_eq_some, List.mem_cons, List.not_mem_nil, or_false,
        Prod.mk.injEq] at harr hkind hrange hslot hsense hcls hstop hnote hlink
      omega
    · cases h
  · cases h

theorem readStep_bad (h : 127 < i.toNat ∨ 2 < ar.toNat ∨ 2 < kd.toNat ∨ 1 < rg.toNat ∨ (7 < sl.toNat ∧ sl.toNat < 255) ∨
      1 < se.toNat ∨ fc.toNat = 0 ∨ 6 < fc.toNat ∨ 7 < rp.toNat ∨ 1 < sf.toNat ∨ 1 < nt.toNat ∨
      (127 < lk.toNat ∧ lk.toNat < 255)) :
    readStep (i :: ar :: kd :: rg :: l1 :: l0 :: k :: b1 :: b0 :: dw :: mx :: sl :: se :: fc :: rp :: sf :: nt :: lk :: ps) =
      none := by
  rw [Option.eq_none_iff_forall_ne_some]
  intro q hq
  have := readStep_within hq
  omega

end ReadStep

/-- Every field that R75 clamps lies in its range. -/
def StepRec.Kept (r : StepRec) : Prop :=
  r.clamped.level = r.level ∧ r.clamped.window = r.window ∧ r.clamped.band = r.band ∧ r.clamped.dwell = r.dwell ∧
    r.clamped.maxBlocks = r.maxBlocks

theorem StepRec.clamped_eq_iff (r : StepRec) : r.clamped = r ↔ r.Kept := by
  cases r
  simp [StepRec.Kept, StepRec.clamped]

section LoadStep

variable {s : State} {tag : Byte} {ps : Bytes} {rest : List Bytes} (hr : s.Ready .loadStep tag ps rest)
include hr

theorem exec_loadStep_unread (h : readStep ps = none) : exec .loadStep s = .next (s.answered rest tag .badParam []) := by
  rw [exec_deskHandler_ready rfl hr, ← State.taking_respond hr.normal]
  simp only [deskHandler, State.doLoadStep, h, State.badParam]

variable {q : StepParams} (hq : readStep ps = some q)
include hq

theorem exec_loadStep_inUse (hu : s.stepInUse q.index = true) :
    exec .loadStep s = .next (s.answered rest tag .inUse []) := by
  have hused : (s.taking rest).stepInUse q.index = true := hu
  rw [exec_deskHandler_ready rfl hr, ← State.taking_respond hr.normal]
  simp only [deskHandler, State.doLoadStep, hq, hused, if_true]

theorem exec_loadStep_stored (hu : s.stepInUse q.index = false) :
    exec .loadStep s = .next ((s.setStepRec q.index (some q.fields.clamped)).answered rest tag
      (if q.fields.clamped = q.fields then .ok else .clamped) (byte1 q.index ++ q.fields.clamped.bytes)) := by
  have hused : ¬ (s.taking rest).stepInUse q.index = true := Bool.eq_false_iff.1 hu
  rw [exec_deskHandler_ready rfl hr, ← State.taking_respond (s := s.setStepRec ..) hr.normal]
  simp only [deskHandler, State.doLoadStep, hq, if_neg hused]
  rfl

/-- The answer tells whether a value was changed. -/
theorem exec_loadStep_free (hu : s.stepInUse q.index = false) :
    (q.fields.Kept → exec .loadStep s = .next ((s.setStepRec q.index (some q.fields.clamped)).answered rest tag .ok
      (byte1 q.index ++ q.fields.clamped.bytes))) ∧
    (¬ q.fields.Kept → exec .loadStep s = .next ((s.setStepRec q.index (some q.fields.clamped)).answered rest tag .clamped
      (byte1 q.index ++ q.fields.clamped.bytes))) := by
  rw [exec_loadStep_stored hr hq hu]
  exact ⟨fun hkept => by rw [if_pos (q.fields.clamped_eq_iff.2 hkept)],
    fun hchanged => by rw [if_neg (mt q.fields.clamped_eq_iff.1 hchanged)]⟩

end LoadStep

section LoadPlan

variable {s : State} {tag p f : Byte} {ps : Bytes} {rest : List Bytes} (hr : s.Ready .loadPlan tag (p :: f :: ps) rest)
include hr

theorem exec_loadPlan_bad (h : 15 < p.toNat ∨ (127 < f.toNat ∧ f.toNat < 255)) :
    exec .loadPlan s = .next (s.answered rest tag .badParam []) := by
  rw [exec_deskHandler_ready rfl hr, ← State.taking_respond hr.normal]
  cases hf : linkOf f.toNat with
  | none => simp only [deskHandler, State.doLoadPlan, hf, State.badParam]
  | some first =>
    have hp : 15 < p.toNat := by have := (linkOf_eq_some _ _).1 hf; omega
    simp only [deskHandler, State.doLoadPlan, hf, if_pos hp, State.badParam]

variable (hp : p.toNat ≤ 15) {first : Option Nat} (hf : linkOf f.toNat = some first)
include hp hf

theorem exec_loadPlan_inUse (hu : s.planInUse p.toNat = true) :
    exec .loadPlan s = .next (s.answered rest tag .inUse []) := by
  have hused : (s.taking rest).planInUse p.toNat = true := hu
  rw [exec_deskHandler_ready rfl hr, ← State.taking_respond hr.normal]
  simp only [deskHandler, State.doLoadPlan, hf, if_neg (Nat.not_lt.2 hp), hused, if_true]

theorem exec_loadPlan_stored (hu : s.planInUse p.toNat = false) :
    exec .loadPlan s = .next ((s.setPlan p.toNat first).answered rest tag .ok (byte1 p.toNat ++
      flagByte ((s.setPlan p.toNat first).planSteps p.toNat).isSome ++
      byte1 (((s.setPlan p.toNat first).planSteps p.toNat).getD []).length)) := by
  have hused : ¬ (s.taking rest).planInUse p.toNat = true := Bool.eq_false_iff.1 hu
  rw [exec_deskHandler_ready rfl hr, ← State.taking_respond (s := s.setPlan ..) hr.normal]
  simp only [deskHandler, State.doLoadPlan, hf, if_neg (Nat.not_lt.2 hp), if_neg hused]
  rfl

end LoadPlan

theorem linkOf_byte {f : Byte} (hf : f.toNat ≤ 127 ∨ f.toNat = 255) :
    linkOf f.toNat = some (if f.toNat ≤ 127 then some f.toNat else none) := by
  rw [linkOf_eq_some]
  split
  · exact .inl ⟨by omega, rfl⟩
  · exact .inr ⟨by omega, rfl⟩

/-! ### Chains and use (R77, R78) -/

/-- A valid plan's chain: 1 to 16 loaded steps, none twice, each linked to the next, END at the last (R77). -/
theorem State.planSteps_eq_some (s : State) (p : Nat) (steps : List Nat) : s.planSteps p = some steps ↔
    steps ≠ [] ∧ steps.length ≤ 16 ∧ steps.Nodup ∧ s.plan p = steps.head? ∧
      ∀ i x, steps[i]? = some x → ∃ r, s.stepRec x = some r ∧ r.link = steps[i + 1]? := by
  rw [State.planSteps, Option.bind_eq_some_iff]
  simp only [chainFrom_eq_some]
  constructor
  · rintro ⟨i, hplan, hlen, hnodup, -, hhead, hlinks⟩
    refine ⟨?_, hlen, hnodup, hplan.trans hhead.symm, hlinks⟩
    rintro rfl
    cases hhead
  · rintro ⟨hne, hlen, hnodup, hplan, hlinks⟩
    exact ⟨steps.head hne, hplan.trans (List.head?_eq_some_head hne), hlen, hnodup, fun _ _ => List.not_mem_nil,
      List.head?_eq_some_head hne, hlinks⟩

theorem State.stepInUse_iff (s : State) (i : Nat) : s.stepInUse i = true ↔
    ∃ p steps, s.planInUse p = true ∧ s.planSteps p = some steps ∧ i ∈ steps := by
  simp only [State.stepInUse, State.planInUse, List.any_eq_true, List.contains_iff_mem]
  refine exists_congr fun p => ?_
  cases s.planSteps p <;> simp

/-- Settles O50: LOAD_STEP refused, in use and stored; LOAD_PLAN the same; the sets of the parameters, the chains and the use. -/
theorem loadStepAndPlan : Obligations.LoadStepAndPlan := by
  refine ⟨fun s tag i ar kd rg l1 l0 k b1 b0 dw mx sl se fc rp sf nt lk extra rest arr kind range slot sense cls stop note
      link hr harr hkind hrange hslot hsense hcls hstop hnote hlink => ⟨fun hbad => ?_, fun hi hrep hu => ?_,
      fun hi hrep hu => ?_⟩,
    fun s tag p f extra rest hr => ⟨exec_loadPlan_bad hr, fun hp hf => ⟨exec_loadPlan_inUse hr hp (linkOf_byte hf),
      exec_loadPlan_stored hr hp (linkOf_byte hf)⟩⟩,
    fun s tag i ar kd rg l1 l0 k b1 b0 dw mx sl se fc rp sf nt lk extra rest hr hbad =>
      exec_loadStep_unread hr (readStep_bad hbad),
    ⟨arrangementOf_eq_some, stepKindOf_eq_some, rangeOf_eq_some, senseOf_eq_some, stepClassOf_eq_some, flagOf_eq_some,
      slotOf_eq_some, linkOf_eq_some⟩,
    State.planSteps_eq_some, State.planInUse_iff, State.stepInUse_iff⟩
  · exact exec_loadStep_unread hr (readStep_bad (by omega))
  · exact exec_loadStep_inUse hr (readStep_good harr hkind hrange hslot hsense hcls hstop hnote hlink hi hrep) hu
  · exact exec_loadStep_free hr (readStep_good harr hkind hrange hslot hsense hcls hstop hnote hlink hi hrep) hu

end Sys2Proof.Machine

namespace Sys2Proof.Machine

/-! ## O53: RETURN_HEAD and CALIBRATE (R93, R133, R134) -/

theorem State.headBack_eq (s : State) (h : Nat) : s.headBack h = ((s.setChan h { s.chan h with
    headOut := false
    stage := if (s.chan h).stage = .outOfService then .idle else (s.chan h).stage }).noteIdle h).clearTicket .head h
      .headSilent := rfl

/-- What RETURN_HEAD leaves of the head, of the scales and of the sweep, and the clearing of HEAD_SILENT (R93, R172). -/
theorem State.headBack_records (s : State) (h : Nat) :
    (s.headBack h).chan h = { s.chan h with
      headOut := false
      stage := if (s.chan h).stage = .outOfService then .idle else (s.chan h).stage } ∧
    (s.headBack h).cal = s.cal ∧
    ((s.chan h).stage = .outOfService → (s.headBack h).sweep.attemptDue = true) ∧
    (s.headBack h).tickets = (s.clearTicket .head h .headSilent).tickets ∧
    (s.headBack h).desk = (s.clearTicket .head h .headSilent).desk := by
  rw [State.headBack_eq]
  refine ⟨by simp, by simp, fun hout => by simp [State.noteIdle, hout], ?_⟩
  exact State.clearTicket_congr (by simp) (by simp) ..

section ReturnHead

variable {s : State} {tag n : Byte} {ps : Bytes} {rest : List Bytes} (hr : s.Ready .returnHead tag (n :: ps) rest)
include hr

theorem exec_returnHead_beyond (hh : 4 ≤ n.toNat) : exec .returnHead s = .next (s.answered rest tag .badParam []) := by
  rw [exec_deskHandler_ready rfl hr, ← State.taking_respond hr.normal]
  exact congrArg _ (if_pos hh)

variable (hh : n.toNat < 4)
include hh

theorem exec_returnHead_notFound (ho : (s.chan n.toNat).headOut = false) :
    exec .returnHead s = .next (s.answered rest tag .notFound []) := by
  rw [exec_deskHandler_ready rfl hr, ← State.taking_respond hr.normal]
  exact congrArg _ ((if_neg (Nat.not_le.2 hh)).trans (if_neg (Bool.eq_false_iff.1 ho)))

theorem exec_returnHead_out (ho : (s.chan n.toNat).headOut = true) :
    exec .returnHead s = .next (((s.taking rest).headBack n.toNat).settle.respond tag .ok []) := by
  rw [exec_deskHandler_ready rfl hr]
  exact congrArg _ ((if_neg (Nat.not_le.2 hh)).trans (if_pos ho))

end ReturnHead

theorem Stage.quiet_iff (g : Stage) : g.quiet = true ↔ g ∈ [Stage.idle, .outOfService] := by
  cases g <;> decide

section Calibrate

variable {s : State} {tag n : Byte} {ps : Bytes} {rest : List Bytes} (hr : s.Ready .calibrate tag (n :: ps) rest)
include hr

theorem exec_calibrate_beyond (hh : 4 ≤ n.toNat) : exec .calibrate s = .next (s.answered rest tag .badParam []) := by
  rw [exec_deskHandler_ready rfl hr, ← State.taking_respond hr.normal]
  exact congrArg _ (if_pos hh)

variable (hh : n.toNat < 4)
include hh

theorem exec_calibrate_busy (hs : (s.chan n.toNat).stage ∉ [Stage.idle, .outOfService]) :
    exec .calibrate s = .next (s.answered rest tag .busy []) := by
  rw [exec_deskHandler_ready rfl hr, ← State.taking_respond hr.normal]
  exact congrArg _ ((if_neg (Nat.not_le.2 hh)).trans (if_neg (mt (Stage.quiet_iff _).1 hs)))

theorem exec_calibrate_begins (hs : (s.chan n.toNat).stage ∈ [Stage.idle, .outOfService]) :
    exec .calibrate s = .next ((s.taking rest).beginRun n.toNat tag) := by
  rw [exec_deskHandler_ready rfl hr]
  exact congrArg _ ((if_neg (Nat.not_le.2 hh)).trans (if_pos ((Stage.quiet_iff _).2 hs)))

end Calibrate

/-- A calibration run begins with Z_HIGH under a new epoch, its intake tied to the directive offered (R133, R134). -/
theorem State.beginRun_records (s : State) (h : Nat) (tag : Byte) :
    (s.beginRun h tag).chan h = { s.chan h with
      stage := .calibrating, calPhase := some .zHigh, epoch := (s.chan h).epoch + 1, run := some (.fresh tag)
      intake := { Intake.cold with tie := some s.link.serial } } ∧
    (s.beginRun h tag).ownFrames = s.ownFrames ++ [⟨calDirective h ((s.chan h).epoch + 1) .zHigh, s.link.serial,
      .head h ((s.chan h).epoch + 1)⟩] := by
  refine ⟨by simp [State.beginRun, State.beginPhase], ?_⟩
  rw [State.beginRun, State.beginPhase, State.offer_ownFrames]
  simp [State.ownFrames]

/-- Settles O53: RETURN_HEAD by the head's service, CALIBRATE by the channel's stage, then what clearing HEAD_SILENT gives. -/
theorem headCommands : Obligations.HeadCommands := by
  refine ⟨fun s tag n extra rest => ⟨fun hr => ⟨exec_returnHead_beyond hr, exec_returnHead_notFound hr, fun hh ho => ?_⟩,
    fun hr => ⟨exec_calibrate_beyond hr, exec_calibrate_busy hr, fun hh hs => ?_⟩⟩, fun s tag n extra rest hr hh ho => ?_⟩
  · obtain ⟨hchan, hcal, hattempt, -⟩ := (s.taking rest).headBack_records n.toNat
    exact ⟨_, exec_returnHead_out hr hh ho, hchan, hcal, hattempt⟩
  · obtain ⟨hchan, hown⟩ := (s.taking rest).beginRun_records n.toNat tag
    exact ⟨_, exec_calibrate_begins hr hh hs, hchan, hown, by simp [State.taking], by simp, by simp, by simp⟩
  · obtain ⟨-, -, -, htickets, hdesk⟩ := (s.taking rest).headBack_records n.toNat
    exact ⟨_, exec_returnHead_out hr hh ho,
      htickets.trans (State.clearTicket_tickets_congr (v := s.taking rest) (w := s) rfl ..), hdesk⟩

end Sys2Proof.Machine

namespace Sys2Proof.Machine

/-! ## O26: uncertainty and verdicts (R126 to R131) -/

theorem CalRec.uncertainty_none (c : CalRec) : c.uncertainty none = min 1000 (c.u0 + c.kA * c.age / 64) := rfl

theorem CalRec.calDue_iff (c : CalRec) (umax : Nat) (t : Option Int) :
    c.calDue umax t = true ↔ c.valid = false ∨ umax < c.uncertainty t := by
  simp [CalRec.calDue]

/-- The band is not turned over: its lower edge does not lie above its upper one. -/
theorem bandLow_le_bandHigh (l u : Nat) : bandLow l u ≤ bandHigh l u :=
  Nat.div_le_div_right (Nat.mul_le_mul_left l (by omega))

section Judge

variable {r : StepRec} {l u : Nat} {due unsettled : Bool} {m : Measurement}

theorem baseVerdict_within {sense : Sense} {v : Nat} (hlo : bandLow l u ≤ v) (hhi : v ≤ bandHigh l u) :
    baseVerdict sense l u v = .marginal := by
  cases sense <;> simp [baseVerdict, Nat.not_lt.2 hlo, Nat.not_lt.2 hhi]

theorem baseVerdict_above {sense : Sense} {v : Nat} (hhi : bandHigh l u < v) :
    baseVerdict sense l u v = if sense = .below then .fail else .pass := by
  have hlo : ¬ v < bandLow l u := by have := bandLow_le_bandHigh l u; omega
  cases sense <;> simp [baseVerdict, hhi, hlo]

theorem baseVerdict_below {sense : Sense} {v : Nat} (hlo : v < bandLow l u) :
    baseVerdict sense l u v = if sense = .above then .fail else .pass := by
  have hhi : ¬ bandHigh l u < v := by have := bandLow_le_bandHigh l u; omega
  cases sense <;> simp [baseVerdict, hhi, hlo]

theorem judge_noLimit : judge r none due unsettled u m = (.unjudged, r.cls) := rfl

theorem judge_due : judge r (some l) true unsettled u m = (.indeterminate, r.cls) := rfl

theorem judge_reversed (hk : r.kind = .res) (hm : m.reversed = true) :
    judge r (some l) false unsettled u m = (.fail, .foreignBattery) := by
  simp [judge, hk, hm]

section Forward

variable (hf : ¬ (r.kind = .res ∧ m.reversed = true))
include hf

theorem judge_clipped (hm : m.clipped = true) : judge r (some l) false unsettled u m =
    (if r.sense = .below ∧ bandHigh l u < m.compared then .fail else .indeterminate, r.cls) := by
  have hrow : ¬ (m.reversed && r.kind == .res) = true := by simpa [and_comm] using hf
  simp only [judge, Bool.false_eq_true, if_false, if_neg hrow, hm, if_true]

variable (hm : m.clipped = false)
include hm

/-- The last row: the base verdict, and no PASS of an UNSETTLED repetition. -/
theorem judge_base : judge r (some l) false unsettled u m =
    (if baseVerdict r.sense l u m.compared = .pass ∧ unsettled = true then .marginal
      else baseVerdict r.sense l u m.compared, r.cls) := by
  have hrow : ¬ (m.reversed && r.kind == .res) = true := by simpa [and_comm] using hf
  simp only [judge, Bool.false_eq_true, if_false, if_neg hrow, hm]
  cases baseVerdict r.sense l u m.compared with
  | pass => cases unsettled <;> rfl
  | _ => rfl

theorem judge_within (hlo : bandLow l u ≤ m.compared) (hhi : m.compared ≤ bandHigh l u) :
    judge r (some l) false unsettled u m = (.marginal, r.cls) := by
  rw [judge_base hf hm, baseVerdict_within hlo hhi]
  rfl

theorem judge_above (hhi : bandHigh l u < m.compared) : judge r (some l) false unsettled u m =
    (if r.sense = .below then .fail else if unsettled then .marginal else .pass, r.cls) := by
  rw [judge_base hf hm, baseVerdict_above hhi]
  cases r.sense <;> simp

theorem judge_below (hlo : m.compared < bandLow l u) : judge r (some l) false unsettled u m =
    (if r.sense = .above then .fail else if unsettled then .marginal else .pass, r.cls) := by
  rw [judge_base hf hm, baseVerdict_below hlo]
  cases r.sense <;> simp

end Forward

/-- An UNSETTLED repetition never passes, by whichever row judges it (R131). -/
theorem judge_unsettled : (judge r (some l) due true u m).1 ≠ .pass := by
  cases due with
  | true => rw [judge_due]; nofun
  | false =>
    by_cases hf : r.kind = .res ∧ m.reversed = true
    · obtain ⟨hk, hm⟩ := hf
      rw [judge_reversed hk hm]; nofun
    · cases hm : m.clipped with
      | true => rw [judge_clipped hf hm]; dsimp only; split <;> nofun
      | false => rw [judge_base hf hm]; dsimp only; split <;> simp_all

end Judge

/-! ### A repetition is evaluated (R85, R86, R109, R127, R128) -/

theorem HeadCal.anyUsed_eq (c : HeadCal) (p : CalRec → Bool) (kind : StepKind) (range : Range) :
    c.anyUsed p kind range = (p c.v || (kind == .res && p (c.current range))) := by
  cases kind <;> simp [HeadCal.anyUsed]

theorem HeadCal.stepUncertainty_eq (c : HeadCal) (temp : Option Int) (kind : StepKind) (range : Range) :
    c.stepUncertainty temp kind range = if kind = .res then
      min 1000 (c.v.uncertainty temp + (c.current range).uncertainty temp) else c.v.uncertainty temp := by
  cases kind <;> rfl

theorem HeadCal.mapUsed_eq (c : HeadCal) (g : CalRec → CalRec) (kind : StepKind) (range : Range) :
    c.mapUsed g kind range = if kind = .res then
      (match range with
        | .high => { c with v := g c.v, iHigh := g (c.current range) }
        | .low => { c with v := g c.v, iLow := g (c.current range) })
    else { c with v := g c.v } := by
  cases kind <;> cases range <;> rfl

/-- A record the kind uses is newly due: due now, and not before (R127). -/
theorem HeadCal.anyUsed_newlyDue (c : HeadCal) (umax : Nat) (temp : Option Int) (kind : StepKind) (range : Range) :
    c.anyUsed (fun r => r.newlyDue umax temp) kind range = (c.v.calDue umax temp && !c.v.due ||
      kind == .res && (c.current range).calDue umax temp && !(c.current range).due) := by
  rw [HeadCal.anyUsed_eq, Bool.and_assoc]
  rfl

/-- The standings of the records used are set, and HEAD_CAL_DUE is raised once if a record turned due (R127). -/
theorem State.assessUsed_eq (s : State) (h : Nat) (temp : Int) (kind : StepKind) (range : Range) :
    s.assessUsed h temp kind range =
      if (s.headCal h).anyUsed (fun r => r.newlyDue s.params.umax (some temp)) kind range then
        (s.setHeadCal h ((s.headCal h).mapUsed (fun r => r.assessed s.params.umax (some temp)) kind range)).raise .head h
          .headCalDue none
      else s.setHeadCal h ((s.headCal h).mapUsed (fun r => r.assessed s.params.umax (some temp)) kind range) := rfl

/-- The qualifiers of a step with those of one more repetition, intake's own and the measurement's (R85, R86). -/
def Quals.withRepetition (folded rep : Quals) (m : Measurement) : Quals :=
  ⟨folded.unsettled || rep.unsettled, folded.lossy || rep.lossy, folded.clipped || rep.clipped || m.clipped,
    folded.openLoop || rep.openLoop || m.openLoop, folded.reversed || rep.reversed || m.reversed⟩

theorem Quals.join_repetition (folded rep : Quals) (m : Measurement) :
    folded.join (rep.join ⟨false, false, m.clipped, m.openLoop, m.reversed⟩) = folded.withRepetition rep m := by
  simp [Quals.join, Quals.withRepetition, Bool.or_assoc]

theorem foldVerdict_eq (folded : Quals) (v : Verdict) :
    foldVerdict folded v = if folded.unsettled = true ∧ v = .pass then .marginal else v := by
  simp [foldVerdict]

section Evaluate

variable {s : State} {h : Nat} {t : TestRec} {p : Progress} {r : StepRec} {w : Window}

theorem State.windowDone_eq (ht : (s.chan h).test = some t) (hp : (s.chan h).step = some p)
    (hr : s.stepRec p.step = some r) : s.windowDone h w = s.evaluate h t r p w := by
  simp only [State.windowDone, ht, hp, hr]

theorem State.evaluate_again (hrep : p.rep < r.rep) : s.evaluate h t r p w =
    (s.assessUsed h w.temp r.kind r.range).beginRepetition h r { p with
      rep := p.rep + 1, folded := p.folded.withRepetition p.repQuals (measure w r (s.headCal h)) } := by
  rw [← Quals.join_repetition]
  exact if_pos hrep

/-- The verdict of a repetition and its class, with the limit of the step's slot (R128, R130, R131). -/
def State.repetitionVerdict (s : State) (h : Nat) (t : TestRec) (p : Progress) (r : StepRec) (w : Window) :
    Verdict × FaultClass :=
  judge r (r.slot.map fun slot => s.limit ((s.line t.line).profileFor r.arrangement) slot)
    ((s.headCal h).anyUsed (fun k => k.calDue s.params.umax (some w.temp)) r.kind r.range) p.repQuals.unsettled
    ((s.headCal h).stepUncertainty (some w.temp) r.kind r.range) (measure w r (s.headCal h))

theorem State.evaluate_last (hrep : r.rep ≤ p.rep) : s.evaluate h t r p w =
    (s.assessUsed h w.temp r.kind r.range).formResult h t r p
      { step := p.step, kind := r.kind, arrangement := r.arrangement, range := r.range
        value := (measure w r (s.headCal h)).value
        verdict := foldVerdict (p.folded.withRepetition p.repQuals (measure w r (s.headCal h)))
          (s.repetitionVerdict h t p r w).1
        quals := p.folded.withRepetition p.repQuals (measure w r (s.headCal h))
        uncertainty := (s.headCal h).stepUncertainty (some w.temp) r.kind r.range
        cls := (s.repetitionVerdict h t p r w).2, reps := r.rep + 1 } := by
  rw [← Quals.join_repetition]
  exact if_neg (Nat.not_lt.2 hrep)

end Evaluate

/-! ### A repetition begins and a step result is formed (R83, R87, R88) -/

theorem State.beginRepetition_records (s : State) (h : Nat) (r : StepRec) (p : Progress) :
    (s.beginRepetition h r p).chan h = { s.chan h with
      stage := .sourcing, epoch := (s.chan h).epoch + 1, step := some { p with repQuals := .clear }
      intake := { Intake.cold with tie := some s.link.serial } } ∧
    (s.beginRepetition h r p).ownFrames = s.ownFrames ++
      [⟨sourceDirective h ((s.chan h).epoch + 1) r, s.link.serial, .head h ((s.chan h).epoch + 1)⟩] := by
  refine ⟨by simp [State.beginRepetition], ?_⟩
  rw [State.beginRepetition, State.offer_ownFrames]
  simp [State.ownFrames]

/-- A step result has joined the results, a STEP notice is out if the step asks for it, and the Ticket Table is informed (R87). -/
def State.resultTold (s : State) (h : Nat) (t : TestRec) (r : StepRec) (p : Progress) (res : StepResult) : State :=
  let s1 := s.setChan h { s.chan h with test := some { t with results := t.results ++ [res] } }
  (if r.notify = true then s1.stepNotice h t p.position res else s1).resultTickets t r res

section FormResult

variable {s : State} {h : Nat} {t : TestRec} {r : StepRec} {p : Progress} {res : StepResult}

theorem State.formResult_ends (hend : (res.verdict = .fail ∧ r.stopOnFail = true) ∨ r.link = none) :
    s.formResult h t r p res = (s.resultTold h t r p res).endByCause h .completed := by
  by_cases hstop : res.verdict = .fail ∧ r.stopOnFail = true
  · exact if_pos hstop
  · refine (if_neg hstop).trans ?_
    rw [hend.resolve_left hstop]
    rfl

theorem State.formResult_goesOn {n : Nat} {q : StepRec} (hgo : ¬ (res.verdict = .fail ∧ r.stopOnFail = true))
    (hlink : r.link = some n) (hq : s.stepRec n = some q) :
    s.formResult h t r p res = (s.resultTold h t r p res).beginRepetition h q ⟨n, p.position + 1, 0, .clear, .clear⟩ := by
  have hsteps : (s.resultTold h t r p res).steps = s.steps := by
    unfold State.resultTold
    dsimp only
    split <;> simp
  have hstep : (s.resultTold h t r p res).stepRec n = some q := by rw [State.stepRec, hsteps]; exact hq
  refine (if_neg hgo).trans ?_
  rw [hlink]
  show (s.resultTold h t r p res).beginStep h n (p.position + 1) = _
  simp only [State.beginStep, hstep]

end FormResult

/-- Settles O26: the uncertainty, the verdict's rows, a repetition evaluated, begun, and a step result formed. -/
theorem uncertaintyAndVerdict : Obligations.UncertaintyAndVerdict := by
  refine ⟨fun c umax t => ⟨rfl, c.uncertainty_none, c.calDue_iff umax (some t)⟩,
    fun r u m due unsettled => ⟨judge_noLimit, fun l _ => ⟨judge_due, judge_reversed, judge_clipped, fun hf hm =>
      ⟨judge_within hf hm, judge_above hf hm, judge_below hf hm⟩, judge_unsettled⟩⟩,
    fun s h t p r w ht hp hr => ⟨fun hrep => ?_, fun hrep => ?_⟩,
    State.beginRepetition_records,
    fun s h t r p res => ?_⟩
  · rw [State.windowDone_eq ht hp hr, State.evaluate_again hrep, State.assessUsed_eq, HeadCal.anyUsed_newlyDue,
      HeadCal.mapUsed_eq]
    rfl
  · rw [State.windowDone_eq ht hp hr, State.evaluate_last hrep, State.assessUsed_eq, HeadCal.anyUsed_newlyDue,
      HeadCal.mapUsed_eq, foldVerdict_eq,
      State.repetitionVerdict, HeadCal.anyUsed_eq, HeadCal.stepUncertainty_eq]
    obtain ⟨arrangement⟩ := r
    cases arrangement <;> rfl
  · intro s1 s2 s3
    have htold : s.resultTold h t r p res = s3 := by
      obtain ⟨step, kind, arr, range, value, verdict, quals, unc, cls, reps⟩ := res
      cases verdict <;> rfl
    rw [← htold]
    exact ⟨State.formResult_ends, fun n q => State.formResult_goesOn⟩

end Sys2Proof.Machine

end TestPlans


/-! PROOFS of the family of sample intake and settling: settle blocks, losses and the window; the exposure account and the
acceptance of sample frames; the head timer and the hour tick.

The proofs are elaborated one after another, as in the families before. -/

section SampleIntake
set_option Elab.async false

namespace Sys2Proof.Machine

/-! ## O28: settle blocks, losses and the window (R100 to R106) -/

/-! ### A settle block is judged (R102, R103) -/

theorem blockMean_eq (work : Work) (pairs : List (Int × Int)) :
    blockMean work pairs = ((pairs.map fun p => if work.byCurrent then p.2 else p.1).sum + 8) / 16 := by
  rw [List.sum_eq_foldl]
  rfl

theorem Intake.judgeBlock_eq (i : Intake) (w : Work) (mean : Int) : i.judgeBlock w mean =
    ({ i with blocks := i.blocks + 1, settle := settleCount w.band i.prev i.settle mean, prev := some mean },
      if settleCount w.band i.prev i.settle mean = w.dwell then .settled
      else if i.blocks + 1 = w.maxBlocks then .unsettled
      else .going) := by
  unfold Intake.judgeBlock
  dsimp only
  split
  · rfl
  · split <;> rfl

/-! ### A frame enters the window (R104) -/

theorem atRail_iff (v : Int) : atRail v = true ↔ v = -32768 ∨ v = 32767 := by
  simp [atRail]

theorem Intake.foldl_addPair (k : Nat) (pairs : List (Int × Int)) (i : Intake) :
    pairs.foldl (Intake.addPair k) i = { i with
      sv := i.sv + (pairs.map Prod.fst).sum
      si := i.si + (pairs.map Prod.snd).sum
      sq := i.sq + (pairs.map fun p => p.1.natAbs * p.1.natAbs / 2 ^ k).sum
      vClip := i.vClip || pairs.any fun p => atRail p.1
      iClip := i.iClip || pairs.any fun p => atRail p.2 } := by
  induction pairs generalizing i with
  | nil => simp
  | cons p pairs ih => simp [ih, Intake.addPair, add_assoc, Bool.or_assoc]

theorem Intake.addFrame_eq (i : Intake) (k : Nat) (temp : Int) (pairs : List (Int × Int)) :
    i.addFrame k temp pairs = { i with
      sv := i.sv + (pairs.map Prod.fst).sum
      si := i.si + (pairs.map Prod.snd).sum
      sq := i.sq + (pairs.map fun p => p.1.natAbs * p.1.natAbs / 2 ^ k).sum
      vClip := i.vClip || pairs.any fun p => atRail p.1
      iClip := i.iClip || pairs.any fun p => atRail p.2
      temp := some temp
      frames := i.frames + 1 } := by
  rw [Intake.addFrame, Intake.foldl_addPair]

theorem any_atRail_iff (pairs : List (Int × Int)) (f : Int × Int → Int) :
    (pairs.any fun p => atRail (f p)) = true ↔ ∃ p ∈ pairs, f p = -32768 ∨ f p = 32767 := by
  simp only [List.any_eq_true, atRail_iff]

/-! ### The work in hand (R102, R103, R106) -/

theorem State.work_step {s : State} {h : Nat} {p : Progress} {r : StepRec} (hc : (s.chan h).stage ≠ .calibrating)
    (hp : (s.chan h).step = some p) (hr : s.stepRec p.step = some r) : s.work h = some r.work := by
  simp [State.work, hc, hp, hr]

theorem State.work_phase {s : State} {h : Nat} {p : CalPhase} (hc : (s.chan h).stage = .calibrating)
    (hp : (s.chan h).calPhase = some p) : s.work h = some p.work := by
  simp [State.work, hc, hp]

theorem CalPhase.work_eq (p : CalPhase) : p.work = ⟨4, 4, 64, 10, p != .zHigh && p != .refV⟩ := by
  cases p <;> rfl

/-! ### A settle block is taken (R84, R103, R136) -/

theorem Channel.addQuals_unsettled (c : Channel) : c.addQuals ⟨true, false, false, false, false⟩ =
    { c with step := c.step.map fun p => { p with repQuals := { p.repQuals with unsettled := true } } } := by
  simp [Channel.addQuals, Quals.join]

theorem Channel.addQuals_lossy (c : Channel) : c.addQuals ⟨false, true, false, false, false⟩ =
    { c with step := c.step.map fun p => { p with repQuals := { p.repQuals with lossy := true } } } := by
  simp [Channel.addQuals, Quals.join]

/-- A calibration run keeps its stage; a test's stage follows its intake. -/
theorem Channel.follow_intake (c : Channel) (i : Intake) (g : Stage) :
    (if c.stage = .calibrating then { c with intake := i } else { c with stage := g, intake := i }) =
      { c with stage := if c.stage = .calibrating then .calibrating else g, intake := i } := by
  split
  · next hc => rw [← hc]
  · rfl

/-- The intake of a repetition whose window opens (R103). -/
def Intake.opened (i : Intake) : Intake := { i.emptyWindow with phase := .measuring }

section SettleBlock

variable {s : State} {h : Nat} {work : Work} {pairs : List (Int × Int)}

theorem State.settleBlock_going
    (hr : ((s.chan h).intake.judgeBlock work (blockMean work pairs)).2 = .going) :
    s.settleBlock h work pairs = s.setChan h { s.chan h with
      stage := if (s.chan h).stage = .calibrating then .calibrating else .settling
      intake := { ((s.chan h).intake.judgeBlock work (blockMean work pairs)).1 with phase := .settling } } := by
  simp only [State.settleBlock, hr]
  exact congrArg _ (Channel.follow_intake ..)

theorem State.settleBlock_settled
    (hr : ((s.chan h).intake.judgeBlock work (blockMean work pairs)).2 = .settled) :
    s.settleBlock h work pairs = s.setChan h { s.chan h with
      stage := if (s.chan h).stage = .calibrating then .calibrating else .measuring
      intake := ((s.chan h).intake.judgeBlock work (blockMean work pairs)).1.opened } := by
  simp only [State.settleBlock, hr]
  exact congrArg _ (Channel.follow_intake ..)

section Unsettled

variable (hr : ((s.chan h).intake.judgeBlock work (blockMean work pairs)).2 = .unsettled)
include hr

theorem State.settleBlock_unsettled_test (hc : (s.chan h).stage ≠ .calibrating) :
    s.settleBlock h work pairs = s.setChan h { s.chan h with
      stage := .measuring
      intake := ((s.chan h).intake.judgeBlock work (blockMean work pairs)).1.opened
      step := (s.chan h).step.map fun p => { p with repQuals := { p.repQuals with unsettled := true } } } := by
  simp only [State.settleBlock, hr, if_neg hc, Channel.addQuals_unsettled]
  rfl

theorem State.settleBlock_unsettled_run (hc : (s.chan h).stage = .calibrating) :
    s.settleBlock h work pairs = (s.setChan h { s.chan h with
      intake := ((s.chan h).intake.judgeBlock work (blockMean work pairs)).1.opened }).failRun h .unsettled := by
  simp only [State.settleBlock, hr, if_pos hc]
  rfl

end Unsettled

/-! ### A loss (R101) -/

theorem State.loss_third (hi : (s.chan h).intake.restarts = 2) : s.loss h work pairs =
    if (s.chan h).stage = .calibrating then
      (s.setChan h { s.chan h with intake := { (s.chan h).intake with restarts := 3 } }).failRun h .loss
    else (s.setChan h { s.chan h with intake := { (s.chan h).intake with restarts := 3 } }).endByCause h .sampleLoss := by
  simp only [State.loss, hi, if_true]

/-- Intake after a loss, by whether the window was open. -/
theorem Intake.afterLoss_eq (i : Intake) : i.afterLoss =
    if i.phase = .measuring then
      { i with restarts := i.restarts + 1, blocks := 0, settle := 0, prev := none }.emptyWindow
    else { i with restarts := i.restarts + 1, blocks := 0, settle := 0, prev := none } := by
  unfold Intake.afterLoss
  cases i.phase <;> rfl

theorem State.loss_restarts (hi : (s.chan h).intake.restarts ≠ 2) : s.loss h work pairs =
    (s.setChan h { s.chan h with
      intake := (s.chan h).intake.afterLoss
      step := if (s.chan h).stage = .calibrating then (s.chan h).step
        else (s.chan h).step.map fun p => { p with repQuals := { p.repQuals with lossy := true } } }).settleBlock h work
          pairs := by
  have hthird : ¬ (s.chan h).intake.restarts + 1 = 3 := by omega
  simp only [State.loss, if_neg hthird, Channel.addQuals_lossy]
  split <;> rfl

/-! ### The window is accumulated and handed over (R104, R105) -/

variable {temp : Int}

theorem State.accumulate_goesOn (hf : ((s.chan h).intake.addFrame work.k temp pairs).frames ≠ 2 ^ work.k / 16) :
    s.accumulate h work temp pairs =
      s.setChan h { s.chan h with intake := (s.chan h).intake.addFrame work.k temp pairs } :=
  if_neg hf

theorem State.accumulate_complete (hf : ((s.chan h).intake.addFrame work.k temp pairs).frames = 2 ^ work.k / 16) :
    s.accumulate h work temp pairs =
      let j := (s.chan h).intake.addFrame work.k temp pairs
      let u := s.setChan h { s.chan h with intake := { j with phase := .awaiting } }
      let w : Window := ⟨j.sv, j.si, j.sq, j.vClip, j.iClip, temp, work.k⟩
      if (s.chan h).stage = .calibrating then u.phaseDone h w else u.windowDone h w :=
  if_pos hf

/-! ### What a frame does, by the phase of intake (R100) -/

variable (hw : s.work h = some work)
include hw

theorem State.actOnFrame_first (hp : (s.chan h).intake.phase = .awaiting) :
    s.actOnFrame h .first temp pairs = s.settleBlock h work pairs := by
  simp only [State.actOnFrame, hw, hp]

theorem State.actOnFrame_settling (hp : (s.chan h).intake.phase = .settling) :
    s.actOnFrame h .inSequence temp pairs = s.settleBlock h work pairs := by
  simp only [State.actOnFrame, hw, hp]

theorem State.actOnFrame_gap (hp : (s.chan h).intake.phase = .settling ∨ (s.chan h).intake.phase = .measuring) :
    s.actOnFrame h .gap temp pairs = s.loss h work pairs := by
  obtain hp | hp := hp <;> simp only [State.actOnFrame, hw, hp]

theorem State.actOnFrame_measuring (hp : (s.chan h).intake.phase = .measuring) :
    s.actOnFrame h .inSequence temp pairs = s.accumulate h work temp pairs := by
  simp only [State.actOnFrame, hw, hp]

end SettleBlock

/-- Settles O28: a block judged, a frame added up, the work in hand; then a frame by the phase of intake, by the block's
judgement, by the restarts counted, and by the frames of the window. -/
theorem settlingAndWindow : Obligations.SettlingAndWindow := by
  refine ⟨fun i w mean => ⟨congrArg Prod.fst (i.judgeBlock_eq w mean), fun hn => ?_, fun hn hb => ?_, fun hn hb => ?_⟩,
    fun i k temp pairs => ?_,
    fun s h => ⟨fun p r hc hp hr => State.work_step hc hp hr, fun p hc hp => by rw [State.work_phase hc hp, p.work_eq]⟩,
    fun s h work temp pairs hw => ?_⟩
  · exact (congrArg Prod.snd (i.judgeBlock_eq w mean)).trans (if_pos hn)
  · exact (congrArg Prod.snd (i.judgeBlock_eq w mean)).trans ((if_neg hn).trans (if_pos hb))
  · exact (congrArg Prod.snd (i.judgeBlock_eq w mean)).trans ((if_neg hn).trans (if_neg hb))
  · rw [Intake.addFrame_eq]
    refine ⟨rfl, rfl, rfl, ?_, ?_, rfl, rfl⟩
    · rw [Bool.or_eq_true, any_atRail_iff pairs Prod.fst]
    · rw [Bool.or_eq_true, any_atRail_iff pairs Prod.snd]
  · rw [← blockMean_eq work pairs]
    refine ⟨⟨State.actOnFrame_first hw, State.actOnFrame_settling hw, State.actOnFrame_gap hw,
        State.actOnFrame_measuring hw⟩,
      ⟨State.settleBlock_going, State.settleBlock_settled, State.settleBlock_unsettled_test,
        State.settleBlock_unsettled_run⟩,
      ⟨fun hi hc => ?_, fun hi hc => ?_, fun hi => ?_⟩,
      ⟨State.accumulate_goesOn, fun hf hc => ?_, fun hf hc => ?_⟩⟩
    · exact (State.loss_third hi).trans (if_pos hc)
    · exact (State.loss_third hi).trans (if_neg hc)
    · rw [State.loss_restarts hi, Intake.afterLoss_eq]
      rfl
    · exact (State.accumulate_complete hf).trans (if_neg hc)
    · exact (State.accumulate_complete hf).trans (if_pos hc)

end Sys2Proof.Machine

namespace Sys2Proof.Machine

/-! ## O29: the account of a frame, and what is accepted (R96 to R100, R141 to R143) -/

/-! ### One sample is examined (R141) -/

/-- The excesses of some samples over the threshold, added up. -/
def totalExcess (vprot : Nat) (vs : List Int) : Nat := (vs.map fun v => v.natAbs - vprot).sum

theorem totalExcess_cons (vprot : Nat) (v : Int) (vs : List Int) :
    totalExcess vprot (v :: vs) = (v.natAbs - vprot) + totalExcess vprot vs := by
  simp [totalExcess]

theorem totalExcess_eq_zero {vprot : Nat} {vs : List Int} (h : ∀ v ∈ vs, v.natAbs ≤ vprot) : totalExcess vprot vs = 0 := by
  simpa [totalExcess, List.sum_eq_zero_iff, Nat.sub_eq_zero_iff_le] using h

section Watch

variable {vprot elim : Nat} {w : Watch}

/-- After a trip nothing more is examined. -/
theorem Watch.foldl_tripped (hw : w.tripped = true) (vs : List Int) : vs.foldl (Watch.sample vprot elim) w = w := by
  induction vs with
  | nil => rfl
  | cons v vs ih => simpa [Watch.sample, hw] using ih

variable (hw : w.tripped = false) (htop : elim ≤ maxExposure)
include hw htop

theorem Watch.sample_holds {v : Int} (hv : w.exposure + (v.natAbs - vprot) < elim) : Watch.sample vprot elim w v =
    ⟨w.exposure + (v.natAbs - vprot), max w.peak v.natAbs, w.excess || decide (vprot < v.natAbs), false⟩ := by
  by_cases hx : vprot < v.natAbs
  · have hsat : satAdd maxExposure w.exposure (v.natAbs - vprot) = w.exposure + (v.natAbs - vprot) :=
      Nat.min_eq_right (hv.le.trans htop)
    simp [Watch.sample, hw, hx, hsat, hv]
  · have hzero : v.natAbs - vprot = 0 := by omega
    simp [Watch.sample, hw, hx, hzero]

theorem Watch.sample_trips {v : Int} (he : w.exposure < elim) (hv : elim ≤ w.exposure + (v.natAbs - vprot)) :
    (Watch.sample vprot elim w v).tripped = true ∧ (Watch.sample vprot elim w v).excess = true ∧
      elim ≤ (Watch.sample vprot elim w v).exposure ∧ (Watch.sample vprot elim w v).exposure ≤ maxExposure := by
  have hx : vprot < v.natAbs := by omega
  simp [Watch.sample, hw, hx, satAdd, htop, hv]

/-! ### The samples of a frame are examined in their order -/

theorem Watch.foldl_holds (vs : List Int) (hvs : w.exposure + totalExcess vprot vs < elim) :
    vs.foldl (Watch.sample vprot elim) w = ⟨w.exposure + totalExcess vprot vs, vs.foldl (fun p v => max p v.natAbs) w.peak,
      w.excess || vs.any fun v => decide (vprot < v.natAbs), false⟩ := by
  induction vs generalizing w with
  | nil =>
    obtain ⟨exposure, peak, excess, tripped⟩ := w
    simpa [totalExcess] using hw
  | cons v vs ih =>
    rw [totalExcess_cons] at hvs
    rw [List.foldl_cons, Watch.sample_holds hw htop (by omega), ih rfl (by dsimp only; omega), totalExcess_cons]
    simp [add_assoc, Bool.or_assoc]

theorem Watch.foldl_trips (vs : List Int) (he : w.exposure < elim) (hvs : elim ≤ w.exposure + totalExcess vprot vs) :
    (vs.foldl (Watch.sample vprot elim) w).tripped = true ∧ (vs.foldl (Watch.sample vprot elim) w).excess = true ∧
      elim ≤ (vs.foldl (Watch.sample vprot elim) w).exposure ∧
      (vs.foldl (Watch.sample vprot elim) w).exposure ≤ maxExposure := by
  induction vs generalizing w with
  | nil => exact absurd (Nat.lt_of_lt_of_le he hvs) (Nat.lt_irrefl _)
  | cons v vs ih =>
    rw [totalExcess_cons] at hvs
    rw [List.foldl_cons]
    by_cases hv : elim ≤ w.exposure + (v.natAbs - vprot)
    · have htrips := Watch.sample_trips hw htop he hv
      rw [Watch.foldl_tripped htrips.1]
      exact htrips
    · rw [Watch.sample_holds hw htop (Nat.not_le.1 hv)]
      exact ih rfl (Nat.not_le.1 hv) (by dsimp only; omega)

end Watch

/-! ### The account of a frame (R141, R142) -/

section WatchFrame

variable {vprot elim e : Nat} {vs : List Int} (htop : elim ≤ 4294967295)
include htop

theorem watchFrame_holds (hvs : e + totalExcess vprot vs < elim) (peak : Nat) : watchFrame vprot elim e peak vs =
    ⟨if ∃ v ∈ vs, vprot < v.natAbs then e + totalExcess vprot vs else e / 2, vs.foldl (fun p v => max p v.natAbs) peak,
      vs.any fun v => decide (vprot < v.natAbs), false⟩ := by
  have hfold := Watch.foldl_holds (w := ⟨e, peak, false, false⟩) rfl htop vs hvs
  simp only [Bool.false_or] at hfold
  unfold watchFrame
  rw [hfold]
  by_cases hx : ∃ v ∈ vs, vprot < v.natAbs
  · simp [hx]
  · have hzero : totalExcess vprot vs = 0 := totalExcess_eq_zero fun v hv => Nat.not_lt.1 fun h => hx ⟨v, hv, h⟩
    simp [hx, hzero]

theorem watchFrame_trips (he : e < elim) (hvs : elim ≤ e + totalExcess vprot vs) (peak : Nat) :
    (watchFrame vprot elim e peak vs).tripped = true ∧ elim ≤ (watchFrame vprot elim e peak vs).exposure ∧
      (watchFrame vprot elim e peak vs).exposure ≤ 4294967295 := by
  obtain ⟨htripped, hexcess, hlow, hhigh⟩ := Watch.foldl_trips (w := ⟨e, peak, false, false⟩) rfl htop vs he hvs
  simp only [watchFrame, hexcess, if_true]
  exact ⟨htripped, hlow, hhigh⟩

theorem watchFrame_tripped_iff (he : e < elim) (peak : Nat) :
    (watchFrame vprot elim e peak vs).tripped = true ↔ elim ≤ e + totalExcess vprot vs := by
  refine ⟨fun ht => Nat.not_lt.1 fun hlt => ?_, fun hvs => (watchFrame_trips htop he hvs peak).1⟩
  rw [watchFrame_holds htop hlt] at ht
  cases ht

theorem watchFrame_quiet (he : e < elim) (hq : ∀ v ∈ vs, v.natAbs ≤ vprot) (peak : Nat) :
    watchFrame vprot elim e peak vs =
      ⟨e / 2, vs.foldl (fun p v => max p v.natAbs) peak, vs.any fun v => decide (vprot < v.natAbs), false⟩ := by
  have hx : ¬ ∃ v ∈ vs, vprot < v.natAbs := fun ⟨v, hv, hlt⟩ => absurd hlt (Nat.not_lt.2 (hq v hv))
  rw [watchFrame_holds htop (by rw [totalExcess_eq_zero hq]; exact he), if_neg hx]

theorem watchFrame_loud (he : e < elim) (hx : ∃ v ∈ vs, vprot < v.natAbs) {peak : Nat}
    (ht : (watchFrame vprot elim e peak vs).tripped = false) : e + totalExcess vprot vs < elim ∧
      watchFrame vprot elim e peak vs = ⟨e + totalExcess vprot vs, vs.foldl (fun p v => max p v.natAbs) peak,
        vs.any fun v => decide (vprot < v.natAbs), false⟩ := by
  have hlt : e + totalExcess vprot vs < elim := by
    rw [← Nat.not_le, ← watchFrame_tripped_iff htop he peak, ht]
    exact Bool.false_ne_true
  exact ⟨hlt, by rw [watchFrame_holds htop hlt, if_pos hx]⟩

end WatchFrame

/-! ### A sample frame is accepted and handled (R96, R97, R100) -/

theorem Stage.accepting_iff (g : Stage) :
    g.accepting = true ↔ g ∈ [Stage.sourcing, .settling, .measuring, .calibrating] := by
  cases g <;> simp [Stage.accepting]

/-- Sample Intake accepts a frame: from one of the four heads, in a stage that accepts, under the channel's epoch (R96). -/
def State.Accepts (s : State) (x : Sample) : Prop :=
  x.head < 4 ∧ (s.chan x.head).stage ∈ [Stage.sourcing, .settling, .measuring, .calibrating] ∧
    x.epoch = (s.chan x.head).epoch.toNat

/-- The channel once the frame has been heard: its sequence, its temperature, and t_head started again. -/
def State.heardChan (s : State) (x : Sample) : Channel :=
  (s.chan x.head).heard s.now s.params.tHead x.sequence (takenTemp x.temp)

section TakeSample

variable {s : State} {x : Sample}

theorem State.takeSample_ignored (ha : ¬ s.Accepts x) : s.takeSample x = s :=
  if_neg fun ⟨hh, hst, he⟩ => ha ⟨hh, (Stage.accepting_iff _).1 hst, he⟩

variable (ha : s.Accepts x)
include ha

theorem State.takeSample_accepted : s.takeSample x = s.handleSample x.head x := by
  obtain ⟨hh, hst, he⟩ := ha
  exact if_pos ⟨hh, (Stage.accepting_iff _).2 hst, he⟩

theorem State.takeSample_run (hc : (s.chan x.head).stage = .calibrating) :
    s.takeSample x = (s.setChan x.head (s.heardChan x)).actOnFrame x.head
      (classify (s.chan x.head).intake.expected x.sequence) (takenTemp x.temp) x.pairs :=
  (State.takeSample_accepted ha).trans (if_pos hc)

theorem State.takeSample_test (hc : (s.chan x.head).stage ≠ .calibrating) :
    s.takeSample x =
      let w := watchFrame s.params.vprot s.params.elim (s.chan x.head).exposure (s.chan x.head).peak (x.pairs.map Prod.fst)
      let u := s.setChan x.head { s.heardChan x with exposure := w.exposure, peak := w.peak }
      if w.tripped then u.trip x.head
      else u.actOnFrame x.head (classify (s.chan x.head).intake.expected x.sequence) (takenTemp x.temp) x.pairs :=
  (State.takeSample_accepted ha).trans (if_neg hc)

end TakeSample

/-- Settles O29: the account by whether it comes to the limit, then a frame by its acceptance, its stage and its account. -/
theorem exposureAccount : Obligations.ExposureAccount := by
  refine ⟨fun vprot elim e peak vs _ he htop => ⟨fun hq => ?_, fun hx ht => ?_, watchFrame_tripped_iff htop he peak,
      fun ht => ?_⟩, fun s x => ⟨fun ha => State.takeSample_ignored ha, fun ha hc => State.takeSample_run ha hc,
      fun ha hc => ⟨fun ht => ?_, fun ht => ?_⟩⟩⟩
  · rw [watchFrame_quiet htop he hq]
    exact ⟨rfl, rfl, rfl⟩
  · obtain ⟨hlt, hw⟩ := watchFrame_loud htop he hx ht
    rw [hw]
    exact ⟨rfl, hlt, rfl⟩
  · exact (watchFrame_trips htop he ((watchFrame_tripped_iff htop he peak).1 ht) peak).2
  · exact (State.takeSample_test ha hc).trans (if_pos ht)
  · exact (State.takeSample_test ha hc).trans (if_neg (Bool.eq_false_iff.1 ht))

end Sys2Proof.Machine

namespace Sys2Proof.Machine

/-! ## O31: a silent head, and the hour tick (R99, R125 to R127, R136) -/

/-! ### The number of a new entry is free, whatever the next number stands at (R169) -/

theorem nextTicketNumber_within (n : Nat) : 1 ≤ nextTicketNumber n ∧ nextTicketNumber n ≤ 65535 := by
  unfold nextTicketNumber
  split <;> omega

/-- Of the numbers tried, those after the first differ, and fewer than 257 entries leave one of them free. -/
theorem freeNumber_unheld {L : List Ticket} (hl : L.length < 257) (n : Nat) : ∀ t ∈ L, t.number ≠ freeNumber L 257 n := by
  intro t ht he
  have hheld := tried_of_freeNumber_held L 257 n ⟨t, ht, he⟩
  have hsub : (Finset.range 257).image (fun i => nextTicketNumber^[i] (nextTicketNumber n)) ⊆
      (L.map Ticket.number).toFinset := by
    intro x hx
    obtain ⟨i, hi, rfl⟩ := Finset.mem_image.1 hx
    obtain ⟨u, hu, hnum⟩ := hheld (i + 1) (Finset.mem_range.1 hi)
    exact List.mem_toFinset.2 (List.mem_map.2 ⟨u, hu, hnum⟩)
  have hinj : Set.InjOn (fun i => nextTicketNumber^[i] (nextTicketNumber n)) (Finset.range 257) := by
    intro i hi j hj hij
    simp only [Finset.coe_range, Set.mem_Iio] at hi hj
    simp only [iterate_nextTicketNumber (nextTicketNumber_within n)] at hij
    omega
  have hcard := Finset.card_le_card hsub
  rw [Finset.card_image_of_injOn hinj, Finset.card_range] at hcard
  have hle := List.toFinset_card_le (L.map Ticket.number)
  rw [List.length_map] at hle
  omega

/-! ### Entries that stand through later raises (R167 to R169) -/

/-- The table holds an entry about this fault, seen now and not CLEARED, and no entry about another fault has its number. -/
def State.Stands (s : State) (k : SubjectKind) (n : Nat) (c : FaultClass) : Prop :=
  ∃ t ∈ s.tickets.entries, (t.kind = k ∧ t.subject = n ∧ t.cls = c) ∧ t.state ≠ .cleared ∧ t.lastSeen = s.minute ∧
    ∀ u ∈ s.tickets.entries, u.number = t.number → u.kind = k ∧ u.subject = n ∧ u.cls = c

section RaiseWithRoom

variable {s : State} (hroom : s.tickets.entries.length < 256) (k : SubjectKind) (n : Nat) (c : FaultClass)
  (e : Option Evidence)
include hroom

/-- In a table with room a raise rewrites the entry of its fault, or adds one. -/
theorem State.raise_entries :
    (∃ t ∈ s.tickets.entries, (t.kind = k ∧ t.subject = n ∧ t.cls = c) ∧ (s.raise k n c e).tickets.entries =
      s.tickets.entries.map fun u => if u.number = t.number then t.again s.minute e else u) ∨
    (s.raise k n c e).tickets.entries =
      s.tickets.entries ++ [⟨s.newNumber, k, n, c, .opened, s.minute, s.minute, 1, 0, e, []⟩] := by
  unfold State.raise
  cases hf : s.findTicket k n c with
  | some t =>
    have habout := List.find?_some hf
    simp only [Ticket.isAbout, Bool.and_eq_true, beq_iff_eq, and_assoc] at habout
    exact .inl ⟨t, List.mem_of_find?_eq_some hf, habout, by simp [State.updateTicket, State.putTicket]⟩
  | none =>
    have hless : s.tickets.entries.length < Config.ticketRoom := hroom
    exact .inr (by simp [hless])

theorem State.raise_length : (s.raise k n c e).tickets.entries.length ≤ s.tickets.entries.length + 1 := by
  obtain ⟨t, -, -, hentries⟩ | hentries := State.raise_entries hroom k n c e <;> simp [hentries]

theorem State.newNumber_unheld {u : Ticket} (hu : u ∈ s.tickets.entries) : u.number ≠ s.newNumber :=
  freeNumber_unheld (Nat.lt_succ_of_lt hroom) _ u hu

theorem State.raise_stands : (s.raise k n c e).Stands k n c := by
  have hminute : (s.raise k n c e).minute = s.minute := by simp
  obtain ⟨t, ht, habout, hentries⟩ | hentries := State.raise_entries hroom k n c e
  · rw [State.Stands, hentries, hminute]
    refine ⟨t.again s.minute e, List.mem_map.2 ⟨t, ht, if_pos rfl⟩, habout, ?_, rfl, fun u hu hnum => ?_⟩
    · dsimp only [Ticket.again]
      split
      · exact nofun
      · assumption
    · obtain ⟨v, -, rfl⟩ := List.mem_map.1 hu
      by_cases hv : v.number = t.number
      · rw [if_pos hv]
        exact habout
      · rw [if_neg hv] at hnum
        exact absurd hnum hv
  · rw [State.Stands, hentries, hminute]
    refine ⟨_, List.mem_append_right _ (List.mem_singleton_self _), ⟨rfl, rfl, rfl⟩, nofun, rfl, fun u hu hnum => ?_⟩
    obtain hu | hu := List.mem_append.1 hu
    · exact absurd hnum (State.newNumber_unheld hroom hu)
    · rw [List.mem_singleton.1 hu]
      exact ⟨rfl, rfl, rfl⟩

/-- The raise of another fault neither rewrites an entry that stands nor takes its number. -/
theorem State.Stands.raise {k' : SubjectKind} {n' : Nat} {c' : FaultClass} (hs : s.Stands k' n' c')
    (hne : ¬ (k = k' ∧ n = n' ∧ c = c')) : (s.raise k n c e).Stands k' n' c' := by
  obtain ⟨x, hx, habout, hstate, hseen, halone⟩ := hs
  have hminute : (s.raise k n c e).minute = s.minute := by simp
  obtain ⟨t, ht, ⟨rfl, rfl, rfl⟩, hentries⟩ | hentries := State.raise_entries hroom k n c e
  · have hapart : x.number ≠ t.number := fun hnum => hne (halone t ht hnum.symm)
    rw [State.Stands, hentries, hminute]
    refine ⟨x, List.mem_map.2 ⟨x, hx, if_neg hapart⟩, habout, hstate, hseen, fun u hu hnum => ?_⟩
    obtain ⟨v, hv, rfl⟩ := List.mem_map.1 hu
    by_cases hvt : v.number = t.number
    · rw [if_pos hvt] at hnum
      exact absurd hnum.symm hapart
    · rw [if_neg hvt] at hnum ⊢
      exact halone v hv hnum
  · rw [State.Stands, hentries, hminute]
    refine ⟨x, List.mem_append_left _ hx, habout, hstate, hseen, fun u hu hnum => ?_⟩
    obtain hu | hu := List.mem_append.1 hu
    · exact halone u hu hnum
    · rw [List.mem_singleton.1 hu] at hnum
      exact absurd hnum.symm (State.newNumber_unheld hroom hx)

end RaiseWithRoom

/-! ### The hour tick: ageing and assessment (R125 to R127) -/

/-- Steps that each rewrite the scales of one head, one for each head of a list: `K` is what the steps keep. -/
theorem State.foldl_headCal {K : State → Prop} {step : State → Nat → State} {g : Nat → HeadCal → HeadCal}
    (hkeep : ∀ {u h}, K u → K (step u h))
    (hstep : ∀ {u}, K u → ∀ h m, (step u h).headCal m = if m = h then g h (u.headCal h) else u.headCal m)
    {L : List Nat} (hL : L.Nodup) {s : State} (hs : K s) (m : Nat) :
    (L.foldl step s).headCal m = if m ∈ L then g m (s.headCal m) else s.headCal m := by
  induction L generalizing s with
  | nil => rfl
  | cons h L ih =>
    obtain ⟨hnot, hrest⟩ := List.nodup_cons.1 hL
    rw [List.foldl_cons, ih hrest (hkeep hs), hstep hs]
    by_cases hm : m = h
    · subst hm
      simp [hnot]
    · simp [hm]

theorem allChannels_nodup : allChannels.Nodup := by decide

/-- The part with all records of its heads one hour older (R125). -/
def State.grownOlder (s : State) : State :=
  allChannels.foldl (fun s h => s.setHeadCal h ((s.headCal h).map CalRec.older)) s

theorem State.tickHour_eq (s : State) : s.tickHour = allChannels.foldl State.assessHead s.grownOlder := rfl

theorem State.grownOlder_headCal (s : State) (h : Nat) :
    s.grownOlder.headCal h = if h ∈ allChannels then (s.headCal h).map CalRec.older else s.headCal h :=
  State.foldl_headCal (K := fun _ => True) (g := fun _ c => c.map CalRec.older) id
    (fun {u} _ h m => u.setHeadCal_headCal h m _) allChannels_nodup trivial h

theorem State.grownOlder_keeps (s : State) : s.grownOlder.params = s.params ∧ s.grownOlder.chans = s.chans ∧
    s.grownOlder.tickets = s.tickets ∧ s.grownOlder.minute = s.minute := by
  simp [State.grownOlder]

theorem HeadCal.any_calDue_iff (c : HeadCal) (umax : Nat) (temp : Option Int) :
    (c.any fun r => r.calDue umax temp) = true ↔ (c.map fun r => r.assessed umax temp).v.due = true ∨
      (c.map fun r => r.assessed umax temp).iHigh.due = true ∨ (c.map fun r => r.assessed umax temp).iLow.due = true := by
  simp [HeadCal.any, HeadCal.map, CalRec.assessed, or_assoc]

/-- The head is found due when it is assessed. -/
def State.headCalDue (s : State) (h : Nat) : Prop :=
  ((s.headCal h).any fun r => r.calDue s.params.umax (s.chan h).lastTemp) = true

theorem State.assessHead_due {s : State} {h : Nat} (hd : s.headCalDue h) : s.assessHead h =
    (s.setHeadCal h ((s.headCal h).map fun r => r.assessed s.params.umax (s.chan h).lastTemp)).raise .head h
      .headCalDue none :=
  if_pos hd

theorem State.assessHead_sound {s : State} {h : Nat} (hd : ¬ s.headCalDue h) : s.assessHead h =
    s.setHeadCal h ((s.headCal h).map fun r => r.assessed s.params.umax (s.chan h).lastTemp) :=
  if_neg hd

theorem State.assessHead_headCal (s : State) (h m : Nat) : (s.assessHead h).headCal m =
    if m = h then (s.headCal h).map fun r => r.assessed s.params.umax (s.chan h).lastTemp else s.headCal m := by
  by_cases hd : s.headCalDue h
  · rw [State.assessHead_due hd, State.raise_headCal, State.setHeadCal_headCal]
  · rw [State.assessHead_sound hd, State.setHeadCal_headCal]

theorem State.tickHour_headCal (s : State) (h : Nat) : s.tickHour.headCal h =
    if h ∈ allChannels then
      ((s.headCal h).map CalRec.older).map fun r => r.assessed s.params.umax (s.chan h).lastTemp
    else s.headCal h := by
  obtain ⟨hparams, hchans, -, -⟩ := s.grownOlder_keeps
  rw [State.tickHour_eq, State.foldl_headCal (K := fun u => u.params = s.params ∧ u.chans = s.chans)
    (g := fun m c => c.map fun r => r.assessed s.params.umax (s.chan m).lastTemp) (fun {u h} hu => ?_) (fun {u} hu h m => ?_)
    allChannels_nodup ⟨hparams, hchans⟩, State.grownOlder_headCal]
  · split <;> rfl
  · simpa using hu
  · obtain ⟨hp, hc⟩ := hu
    rw [State.assessHead_headCal, State.chan, State.chan, hp, hc]

/-! ### The hour tick: the tickets of the heads that are due (R127) -/

theorem State.assessHead_length {s : State} (hroom : s.tickets.entries.length < 256) (h : Nat) :
    (s.assessHead h).tickets.entries.length ≤ s.tickets.entries.length + 1 := by
  by_cases hd : s.headCalDue h
  · rw [State.assessHead_due hd]
    exact State.raise_length (s := s.setHeadCal ..) hroom ..
  · rw [State.assessHead_sound hd]
    exact Nat.le_succ _

theorem State.Stands.assessHead {s : State} {h g : Nat} (hs : s.Stands .head h .headCalDue)
    (hroom : s.tickets.entries.length < 256) (hne : g ≠ h) : (s.assessHead g).Stands .head h .headCalDue := by
  by_cases hd : s.headCalDue g
  · rw [State.assessHead_due hd]
    exact State.Stands.raise (s := s.setHeadCal ..) hroom _ _ _ _ hs fun ⟨_, heq, _⟩ => hne heq
  · rw [State.assessHead_sound hd]
    exact hs

theorem State.assessHead_stands {s : State} {h : Nat} (hd : s.headCalDue h) (hroom : s.tickets.entries.length < 256) :
    (s.assessHead h).Stands .head h .headCalDue := by
  rw [State.assessHead_due hd]
  exact State.raise_stands (s := s.setHeadCal ..) hroom ..

theorem State.headCalDue_assessHead {s : State} {h g : Nat} (hne : h ≠ g) :
    (s.assessHead g).headCalDue h ↔ s.headCalDue h := by
  simp [State.headCalDue, State.assessHead_headCal, hne, State.chan]

theorem State.Stands.foldl_assessHead {h : Nat} {L : List Nat} {s : State} (hs : s.Stands .head h .headCalDue)
    (hL : h ∉ L) (hroom : s.tickets.entries.length + L.length ≤ 256) :
    (L.foldl State.assessHead s).Stands .head h .headCalDue := by
  induction L generalizing s with
  | nil => exact hs
  | cons g L ih =>
    obtain ⟨hne, hnot⟩ := not_or.1 (mt List.mem_cons.2 hL)
    rw [List.length_cons] at hroom
    have hless : s.tickets.entries.length < 256 := by omega
    have hgrown := State.assessHead_length hless g
    exact ih (hs.assessHead hless (Ne.symm hne)) hnot (by omega)

/-- With room for a ticket of each head, every head that is due has one after all are assessed. -/
theorem State.foldl_assessHead_stands {h : Nat} {L : List Nat} (hL : L.Nodup) {s : State}
    (hroom : s.tickets.entries.length + L.length ≤ 256) (hh : h ∈ L) (hd : s.headCalDue h) :
    (L.foldl State.assessHead s).Stands .head h .headCalDue := by
  induction L generalizing s with
  | nil => cases hh
  | cons g L ih =>
    obtain ⟨hnot, hrest⟩ := List.nodup_cons.1 hL
    rw [List.length_cons] at hroom
    have hless : s.tickets.entries.length < 256 := by omega
    have hgrown := State.assessHead_length hless g
    have hleft : (s.assessHead g).tickets.entries.length + L.length ≤ 256 := by omega
    rw [List.foldl_cons]
    by_cases hg : h = g
    · subst hg
      exact (State.assessHead_stands hd hless).foldl_assessHead hnot hleft
    · exact ih hrest hleft ((List.mem_cons.1 hh).resolve_left hg) ((State.headCalDue_assessHead hg).2 hd)

theorem State.tickHour_stands {s : State} {h : Nat} (hh : h ∈ allChannels) (hroom : s.tickets.entries.length < 252)
    (hd : (s.tickHour.headCal h).v.due = true ∨ (s.tickHour.headCal h).iHigh.due = true ∨
      (s.tickHour.headCal h).iLow.due = true) : s.tickHour.Stands .head h .headCalDue := by
  obtain ⟨hparams, hchans, htickets, -⟩ := s.grownOlder_keeps
  rw [State.tickHour_headCal, if_pos hh] at hd
  have hchan : s.grownOlder.chan h = s.chan h := by rw [State.chan, hchans, State.chan]
  have hdue : s.grownOlder.headCalDue h := by
    rw [State.headCalDue, State.grownOlder_headCal, if_pos hh, hchan, hparams]
    exact (HeadCal.any_calDue_iff ..).2 hd
  rw [State.tickHour_eq]
  refine State.foldl_assessHead_stands allChannels_nodup ?_ hh hdue
  rw [htickets]
  exact (Nat.add_lt_add_right hroom 4).le

/-! ### A calibration run fails (R136) -/

theorem State.leaveRun_desk (s : State) (h : Nat) (headOut : Bool) : (s.leaveRun h headOut).desk = s.desk := by simp

section FailRun

variable {s : State} {h : Nat} {run : CalRun} {p : CalPhase} {x : CalCause} (hr : (s.chan h).run = some run)
  (hp : (s.chan h).calPhase = some p) (hx : x ≠ .restart)
include hr hp hx

theorem State.failRun_eq : s.failRun h x =
    (((s.idleHead h).raise .head h .headCalFail none).leaveRun h (s.chan h).headOut).respond run.tag .calFailed
      (byte1 h ++ byte1 p.code ++ byte1 x.code) := by
  simp only [State.failRun, hr, hp, if_neg hx]

/-- What a failed run leaves of the channel, the tickets and the notices. -/
theorem State.failRun_records :
    (s.failRun h x).chan h = { s.chan h with
      stage := if (s.chan h).headOut then .outOfService else .idle
      calPhase := none, run := none, epoch := (s.chan h).epoch + 1, intake := Intake.cold } ∧
    (s.failRun h x).tickets = (s.raise .head h .headCalFail none).tickets ∧
    (s.failRun h x).desk = ((s.raise .head h .headCalFail none).respond run.tag .calFailed
      (byte1 h ++ byte1 p.code ++ byte1 x.code)).desk := by
  have htickets : ((s.idleHead h).raise .head h .headCalFail none).tickets = (s.raise .head h .headCalFail none).tickets :=
    State.raise_tickets_congr (by simp) (by simp) ..
  have hdesk : ((s.idleHead h).raise .head h .headCalFail none).desk = (s.raise .head h .headCalFail none).desk :=
    State.raise_desk_congr (by simp) (by simp) (by simp) ..
  rw [State.failRun_eq hr hp hx]
  refine ⟨by simp [State.leaveRun, State.idleHead], by simpa using htickets, ?_⟩
  rw [State.respond_desk, State.respond_desk, State.leaveRun_desk, hdesk]

end FailRun

/-! ### The head timer (R99) -/

/-- The head is out of service, and HEAD_SILENT is raised on it (R99). -/
def State.silenced (s : State) (h : Nat) : State :=
  (s.setChan h { s.chan h with headOut := true }).raise .head h .headSilent none

theorem State.silenced_records (s : State) (h : Nat) :
    (s.silenced h).chan h = { s.chan h with headOut := true } ∧ (s.silenced h).cal = s.cal ∧
      (s.silenced h).minute = s.minute ∧ (s.silenced h).tickets = (s.raise .head h .headSilent none).tickets ∧
      (s.silenced h).desk = (s.raise .head h .headSilent none).desk :=
  ⟨by simp [State.silenced], by simp [State.silenced], by simp [State.silenced],
    State.raise_tickets_congr (by simp) (by simp) .., State.raise_desk_congr (by simp) (by simp) (by simp) ..⟩

theorem State.headSilent_test {s : State} {h : Nat} (hc : (s.chan h).stage ≠ .calibrating) :
    s.headSilent h = (s.silenced h).endByCause h .headFault := by
  have hstage : ((s.silenced h).chan h).stage = (s.chan h).stage := by rw [(s.silenced_records h).1]
  exact if_neg (hstage ▸ hc)

theorem State.headSilent_run {s : State} {h : Nat} (hc : (s.chan h).stage = .calibrating) :
    s.headSilent h = (s.silenced h).failRun h .silent := by
  have hstage : ((s.silenced h).chan h).stage = (s.chan h).stage := by rw [(s.silenced_records h).1]
  exact if_pos (hstage.trans hc)

/-- The test on a silent head is released with HEAD_FAULT. -/
theorem State.headSilent_releases {s : State} {h b : Nat} {t : TestRec}
    (hst : (s.chan h).stage ∈ [Stage.sourcing, .settling, .measuring]) (ht : (s.chan h).test = some t)
    (hb : (s.chan h).bus = some b) :
    (s.headSilent h).chan h = { s.chan h with
      headOut := true, stage := .releasing, test := some { t with outcome := some .headFault }, step := none
      epoch := (s.chan h).epoch + 1, intake := Intake.cold } ∧
    ((s.headSilent h).line t.line).access = .releasePending (some h) ∧
    (s.headSilent h).tickets = (s.raise .head h .headSilent none).tickets ∧
    (s.headSilent h).desk = (s.raise .head h .headSilent none).desk := by
  have hactive : (s.chan h).stage.active = true ∧ (s.chan h).stage ≠ .calibrating := by
    simp only [List.mem_cons, List.not_mem_nil, or_false] at hst
    obtain hst | hst | hst := hst <;> rw [hst] <;> exact ⟨rfl, nofun⟩
  obtain ⟨ha, hc⟩ := hactive
  obtain ⟨hchan, -, -, htickets, hdesk⟩ := s.silenced_records h
  obtain ⟨hended, hline, -, -⟩ := State.endByCause_records (s := s.silenced h) (by rw [hchan]; exact ha)
    (by rw [hchan]; exact ht) (by rw [hchan]; exact hb) .headFault
  rw [State.headSilent_test hc, hended, hline, hchan]
  exact ⟨rfl, rfl, by simpa using htickets, by simpa using hdesk⟩

/-- The calibration run on a silent head fails, with its own ticket behind the head's. -/
theorem State.headSilent_fails {s : State} {h : Nat} {run : CalRun} {p : CalPhase}
    (hc : (s.chan h).stage = .calibrating) (hr : (s.chan h).run = some run) (hp : (s.chan h).calPhase = some p) :
    (s.headSilent h).chan h = { s.chan h with
      headOut := true, stage := .outOfService, calPhase := none, run := none, epoch := (s.chan h).epoch + 1
      intake := Intake.cold } ∧
    (s.headSilent h).cal = s.cal ∧
    (s.headSilent h).tickets = ((s.raise .head h .headSilent none).raise .head h .headCalFail none).tickets ∧
    (s.headSilent h).desk = (((s.raise .head h .headSilent none).raise .head h .headCalFail none).respond run.tag
      .calFailed (byte1 h ++ byte1 p.code ++ byte1 3)).desk := by
  obtain ⟨hchan, hcal, hminute, htickets, hdesk⟩ := s.silenced_records h
  have hnow : (s.silenced h).minute = (s.raise .head h .headSilent none).minute := by rw [hminute]; simp
  obtain ⟨hfailed, hraised, hanswered⟩ := State.failRun_records (s := s.silenced h) (x := .silent)
    (by rw [hchan]; exact hr) (by rw [hchan]; exact hp) nofun
  rw [State.headSilent_run hc, hfailed, hraised, hanswered, hchan, State.respond_desk, State.respond_desk,
    State.raise_tickets_congr htickets hnow, State.raise_desk_congr htickets hdesk hnow]
  exact ⟨rfl, by simpa using hcal, rfl, rfl⟩

section HeadTimer

variable {s : State} {h : Nat}

theorem exec_headTimerExpiry_due {till : Time} (ht : (s.chan h).intake.timer = some till)
    (hdue : (s.now - till).toNat < 2 ^ 47)
    (hst : (s.chan h).stage ∈ [Stage.sourcing, .settling, .measuring, .calibrating]) :
    exec (.headTimerExpiry h) s = .next (s.headSilent h).settle := by
  have hrun : (s.chan h).intake.headDue s.now = true := by
    simp only [Intake.headDue, ht]
    exact reached_of_lt hdue
  exact if_pos ⟨(Stage.accepting_iff _).2 hst, hrun⟩

theorem exec_headTimerExpiry_deaf (hst : (s.chan h).stage ∈ [Stage.idle, .tapping, .releasing, .outOfService]) :
    exec (.headTimerExpiry h) s = .next s := by
  refine if_neg fun ⟨ha, _⟩ => ?_
  have hmem := (Stage.accepting_iff _).1 ha
  cases hg : (s.chan h).stage <;> simp [hg] at hst hmem

end HeadTimer

theorem exec_hourTick_due {s : State} (hd : s.hourDue = true) :
    exec .hourTick s = .next { s with hourDue := false }.tickHour := if_pos hd

theorem exec_hourTick_early {s : State} (hd : s.hourDue = false) : exec .hourTick s = .next s :=
  if_neg (Bool.eq_false_iff.1 hd)

/-- Settles O31: the expiry by what runs on the channel, then the tick by the records it writes and the tickets it raises. -/
theorem silentHeadAndHourTick : Obligations.SilentHeadAndHourTick := by
  refine ⟨fun s h till ht hdue => ⟨fun t b hst htest hbus => ?_, fun run p hst hrun hphase => ?_,
      exec_headTimerExpiry_deaf⟩, fun s => ⟨exec_hourTick_early, fun hd => ⟨_, exec_hourTick_due hd, ?_⟩⟩⟩
  · have haccepting : (s.chan h).stage ∈ [Stage.sourcing, .settling, .measuring, .calibrating] :=
      List.mem_append_left [Stage.calibrating] hst
    obtain ⟨hchan, hline, htickets, hdesk⟩ := State.headSilent_releases hst htest hbus
    refine ⟨s.headSilent h, exec_headTimerExpiry_due ht hdue haccepting, ?_⟩
    rw [hchan, htickets]
    refine ⟨rfl, rfl, rfl, hline, rfl, hdesk, fun hroom => ?_⟩
    obtain ⟨k, hk, hkind, hsubject, hcls, hstate, hseen, -⟩ := s.raise_makes .head h .headSilent none hroom
    exact ⟨k, hk, hkind, hsubject, hcls, hstate, hseen⟩
  · have haccepting : (s.chan h).stage ∈ [Stage.sourcing, .settling, .measuring, .calibrating] := by simp [hst]
    obtain ⟨hchan, hcal, htickets, hdesk⟩ := State.headSilent_fails hst hrun hphase
    refine ⟨s.headSilent h, exec_headTimerExpiry_due ht hdue haccepting, ?_⟩
    rw [hchan, hdesk]
    exact ⟨rfl, rfl, rfl, hcal, by simp [Result.code], htickets, rfl⟩
  · refine ⟨by simp, fun h hh => ?_, fun h hh => ?_, by simp, by simp, by simp, fun hroom h hh hdue => ?_⟩
    · rw [State.tickHour_headCal, if_pos ((mem_allChannels h).2 hh)]
      rfl
    · rw [State.tickHour_headCal, if_neg (mt (mem_allChannels h).1 (Nat.not_lt.2 hh))]
      rfl
    · obtain ⟨k, hk, ⟨hkind, hsubject, hcls⟩, hstate, hseen, -⟩ :=
        State.tickHour_stands (s := { s with hourDue := false }) ((mem_allChannels h).2 hh) hroom hdue
      exact ⟨k, hk, hkind, hsubject, hcls, hstate, hseen.trans (by simp)⟩

end Sys2Proof.Machine

end SampleIntake


/-! PROOFS of the family of measurement arithmetic: window means, the integer root, correction, saturation and the engineering
values.

The proofs are elaborated one after another, as in the families before. -/

section MeasurementArithmetic
set_option Elab.async false

namespace Sys2Proof.Machine

/-! ## O24: window means and the integer root (R110, R112) -/

/-! ### The mean of a sum (R110) -/

/-- The mean is the floor of the sum with half a sample count added. -/
theorem windowMean_floor (sum : Int) {n : Nat} (hn : 0 < n) :
    windowMean sum n * n ≤ sum + (n / 2 : Nat) ∧ sum + (n / 2 : Nat) < (windowMean sum n + 1) * n :=
  ⟨Int.ediv_mul_le _ (by omega), Int.lt_ediv_add_one_mul_self _ (by omega)⟩

/-- The half added is less than one code, so the mean of codes is a code. -/
theorem windowMean_code {sum : Int} {n : Nat} (hn : 0 < n) (hlo : -32768 * n ≤ sum) (hhi : sum ≤ 32767 * n) :
    -32768 ≤ windowMean sum n ∧ windowMean sum n ≤ 32767 := by
  have hpos : (0 : Int) < n := by omega
  refine ⟨(Int.le_ediv_iff_mul_le hpos).2 (by omega), Int.lt_add_one_iff.1 ?_⟩
  exact (Int.ediv_lt_iff_lt_mul hpos).2 (by omega)

/-- What R110 says of a window's mean, over 2 ^ k samples. -/
theorem windowMean_two_pow (sum : Int) (k : Nat) (hlo : -32768 * 2 ^ k ≤ sum) (hhi : sum ≤ 32767 * 2 ^ k) :
    windowMean sum (2 ^ k) * 2 ^ k ≤ sum + 2 ^ k / 2 ∧ sum + 2 ^ k / 2 < (windowMean sum (2 ^ k) + 1) * 2 ^ k ∧
      -32768 ≤ windowMean sum (2 ^ k) ∧ windowMean sum (2 ^ k) ≤ 32767 := by
  have hpos : 0 < 2 ^ k := Nat.two_pow_pos k
  have hcast : ((2 ^ k : Nat) : Int) = 2 ^ k := by simp
  obtain ⟨hle, hlt⟩ := windowMean_floor sum hpos
  rw [Int.natCast_ediv, hcast] at hle hlt
  rw [← hcast] at hlo hhi
  exact ⟨hle, hlt, windowMean_code hpos hlo hhi⟩

/-! ### The integer root (R112) -/

/-- The root lies from `r` up to below `r + 2 ^ bits`, and every bit decided halves that interval. -/
theorem rootBits_eq_sqrt {bits r d : Nat} (hlo : r * r ≤ d) (hhi : d < (r + 2 ^ bits) * (r + 2 ^ bits)) :
    rootBits bits r d = d.sqrt := by
  induction bits generalizing r with
  | zero => exact Nat.eq_sqrt.2 ⟨hlo, hhi⟩
  | succ bits ih =>
    rw [rootBits]
    by_cases hbit : (r + 2 ^ bits) * (r + 2 ^ bits) ≤ d
    · rw [if_pos hbit]
      refine ih hbit ?_
      rwa [Nat.pow_succ, Nat.mul_two, ← Nat.add_assoc] at hhi
    · rw [if_neg hbit]
      exact ih hlo (Nat.lt_of_not_le hbit)

/-- 17 bits hold the root of every residue. -/
theorem isqrt_eq_sqrt {d : Nat} (hd : d ≤ 1073741824) : isqrt d = d.sqrt :=
  rootBits_eq_sqrt (Nat.zero_le d) (by omega)

theorem isqrt_unique {d r : Nat} (hd : d ≤ 1073741824) (hlo : r * r ≤ d) (hhi : d < (r + 1) * (r + 1)) : isqrt d = r := by
  rw [isqrt_eq_sqrt hd]
  exact (Nat.eq_sqrt.2 ⟨hlo, hhi⟩).symm

/-- Settles O24: a mean by its floor, the root as the library's. -/
theorem windowMeansAndRoot : Obligations.WindowMeansAndRoot := by
  refine ⟨fun w _ _ => ⟨windowMean_two_pow w.sv w.k, windowMean_two_pow w.si w.k⟩, fun d hd => ?_⟩
  rw [isqrt_eq_sqrt hd]
  have hroot : d.sqrt < 32769 := Nat.sqrt_lt.2 (by omega)
  exact ⟨Nat.sqrt_le d, Nat.lt_succ_sqrt d, by omega⟩

end Sys2Proof.Machine

namespace Sys2Proof.Machine

/-! ## O25: corrected codes and engineering values (R111 to R122) -/

/-! ### Saturation and millivolts (R113 to R118) -/

theorem saturate_code (c : Int) : -32768 ≤ saturate c ∧ saturate c ≤ 32767 := by
  unfold saturate
  omega

theorem saturate_of_nonneg {c : Int} (hc : 0 ≤ c) : saturate c = min 32767 c := by
  unfold saturate
  omega

theorem clips_iff (c : Int) : clips c = true ↔ saturate c ≠ c := bne_iff_ne

theorem millivolts_range {c : Int} (hc : -32768 ≤ c ∧ c ≤ 32767) : -250000 ≤ millivolts c ∧ millivolts c ≤ 249992 := by
  unfold millivolts
  omega

/-! ### The residue and the corrected root (R111, R115) -/

theorem acResidue_eq (sq : Nat) (vm : Int) : acResidue sq vm = (max 0 ((sq : Int) - vm * vm)).toNat := by
  unfold acResidue
  omega

theorem acResidue_le (sq : Nat) (vm : Int) : acResidue sq vm ≤ sq := by
  have hsquare : 0 ≤ vm * vm := mul_self_nonneg vm
  unfold acResidue
  omega

theorem corrected_root (r gain : Nat) : corrected r 0 gain = ((r : Int) * gain + 8192) / 16384 := by
  rw [corrected, sub_zero]

/-- A root, being not negative, is saturated at the upper end only. -/
theorem saturate_corrected_root (r gain : Nat) : saturate (corrected r 0 gain) = min 32767 (corrected r 0 gain) := by
  refine saturate_of_nonneg ?_
  rw [corrected_root]
  positivity

/-- The evaluation of a VAC window by any number that is the root of its residue (R118). -/
theorem measureVac_of_root {w : Window} {r : Nat} (v : CalRec) (hsq : w.sq ≤ 1073741824)
    (hlo : r * r ≤ acResidue w.sq w.vMean) (hhi : acResidue w.sq w.vMean < (r + 1) * (r + 1)) :
    measureVac w v =
      ⟨millivolts (saturate (corrected r 0 v.gain)), (millivolts (saturate (corrected r 0 v.gain))).natAbs,
        w.vClip || clips (corrected r 0 v.gain), false, false⟩ := by
  have hroot : isqrt (acResidue w.sq w.vMean) = r := isqrt_unique ((acResidue_le _ _).trans hsq) hlo hhi
  rw [measureVac, hroot]

/-! ### The resistance (R119 to R122) -/

section Resistance

variable {w : Window} {v i : CalRec} {range : Range}

theorem measureRes_clipped : (measureRes w v i range).clipped =
    (w.vClip || w.iClip || clips (corrected w.vMean v.offset v.gain) || clips (corrected w.iMean i.offset i.gain)) := by
  unfold measureRes
  dsimp only
  split <;> rfl

theorem measureRes_compared : (measureRes w v i range).compared = (measureRes w v i range).value.natAbs := by
  unfold measureRes
  dsimp only
  split <;> rfl

theorem measureRes_open (hopen : (saturate (corrected w.iMean i.offset i.gain)).natAbs < 16) :
    (measureRes w v i range).value = maxOhms ∧ (measureRes w v i range).openLoop = true ∧
      (measureRes w v i range).reversed = false := by
  rw [measureRes, if_pos hopen]
  exact ⟨rfl, rfl, rfl⟩

theorem measureRes_closed (hclosed : 16 ≤ (saturate (corrected w.iMean i.offset i.gain)).natAbs) :
    let vc := saturate (corrected w.vMean v.offset v.gain)
    let ic := saturate (corrected w.iMean i.offset i.gain)
    (measureRes w v i range).openLoop = false ∧
      (measureRes w v i range).value = (min maxOhms (vc.natAbs * range.ratio / ic.natAbs) : Nat) ∧
      ((measureRes w v i range).reversed = true ↔ (vc < 0 ∧ 0 < ic) ∨ (0 < vc ∧ ic < 0)) := by
  rw [measureRes, if_neg (Nat.not_lt.2 hclosed)]
  refine ⟨rfl, rfl, ?_⟩
  rw [Bool.or_eq_true, decide_eq_true_iff, decide_eq_true_iff]

theorem measureRes_value_range : 0 ≤ (measureRes w v i range).value ∧ (measureRes w v i range).value ≤ 99999999 := by
  rcases Nat.lt_or_ge (saturate (corrected w.iMean i.offset i.gain)).natAbs 16 with hopen | hclosed
  · obtain ⟨hvalue, -, -⟩ := measureRes_open (v := v) (range := range) hopen
    rw [hvalue]
    decide
  · obtain ⟨-, hvalue, -⟩ := measureRes_closed (v := v) (range := range) hclosed
    rw [hvalue]
    exact ⟨Int.natCast_nonneg _, Int.ofNat_le.2 (min_le_left _ _)⟩

end Resistance

/-- Settles O25: the records an evaluation hands over, kind by kind. -/
theorem engineeringValues : Obligations.EngineeringValues := by
  refine ⟨fun w v i range => ⟨measureRes_open, fun hclosed => ?_, measureRes_compared, measureRes_value_range⟩,
    fun w v => ?_, fun w v o => rfl, fun w v => ⟨rfl, rfl, ?_, rfl, rfl⟩, fun w v r hsq => ?_, fun w v i range => ?_⟩
  · obtain ⟨hloop, hvalue, hreversed⟩ := measureRes_closed (v := v) (range := range) hclosed
    refine ⟨hloop, hvalue.trans ?_, hreversed⟩
    cases range <;> rfl
  · obtain ⟨hlo, hhi⟩ := millivolts_range (saturate_code (corrected w.vMean v.offset v.gain))
    exact ⟨hlo, hhi, rfl⟩
  · exact Bool.or_eq_true_iff.trans (or_congr_right (clips_iff _))
  · rw [← acResidue_eq]
    intro d hlo hhi
    rw [measureVac_of_root v hsq hlo hhi, ← corrected_root]
    dsimp only
    rw [← saturate_corrected_root]
    exact ⟨rfl, rfl, Bool.or_eq_true_iff.trans (or_congr_right (clips_iff _)), rfl, rfl⟩
  · rw [measureRes_clipped, Bool.or_eq_true, Bool.or_eq_true, Bool.or_eq_true, clips_iff, clips_iff, or_assoc, or_assoc]
    rfl

end Sys2Proof.Machine

end MeasurementArithmetic



/-! PROOFS of the family of calibration: the scale of a zero and a reference, the phases of a calibration run with its success and
its failure, LOAD_PROFILE and SET_CAL_COEF.

The proofs are elaborated one after another, as in the families before. -/

section Calibration
set_option Elab.async false

namespace Sys2Proof.Machine

/-! ## O27: scales and calibration runs (R134 to R137) -/

/-! ### A scale from its zero and its reference (R135) -/

/-- The gain of a span, 24576 / span in Q14 to the nearest. `computeScale_of_pos` ties it to the scale. -/
def spanGain (span : Int) : Int := (402653184 + span / 2) / span

theorem computeScale_noSpan {z r : Int} (h : r - z ≤ 0) : computeScale z r = .error .span := if_pos h

theorem computeScale_of_pos {z r : Int} (h : 0 < r - z) : computeScale z r =
    if spanGain (r - z) < 8192 ∨ 24575 < spanGain (r - z) then .error .gain
    else .ok ⟨max (-2048) (min 2047 z), (spanGain (r - z)).toNat⟩ := if_neg (Int.not_le.2 h)

/-- The gain is the floor of the quotient with half a span added. -/
theorem spanGain_floor {span : Int} (h : 0 < span) :
    spanGain span * span ≤ 402653184 + span / 2 ∧ 402653184 + span / 2 < (spanGain span + 1) * span :=
  ⟨Int.ediv_mul_le _ h.ne', Int.lt_ediv_add_one_mul_self _ h⟩

theorem spanGain_low_iff {span : Int} (h : 0 < span) : spanGain span < 8192 ↔ 49155 < span := by
  rw [spanGain, Int.ediv_lt_iff_lt_mul h]
  omega

theorem spanGain_high_iff {span : Int} (h : 0 < span) : 24575 < spanGain span ↔ span < 16385 := by
  rw [← Int.add_one_le_iff, spanGain, Int.le_ediv_iff_mul_le h]
  omega

theorem computeScale_gain {z r : Int} (h : 0 < r - z) (hout : r - z < 16385 ∨ 49155 < r - z) :
    computeScale z r = .error .gain :=
  (computeScale_of_pos h).trans (if_pos (hout.symm.imp (spanGain_low_iff h).2 (spanGain_high_iff h).2))

theorem computeScale_ok {z r : Int} (hlo : 16385 ≤ r - z) (hhi : r - z ≤ 49155) : ∃ k, computeScale z r = .ok k ∧
    k.offset = max (-2048) (min 2047 z) ∧ 8192 ≤ k.gain ∧ k.gain ≤ 24575 ∧
    (k.gain : Int) * (r - z) ≤ 402653184 + (r - z) / 2 ∧ 402653184 + (r - z) / 2 < (k.gain + 1 : Int) * (r - z) := by
  have hpos : 0 < r - z := by omega
  have hlow := spanGain_low_iff hpos
  have hhigh := spanGain_high_iff hpos
  have hgain : ((spanGain (r - z)).toNat : Int) = spanGain (r - z) := Int.toNat_of_nonneg (by omega)
  refine ⟨⟨_, (spanGain (r - z)).toNat⟩, (computeScale_of_pos hpos).trans (if_neg (by omega)), rfl, ?_, ?_, ?_⟩
  · dsimp only; omega
  · dsimp only; omega
  · rw [hgain]
    exact spanGain_floor hpos

/-! ### A run goes on (R134) -/

/-- `u` is `s` with the next phase of the run on channel `h` begun under a new epoch, its directive offered and nothing written of
the scales, the notices and the tickets. -/
def State.GoesOn (s : State) (h : Nat) (next : CalPhase) (run : CalRun) (u : State) : Prop :=
  u.chan h = { s.chan h with
    calPhase := some next, epoch := (s.chan h).epoch + 1, run := some run
    intake := { Intake.cold with tie := some s.link.serial } } ∧
  u.ownFrames = s.ownFrames ++ [⟨calDirective h ((s.chan h).epoch + 1) next, s.link.serial,
    .head h ((s.chan h).epoch + 1)⟩] ∧
  u.cal = s.cal ∧ u.desk = s.desk ∧ u.tickets = s.tickets

theorem State.beginPhase_goesOn (s : State) (h : Nat) (next : CalPhase) (run : CalRun) :
    s.GoesOn h next run ((s.setRun h run).beginPhase h next) := by
  refine ⟨by simp [State.beginPhase, State.setRun], ?_, by simp, by simp, by simp⟩
  rw [State.beginPhase, State.offer_ownFrames]
  simp [State.ownFrames, State.setRun]

section Phases

variable {s : State} {h : Nat} {run : CalRun} (w : Window) (hr : (s.chan h).run = some run)
include hr

theorem State.phaseDone_zHigh (hp : (s.chan h).calPhase = some .zHigh) :
    s.GoesOn h .zLow { run with zV := some w.vMean, zIH := some w.iMean } (s.phaseDone h w) := by
  simp only [State.phaseDone, hr, hp]
  exact s.beginPhase_goesOn ..

theorem State.phaseDone_zLow (hp : (s.chan h).calPhase = some .zLow) :
    s.GoesOn h .refV { run with zIL := some w.iMean } (s.phaseDone h w) := by
  simp only [State.phaseDone, hr, hp]
  exact s.beginPhase_goesOn ..

theorem State.phaseDone_refV {z : Int} (hp : (s.chan h).calPhase = some .refV) (hz : run.zV = some z) :
    (∀ x, computeScale z w.vMean = .error x → s.phaseDone h w = s.failRun h x) ∧
    (∀ k, computeScale z w.vMean = .ok k →
      s.GoesOn h .refIHigh { run with rV := some w.vMean, candV := some k } (s.phaseDone h w)) := by
  refine ⟨fun x hx => ?_, fun k hk => ?_⟩
  · simp only [State.phaseDone, hr, hp, hz, Option.getD_some, hx]
  · simp only [State.phaseDone, hr, hp, hz, Option.getD_some, hk]
    exact s.beginPhase_goesOn ..

theorem State.phaseDone_refIHigh {z : Int} (hp : (s.chan h).calPhase = some .refIHigh) (hz : run.zIH = some z) :
    (∀ x, computeScale z w.iMean = .error x → s.phaseDone h w = s.failRun h x) ∧
    (∀ k, computeScale z w.iMean = .ok k →
      s.GoesOn h .refILow { run with rIH := some w.iMean, candIH := some k } (s.phaseDone h w)) := by
  refine ⟨fun x hx => ?_, fun k hk => ?_⟩
  · simp only [State.phaseDone, hr, hp, hz, Option.getD_some, hx]
  · simp only [State.phaseDone, hr, hp, hz, Option.getD_some, hk]
    exact s.beginPhase_goesOn ..

/-- The last reference ends the run, one way or the other. -/
theorem State.phaseDone_refILow {z : Int} {v ih : Candidate} (hp : (s.chan h).calPhase = some .refILow)
    (hz : run.zIL = some z) (hv : run.candV = some v) (hih : run.candIH = some ih) :
    (∀ x, computeScale z w.iMean = .error x → s.phaseDone h w = s.failRun h x) ∧
    (∀ il, computeScale z w.iMean = .ok il → s.phaseDone h w = s.finishRun h run v ih il w.temp) := by
  refine ⟨fun x hx => ?_, fun il hil => ?_⟩
  · simp only [State.phaseDone, hr, hp, hz, Option.getD_some, hx]
  · simp only [State.phaseDone, hr, hp, hz, hv, hih, Option.getD_some, hil]

end Phases

/-! ### The end of a run (R136, R137) -/

theorem State.idleHead_ownFrames (s : State) (h : Nat) : (s.idleHead h).ownFrames =
    s.ownFrames ++ [⟨idleDirective h ((s.chan h).epoch + 1), s.link.serial, .untied⟩] := by
  rw [State.idleHead, State.offer_ownFrames]
  simp [State.ownFrames]

theorem State.leaveRun_ownFrames (s : State) (h : Nat) (headOut : Bool) :
    (s.leaveRun h headOut).ownFrames = s.ownFrames := by
  simp [State.ownFrames]

theorem State.clearTicket_ownFrames (s : State) (k : SubjectKind) (n : Nat) (c : FaultClass) :
    (s.clearTicket k n c).ownFrames = s.ownFrames := by
  simp [State.ownFrames]

theorem State.failRun_ownFrames {s : State} {h : Nat} {run : CalRun} {p : CalPhase} {x : CalCause}
    (hr : (s.chan h).run = some run) (hp : (s.chan h).calPhase = some p) (hx : x ≠ .restart) :
    (s.failRun h x).ownFrames =
      s.ownFrames ++ [⟨idleDirective h ((s.chan h).epoch + 1), s.link.serial, .untied⟩] := by
  rw [State.failRun_eq hr hp hx, State.respond_ownFrames, State.leaveRun_ownFrames, State.raise_ownFrames,
    State.idleHead_ownFrames]

/-- Behind whatever notices came before, a response is the last one in the queue. -/
theorem State.getLast_of_respond {u v : State} {tag : Byte} {r : Result} {body : Bytes}
    (hd : u.desk = (v.respond tag r body).desk) :
    u.desk.notices.getLast? = some ⟨tag, .response, r.code, body⟩ := by
  rw [hd]
  simp

/-- The three tickets of a head, cleared in the order in which step 3 of R137 names them (log entry 43). -/
def State.clearHeadTickets (s : State) (h : Nat) : State :=
  ((s.clearTicket .head h .headCalDue).clearTicket .head h .headCalFail).clearTicket .head h .headSilent

theorem State.clearHeadTickets_congr {v w : State} (ht : v.tickets = w.tickets) (hd : v.desk = w.desk) (h : Nat) :
    (v.clearHeadTickets h).tickets = (w.clearHeadTickets h).tickets ∧
      (v.clearHeadTickets h).desk = (w.clearHeadTickets h).desk := by
  obtain ⟨ht1, hd1⟩ := State.clearTicket_congr ht hd .head h .headCalDue
  obtain ⟨ht2, hd2⟩ := State.clearTicket_congr ht1 hd1 .head h .headCalFail
  exact State.clearTicket_congr ht2 hd2 .head h .headSilent

theorem State.leaveRun_inService (s : State) (h : Nat) : (s.leaveRun h false).sweep.attemptDue = true := by
  simp [State.leaveRun, State.noteIdle]

/-- A successful run's head before its tickets are cleared: idle, with its three scales renewed (R137). -/
def State.renewScales (s : State) (h : Nat) (v ih il : Candidate) (temp : Int) : State :=
  (s.idleHead h).setHeadCal h
    ⟨(s.headCal h).v.renewed v temp, (s.headCal h).iHigh.renewed ih temp, (s.headCal h).iLow.renewed il temp⟩

section FinishRun

variable (s : State) (h : Nat) (run : CalRun) (v ih il : Candidate) (temp : Int)

theorem State.finishRun_eq : s.finishRun h run v ih il temp =
    (((s.renewScales h v ih il temp).clearHeadTickets h).leaveRun h false).respond run.tag .ok
      (calBody h v ih il temp) := by
  have hcal : (s.idleHead h).headCal h = s.headCal h := by simp [State.headCal]
  rw [State.finishRun, hcal]
  rfl

/-- What a successful run leaves of the channels, the scales and the sweep. -/
theorem State.finishRun_records :
    (s.finishRun h run v ih il temp).chan h = { s.chan h with
      stage := .idle, headOut := false, calPhase := none, run := none, epoch := (s.chan h).epoch + 1
      intake := Intake.cold } ∧
    (s.finishRun h run v ih il temp).headCal h =
      ⟨(s.headCal h).v.renewed v temp, (s.headCal h).iHigh.renewed ih temp, (s.headCal h).iLow.renewed il temp⟩ ∧
    (∀ g, g ≠ h → (s.finishRun h run v ih il temp).headCal g = s.headCal g ∧
      (s.finishRun h run v ih il temp).chan g = s.chan g) ∧
    (s.finishRun h run v ih il temp).sweep.attemptDue = true := by
  rw [State.finishRun_eq]
  refine ⟨?_, ?_, fun g hg => ⟨?_, ?_⟩, ?_⟩
  · simp [State.leaveRun, State.clearHeadTickets, State.renewScales, State.idleHead]
  · simp [State.headCal, State.clearHeadTickets, State.renewScales]
  · simp [State.headCal, State.clearHeadTickets, State.renewScales, hg]
  · simp [State.leaveRun, State.clearHeadTickets, State.renewScales, State.idleHead, hg]
  · simpa using State.leaveRun_inService _ h

/-- What a successful run leaves of the frames, the tickets and the notices. -/
theorem State.finishRun_sent :
    (s.finishRun h run v ih il temp).ownFrames =
      s.ownFrames ++ [⟨idleDirective h ((s.chan h).epoch + 1), s.link.serial, .untied⟩] ∧
    (s.finishRun h run v ih il temp).tickets = (s.clearHeadTickets h).tickets ∧
    (s.finishRun h run v ih il temp).desk =
      ((s.clearHeadTickets h).respond run.tag .ok (calBody h v ih il temp)).desk := by
  obtain ⟨htickets, hdesk⟩ := State.clearHeadTickets_congr (v := s.renewScales h v ih il temp) (w := s)
    (by simp [State.renewScales]) (by simp [State.renewScales]) h
  rw [State.finishRun_eq]
  refine ⟨?_, by simpa using htickets, ?_⟩
  · rw [State.respond_ownFrames, State.leaveRun_ownFrames, State.clearHeadTickets, State.clearTicket_ownFrames,
      State.clearTicket_ownFrames, State.clearTicket_ownFrames]
    exact s.idleHead_ownFrames h
  · rw [State.respond_desk, State.respond_desk, State.leaveRun_desk, hdesk]

end FinishRun

/-- Settles O27: the scale by its span, the run phase by phase, then its success and its failure. -/
theorem scaleComputation : Obligations.ScaleComputation := by
  refine ⟨fun z r => ⟨computeScale_noSpan, computeScale_gain, computeScale_ok⟩, fun s h run w hr =>
    ⟨State.phaseDone_zHigh w hr, State.phaseDone_zLow w hr, fun z => State.phaseDone_refV w hr,
      fun z => State.phaseDone_refIHigh w hr, fun z v ih hp hz hv hih => ?_, fun p x hp hx => ?_⟩⟩
  · obtain ⟨hfails, hsucceeds⟩ := State.phaseDone_refILow w hr hp hz hv hih
    refine ⟨hfails, fun il hil => ?_⟩
    obtain ⟨hchan, hcal, hothers, hattempt⟩ := s.finishRun_records h run v ih il w.temp
    obtain ⟨hown, htickets, hdesk⟩ := s.finishRun_sent h run v ih il w.temp
    rw [hsucceeds il hil]
    exact ⟨hchan, hcal, hothers, hown, htickets, hdesk, State.getLast_of_respond hdesk, hattempt⟩
  · obtain ⟨hchan, htickets, hdesk⟩ := State.failRun_records hr hp hx
    exact ⟨hchan, by simp, State.failRun_ownFrames hr hp hx, htickets, hdesk, State.getLast_of_respond hdesk⟩

end Sys2Proof.Machine

namespace Sys2Proof.Machine

/-! ## O54: LOAD_PROFILE and SET_CAL_COEF (R129, R132) -/

/-! ### The limits in the parameters -/

/-- What the desk sends for a value is read as that value. -/
theorem quad_byte4 {v : Nat} (hv : v < 4294967296) :
    quad (BitVec.ofNat 8 (v / 16777216)) (BitVec.ofNat 8 (v / 65536)) (BitVec.ofNat 8 (v / 256)) (BitVec.ofNat 8 v) = v := by
  simp only [quad, BitVec.toNat_ofNat]
  omega

theorem readLimits_bytes {vs : List Nat} (hv : ∀ v ∈ vs, v < 4294967296) (extra : Bytes) :
    readLimits vs.length (vs.flatMap byte4 ++ extra) = some vs := by
  induction vs with
  | nil => rfl
  | cons v vs ih =>
    obtain ⟨hhead, htail⟩ := List.forall_mem_cons.1 hv
    simp only [List.flatMap_cons, byte4, List.cons_append, List.nil_append, List.length_cons, readLimits]
    rw [quad_byte4 hhead]
    exact congrArg (Option.map (v :: ·)) (ih htail)

theorem readLimits_short {n : Nat} {ps : Bytes} (h : ps.length < 4 * n) : readLimits n ps = none := by
  induction n, ps using readLimits.induct with
  | case1 => omega
  | case2 count a b c d rest ih =>
    rw [readLimits, ih (by simp only [List.length_cons] at h; omega)]
    rfl
  | case3 count ps hps =>
    rw [readLimits]
    exact hps

/-! ### The limits of a profile -/

section SetLimits

variable {s : State} {p i : Nat} {vs : List Nat}

theorem State.setLimits_eq : s.setLimits p i vs = { s with limits := (s.setLimits p i vs).limits } := by
  induction vs generalizing s i with
  | nil => rfl
  | cons v vs ih => exact ih

theorem State.setLimits_taking (rest : List Bytes) : (s.taking rest).setLimits p i vs = (s.setLimits p i vs).taking rest := by
  induction vs generalizing s i with
  | nil => rfl
  | cons v vs ih => exact ih (s := s.setLimit p i v)

theorem State.setLimits_other (hroom : i + vs.length ≤ 8) {q j : Nat} (hj : j < 8)
    (h : ¬ (q = p ∧ i ≤ j ∧ j < i + vs.length)) : (s.setLimits p i vs).limit q j = s.limit q j := by
  induction vs generalizing s i with
  | nil => rfl
  | cons v vs ih =>
    rw [List.length_cons] at hroom h
    rw [State.setLimits, ih (by omega) (by omega), State.setLimit_limit _ _ _ _ _ _ (by omega) hj, if_neg (by omega)]

theorem State.setLimits_written (hroom : i + vs.length ≤ 8) {k : Nat} (hk : k < vs.length) :
    some ((s.setLimits p i vs).limit p (i + k)) = vs[k]? := by
  induction vs generalizing s i k with
  | nil => cases hk
  | cons v vs ih =>
    rw [List.length_cons] at hroom hk
    rw [State.setLimits]
    cases k with
    | zero =>
      rw [State.setLimits_other (by omega) (by omega) (by omega), State.setLimit_limit _ _ _ _ _ _ (by omega) (by omega),
        if_pos ⟨rfl, rfl⟩]
      rfl
    | succ k =>
      rw [List.getElem?_cons_succ, ← ih (s := s.setLimit p i v) (i := i + 1) (by omega) (by omega), Nat.add_right_comm,
        Nat.add_assoc]

end SetLimits

/-! ### LOAD_PROFILE -/

section LoadProfile

variable {s : State} {tag p f n : Byte} {ps : Bytes} {rest : List Bytes}
  (hr : s.Ready .loadProfile tag (p :: f :: n :: ps) rest)
include hr

theorem exec_loadProfile_bad (h : 7 < p.toNat ∨ 7 < f.toNat ∨ n.toNat = 0 ∨ 8 < f.toNat + n.toNat) :
    exec .loadProfile s = .next (s.answered rest tag .badParam []) := by
  rw [exec_deskHandler_ready rfl hr, ← State.taking_respond hr.normal]
  exact congrArg _ (if_pos h)

theorem exec_loadProfile_short (h : ps.length < 4 * n.toNat) :
    exec .loadProfile s = .next (s.answered rest tag .badParam []) := by
  by_cases hbad : 7 < p.toNat ∨ 7 < f.toNat ∨ n.toNat = 0 ∨ 8 < f.toNat + n.toNat
  · exact exec_loadProfile_bad hr hbad
  · rw [exec_deskHandler_ready rfl hr, ← State.taking_respond hr.normal]
    simp only [deskHandler, State.doLoadProfile, if_neg hbad, readLimits_short h, State.badParam]

theorem exec_loadProfile_stored (hgood : ¬ (7 < p.toNat ∨ 7 < f.toNat ∨ n.toNat = 0 ∨ 8 < f.toNat + n.toNat))
    {vs : List Nat} (hvs : readLimits n.toNat ps = some vs) :
    exec .loadProfile s = .next ((s.setLimits p.toNat f.toNat vs).answered rest tag .ok
      ((s.setLimits p.toNat f.toNat vs).profileBody p.toNat)) := by
  have hnormal : (s.setLimits p.toNat f.toNat vs).phase = .normal := by simpa using hr.normal
  rw [exec_deskHandler_ready rfl hr, ← State.taking_respond hnormal]
  simp only [deskHandler, State.doLoadProfile, if_neg hgood, hvs, State.setLimits_taking]
  rfl

end LoadProfile

/-! ### SET_CAL_COEF -/

theorem scaleOf_eq_some (n : Nat) (x : Scale) : scaleOf n = some x ↔ n = x.code := by
  refine ⟨fun h => ?_, fun h => ?_⟩
  · unfold scaleOf at h
    split at h <;> cases h <;> rfl
  · subst h
    cases x <;> rfl

section SetCalCoef

variable {s : State} {tag n x u1 u0 kt ka : Byte} {ps : Bytes} {rest : List Bytes}
  (hr : s.Ready .setCalCoef tag (n :: x :: u1 :: u0 :: kt :: ka :: ps) rest)
include hr

theorem exec_setCalCoef_bad (h : 4 ≤ n.toNat ∨ 2 < x.toNat ∨ 100 < pair u1 u0) :
    exec .setCalCoef s = .next (s.answered rest tag .badParam []) := by
  rw [exec_deskHandler_ready rfl hr, ← State.taking_respond hr.normal]
  cases hx : scaleOf x.toNat with
  | none => simp only [deskHandler, State.doSetCalCoef, hx, State.badParam]
  | some scale =>
    have hcode : x.toNat ≤ 2 := by
      rw [(scaleOf_eq_some _ _).1 hx]
      cases scale <;> decide
    have hbad : Config.channels ≤ n.toNat ∨ 100 < pair u1 u0 := h.imp_right fun h => h.resolve_left (Nat.not_lt.2 hcode)
    simp only [deskHandler, State.doSetCalCoef, hx, if_pos hbad, State.badParam]

/-- A record with new coefficients; the rest of it, its due standing with it, is kept (R132). -/
theorem exec_setCalCoef_stored {scale : Scale} (hn : n.toNat < 4) (hx : scaleOf x.toNat = some scale)
    (hu : pair u1 u0 ≤ 100) :
    let r : CalRec := { (s.headCal n.toNat).scale scale with u0 := pair u1 u0, kT := kt.toNat, kA := ka.toNat }
    exec .setCalCoef s = .next ((s.setHeadCal n.toNat ((s.headCal n.toNat).setScale scale r)).answered rest tag .ok
      (coefBody n.toNat scale r (s.chan n.toNat).lastTemp)) := by
  intro r
  have hgood : ¬ (Config.channels ≤ n.toNat ∨ 100 < pair u1 u0) := not_or.2 ⟨Nat.not_le.2 hn, Nat.not_lt.2 hu⟩
  rw [exec_deskHandler_ready rfl hr, ← State.taking_respond (s := s.setHeadCal ..) hr.normal]
  simp only [deskHandler, State.doSetCalCoef, hx, if_neg hgood]
  rfl

end SetCalCoef

/-- Settles O54: LOAD_PROFILE refused and stored, SET_CAL_COEF the same, then the values that are missing. -/
theorem profileAndCoefficients : Obligations.ProfileAndCoefficients := by
  refine ⟨fun s tag p f n vs extra rest => ⟨fun ps => exec_loadProfile_bad, fun hr hp hf hn hroom hlen hv => ?_⟩,
    fun s tag n x u1 u0 kt ka extra rest hr => ⟨exec_setCalCoef_bad hr, fun scale hn hx hu => ?_⟩,
    fun s tag p f n ps rest hshort hr => exec_loadProfile_short hr hshort⟩
  · rw [← hlen] at hroom
    have hread : readLimits n.toNat (vs.flatMap byte4 ++ extra) = some vs := hlen ▸ readLimits_bytes hv extra
    refine ⟨_, exec_loadProfile_stored hr (by omega) hread, fun k => State.setLimits_written hroom,
      fun q j => State.setLimits_other hroom, ?_⟩
    exact congrArg (State.answered · rest tag .ok ((s.setLimits p.toNat f.toNat vs).profileBody p.toNat)) State.setLimits_eq
  · rw [(scaleOf_eq_some _ _).1 hx]
    exact exec_setCalCoef_stored hr hn hx hu

end Sys2Proof.Machine

end Calibration

/-! PROOFS of the family of foreign-voltage protection: what a trip leaves, and the exposure of a channel with a tap.

The proofs are elaborated one after another, as in the families before. -/

section ForeignVoltage
set_option Elab.async false

namespace Sys2Proof.Machine

/-! ## O30: the trip (R143, R144) -/

/-- The state in which a trip raises its ticket: the channel marked and released with PROTECTED, the line's hazard flag set
(R143, steps 1 to 3). -/
def State.protectiveRelease (s : State) (h : Nat) (t : TestRec) : State :=
  let u := (s.setChan h { s.chan h with protMark := true }).endByCause h .protective
  u.setLine t.line { u.line t.line with hazard := true }

/-- A trip is the protective release and then the raise of step 4. -/
theorem State.trip_eq {s : State} {h : Nat} {t : TestRec} (ht : (s.chan h).test = some t) :
    s.trip h = (s.protectiveRelease h t).raise .line t.line .foreignVoltage
      (((s.chan h).step.bind fun p => s.stepRec p.step).map fun r => tripEvidence r (s.chan h).peak t.originator) := by
  dsimp only [State.trip]
  split
  · next hnone => cases hnone.symm.trans ht
  · next u hu =>
    obtain rfl : u = t := Option.some.inj (hu.symm.trans ht)
    rfl

/-- The peak in millivolts, as R144 writes it. -/
theorem millivolts_natCast (n : Nat) : millivolts n = ((n * 250000 + 16384) / 32768 : Nat) := by
  simp [millivolts]

section Trip

variable {s : State} {h b : Nat} {t : TestRec} (ha : (s.chan h).stage.active = true) (ht : (s.chan h).test = some t)
  (hb : (s.chan h).bus = some b)
include ha ht hb

/-- The release by the records it writes. -/
theorem State.protectiveRelease_records :
    (s.protectiveRelease h t).chan h = { s.chan h with
      stage := .releasing, test := some { t with outcome := some .protective }, step := none
      epoch := (s.chan h).epoch + 1, intake := Intake.cold, protMark := true } ∧
    (s.protectiveRelease h t).line t.line = { s.line t.line with access := .releasePending (some h), hazard := true } ∧
    (s.protectiveRelease h t).ownFrames = s.ownFrames ++
      [⟨idleDirective h ((s.chan h).epoch + 1), s.link.serial, .untied⟩,
        ⟨tapReleaseFrame t.line b, s.link.serial + 1, .confirm b⟩] := by
  have hmarked : (s.setChan h { s.chan h with protMark := true }).chan h = { s.chan h with protMark := true } := by simp
  obtain ⟨hchan, hline, -, hown⟩ := State.endByCause_records (s := s.setChan h { s.chan h with protMark := true })
    (by rw [hmarked]; exact ha) (by rw [hmarked]; exact ht) (by rw [hmarked]; exact hb) .protective
  rw [hmarked] at hchan hown
  exact ⟨hchan, by simp [State.protectiveRelease, hline], hown⟩

theorem State.protectiveRelease_others {g : Nat} (hg : g ≠ h) : (s.protectiveRelease h t).chan g = s.chan g := by
  have hmarked : (s.setChan h { s.chan h with protMark := true }).chan h = { s.chan h with protMark := true } := by simp
  obtain ⟨hchans, -, -⟩ := State.endByCause_others (s := s.setChan h { s.chan h with protMark := true })
    (by rw [hmarked]; exact ha) (by rw [hmarked]; exact ht) (by rw [hmarked]; exact hb) .protective
  exact (hchans g hg).trans (by simp [hg])

omit ha ht hb in
/-- The release leaves everything that the raise reads (R168). -/
theorem State.protectiveRelease_keeps : (s.protectiveRelease h t).tickets = s.tickets ∧
    (s.protectiveRelease h t).desk = s.desk ∧ (s.protectiveRelease h t).minute = s.minute ∧
    (s.protectiveRelease h t).params = s.params := by
  simp [State.protectiveRelease]

/-- What a trip leaves of the channel: released with PROTECTED and marked, its exposure and its peak as they stand. -/
theorem State.trip_chan : (s.trip h).chan h = { s.chan h with
    stage := .releasing, test := some { t with outcome := some .protective }, step := none
    epoch := (s.chan h).epoch + 1, intake := Intake.cold, protMark := true } := by
  rw [State.trip_eq ht, State.raise_chan, (State.protectiveRelease_records ha ht hb).1]

theorem State.trip_otherChan {g : Nat} (hg : g ≠ h) : (s.trip h).chan g = s.chan g := by
  rw [State.trip_eq ht, State.raise_chan, State.protectiveRelease_others ha ht hb hg]

/-- The line of a trip is marked and released, the raise touching its open-ticket count at most. -/
theorem State.trip_line : ((s.trip h).line t.line).hazard = true ∧
    ((s.trip h).line t.line).access = .releasePending (some h) := by
  obtain ⟨-, hline, -⟩ := State.protectiveRelease_records ha ht hb
  rw [State.trip_eq ht]
  obtain ⟨-, -, haccess, hhazard, -⟩ := (State.raise_line (s.protectiveRelease h t) .line t.line .foreignVoltage
    (((s.chan h).step.bind fun p => s.stepRec p.step).map fun r => tripEvidence r (s.chan h).peak t.originator) t.line).fields
  rw [hline] at haccess hhazard
  exact ⟨hhazard, haccess⟩

theorem State.trip_ownFrames : (s.trip h).ownFrames = s.ownFrames ++
    [⟨idleDirective h ((s.chan h).epoch + 1), s.link.serial, .untied⟩,
      ⟨tapReleaseFrame t.line b, s.link.serial + 1, .confirm b⟩] := by
  rw [State.trip_eq ht, State.raise_ownFrames, (State.protectiveRelease_records ha ht hb).2.2]

omit ha hb in
/-- With room in the table a trip leaves its ticket, seen now and not CLEARED. -/
theorem State.trip_ticket (hroom : s.tickets.entries.length < 256) : ∃ k ∈ (s.trip h).tickets.entries,
    k.kind = .line ∧ k.subject = t.line ∧ k.cls = .foreignVoltage ∧ k.state ≠ .cleared ∧ k.lastSeen = s.minute := by
  obtain ⟨htickets, -, hminute, -⟩ := State.protectiveRelease_keeps (s := s) (h := h) (t := t)
  rw [State.trip_eq ht, ← hminute]
  obtain ⟨k, hk, hkind, hsubject, hcls, hstate, hseen, -⟩ := (s.protectiveRelease h t).raise_makes .line t.line
    .foreignVoltage _ (by rw [htickets]; exact hroom)
  exact ⟨k, hk, hkind, hsubject, hcls, hstate, hseen⟩

omit ha hb in
/-- The tickets and the notices of a trip in the step under way are those of a raise with its evidence (R144). -/
theorem State.trip_raises {p : Progress} {r : StepRec} (hp : (s.chan h).step = some p) (hr : s.stepRec p.step = some r) :
    let raised := s.raise .line t.line .foreignVoltage (some (tripEvidence r (s.chan h).peak t.originator))
    (s.trip h).tickets = raised.tickets ∧ (s.trip h).desk = raised.desk := by
  obtain ⟨htickets, hdesk, hminute, -⟩ := State.protectiveRelease_keeps (s := s) (h := h) (t := t)
  rw [State.trip_eq ht]
  simp only [hp, hr, Option.bind_some, Option.map_some]
  exact ⟨State.raise_tickets_congr htickets hminute .., State.raise_desk_congr htickets hdesk hminute ..⟩

end Trip

/-- Settles O30: the trip by the records of its release and by its ticket, then the raise by its evidence. -/
theorem protectiveTrip : Obligations.ProtectiveTrip := by
  refine ⟨fun s h b t ha ht hb => ?_, fun s h b t p r _ ht _ hp hr => ?_⟩
  · obtain ⟨hhazard, haccess⟩ := State.trip_line ha ht hb
    dsimp only
    rw [State.trip_chan ha ht hb]
    exact ⟨rfl, rfl, rfl, rfl, rfl, hhazard, haccess, State.trip_ownFrames ha ht hb, State.trip_ticket ht⟩
  · rw [← millivolts_natCast]
    exact State.trip_raises ht hp hr

end Sys2Proof.Machine

namespace Sys2Proof.Machine

/-! ## O41: no channel with a tap stands at or above the exposure limit (R143) -/

/-- A channel in TAPPING to MEASURING holds a test and a bus, and its exposure stands below the limit (R79, R143). -/
def Channel.Below (limit : Nat) (c : Channel) : Prop :=
  c.stage.active = true → c.test.isSome = true ∧ c.bus.isSome = true ∧ c.exposure < limit

theorem Channel.Below.of_inactive {c : Channel} (h : c.stage.active = false) (limit : Nat) : c.Below limit :=
  fun ha => absurd ha (by simp [h])

theorem State.exposureBelowLimit_iff (s : State) : s.ExposureBelowLimit ↔
    1 ≤ s.params.elim ∧ ∀ n, n < 4 → (s.chan n).Below s.params.elim :=
  ⟨fun ⟨hlimit, hholds, hbelow⟩ => ⟨hlimit, fun n hn ha => ⟨(hholds n hn ha).1, (hholds n hn ha).2, hbelow n hn ha⟩⟩,
    fun ⟨hlimit, hall⟩ => ⟨hlimit, fun n hn ha => ⟨(hall n hn ha).1, (hall n hn ha).2.1⟩, fun n hn ha => (hall n hn ha).2.2⟩⟩

theorem Stage.active_of_accepting {g : Stage} (h : g.accepting = true) (hc : g ≠ .calibrating) : g.active = true := by
  cases g <;> simp_all [Stage.accepting, Stage.active]

theorem Stage.inactive_of_quiet {g : Stage} (h : g.quiet = true) : g.active = false := by
  cases g <;> simp_all [Stage.quiet, Stage.active]

/-- The stage a channel falls back to holds no test. -/
theorem Stage.rest_inactive (out : Bool) : (if out then Stage.outOfService else .idle).active = false := by
  cases out <;> rfl

/-- A frame without a trip leaves the account below the limit, for a sample trips as soon as it brings it there (R141). -/
theorem Watch.foldl_below {vprot elim : Nat} (vs : List Int) {w : Watch} (hw : w.tripped = false → w.exposure < elim)
    (ht : (vs.foldl (Watch.sample vprot elim) w).tripped = false) :
    (vs.foldl (Watch.sample vprot elim) w).exposure < elim := by
  induction vs generalizing w with
  | nil => exact hw ht
  | cons v vs ih =>
    refine ih (fun hv => ?_) ht
    dsimp only [Watch.sample] at hv ⊢
    split
    · next htripped => simp [htripped] at hv
    split
    · next hquiet hloud => simpa [hquiet, hloud] using hv
    · next hquiet _ => exact hw (Bool.eq_false_iff.2 hquiet)

theorem watchFrame_below {vprot elim e peak : Nat} {vs : List Int} (he : e < elim)
    (ht : (watchFrame vprot elim e peak vs).tripped = false) : (watchFrame vprot elim e peak vs).exposure < elim := by
  have hfold := Watch.foldl_below (vprot := vprot) (elim := elim) (w := ⟨e, peak, false, false⟩) vs fun _ => he
  unfold watchFrame at ht ⊢
  dsimp only at ht ⊢
  split
  · next hx => exact hfold (by simpa [hx] using ht)
  · next hx => exact (Nat.div_le_self _ 2).trans_lt (hfold (by simpa [hx] using ht))

/-- Of the parameters only the exposure limit itself moves the limit; it is taken at rest and is at least 1 (R184). -/
theorem paramChange_elim {p : Params} {number value : Nat} {q : ParamChange} (hq : paramChange p number value = some q)
    (ha : q.allowed = true) : q.params.elim = p.elim ∨ (q.taken = .quiet ∧ 1 ≤ q.params.elim) := by
  unfold paramChange at hq
  split at hq
  case h_8 =>
    cases hq
    exact .inr ⟨rfl, (of_decide_eq_true ha).1⟩
  case h_15 => cases hq
  all_goals
    cases hq
    exact .inl rfl

/-- A channel enters TAPPING on its bus with its exposure and its peak at 0 (R56, R139). -/
theorem State.claimAndTap_chan (s : State) (n l b g : Nat) : (s.claimAndTap n l b).chan g =
    if g = n then { s.chan n with stage := .tapping, bus := some b, exposure := 0, peak := 0 } else s.chan g := by
  simp [State.claimAndTap, State.beginTapping]

theorem State.chan_congr {s t : State} (h : t.chans = s.chans) (n : Nat) : t.chan n = s.chan n := by
  rw [State.chan, h, State.chan]

namespace State.ExposureBelowLimit

/-- A limit of at least 1, and no channel with a tap. -/
theorem of_inactive {s : State} (hl : 1 ≤ s.params.elim) (hq : ∀ n, n < 4 → (s.chan n).stage.active = false) :
    s.ExposureBelowLimit :=
  s.exposureBelowLimit_iff.2 ⟨hl, fun n hn => .of_inactive (hq n hn) _⟩

section Writes

variable {s : State} (hs : s.ExposureBelowLimit) {n : Nat}
include hs

theorem chan (hn : n < 4) : (s.chan n).Below s.params.elim := (s.exposureBelowLimit_iff.1 hs).2 n hn

/-- An act that reaches one channel at most. -/
theorem one {t : State} (n : Nat) (hp : t.params = s.params) (ho : ∀ g, g ≠ n → t.chan g = s.chan g)
    (hc : n < 4 → (t.chan n).Below s.params.elim) : t.ExposureBelowLimit := by
  refine t.exposureBelowLimit_iff.2 ⟨hp ▸ hs.limit, fun g hg => ?_⟩
  rw [hp]
  by_cases he : g = n
  · exact he ▸ hc (he ▸ hg)
  · exact ho g he ▸ hs.chan hg

/-- An act that reaches no channel and no parameter. -/
theorem keep {t : State} (hc : t.chans = s.chans := by simp) (hp : t.params = s.params := by simp) :
    t.ExposureBelowLimit := by
  have hchan := State.chan_congr hc
  exact hs.one 0 hp (fun g _ => hchan g) fun hg => hchan 0 ▸ hs.chan hg

/-- A channel is written. -/
theorem write {c : Channel} (hc : n < 4 → c.Below s.params.elim) : (s.setChan n c).ExposureBelowLimit :=
  hs.one n rfl (fun g hg => by simp [hg]) (by simpa using hc)

/-- A channel is written in a stage without a tap. -/
theorem rest {c : Channel} (hc : c.stage.active = false) : (s.setChan n c).ExposureBelowLimit :=
  hs.write fun _ => .of_inactive hc _

/-- A channel with a tap is written, its test, its bus and its exposure kept. -/
theorem goOn {c : Channel} (ha : (s.chan n).stage.active = true)
    (ht : (s.chan n).test.isSome = true → c.test.isSome = true := by simp) (hb : c.bus = (s.chan n).bus := by rfl)
    (he : c.exposure = (s.chan n).exposure := by rfl) : (s.setChan n c).ExposureBelowLimit :=
  hs.write fun hn _ => by
    obtain ⟨htest, hbus, hbelow⟩ := hs.chan hn ha
    exact ⟨ht htest, hb ▸ hbus, he ▸ hbelow⟩

/-- A channel is written in its stage, its test, its bus and its exposure kept. -/
theorem same {c : Channel} (hst : c.stage = (s.chan n).stage := by rfl)
    (ht : (s.chan n).test.isSome = true → c.test.isSome = true := by simp) (hb : c.bus = (s.chan n).bus := by rfl)
    (he : c.exposure = (s.chan n).exposure := by rfl) : (s.setChan n c).ExposureBelowLimit := by
  cases ha : (s.chan n).stage.active with
  | true => exact hs.goOn ha ht hb he
  | false => exact hs.rest (hst ▸ ha)

/-! ### Tests taken and given up -/

theorem setBus {b r} : (s.setBus b r).ExposureBelowLimit := hs.keep

theorem setAccess {l a} : (s.setAccess l a).ExposureBelowLimit := hs.keep

theorem offer {b t} : (s.offer b t).ExposureBelowLimit := hs.keep

theorem raise {k j c e} : (s.raise k j c e).ExposureBelowLimit := hs.keep

theorem clear {k j c} : (s.clearTicket k j c).ExposureBelowLimit := hs.keep

theorem respond {t r b} : (s.respond t r b).ExposureBelowLimit := hs.keep

theorem noteIdle : (s.noteIdle n).ExposureBelowLimit := hs.keep

theorem releasePath {l b} : (s.releasePath l b).ExposureBelowLimit := hs.keep

/-- A channel enters TAPPING with its exposure at 0, which is below any limit (R139, R184). -/
theorem claimAndTap {l b} (ht : (s.chan n).test.isSome = true) : (s.claimAndTap n l b).ExposureBelowLimit :=
  hs.one n (by simp) (fun g hg => by rw [State.claimAndTap_chan, if_neg hg]) fun _ _ => by
    rw [State.claimAndTap_chan, if_pos rfl]
    exact ⟨ht, rfl, hs.limit⟩

theorem startTest {b t o} : (s.startTest n b t o).ExposureBelowLimit := claimAndTap hs.same (by simp)

theorem release {l b} : (s.release n l b).ExposureBelowLimit := by
  dsimp only [State.release]
  exact setBus (offer (offer (setAccess (hs.rest rfl))))

theorem endByCause {o} : (s.endByCause n o).ExposureBelowLimit := by
  dsimp only [State.endByCause]
  split
  · split
    · exact release hs.same
    · exact hs
  · exact hs

theorem yieldTrigger {l} : (s.yieldTrigger l).ExposureBelowLimit := by
  unfold State.yieldTrigger
  split
  · split
    · exact hs.endByCause
    · exact hs
  · exact hs

/-- Of the orders only a RING_START that is held for a line may end a test (R42). -/
theorem screen {f o} : (s.screen f o).ExposureBelowLimit := by
  by_cases ho : o.code ∈ [OrderCode.tapConnect, .tapRelease, .cardAudit]
  · rw [State.screen_relay ho]; exact hs.keep
  by_cases ha : (s.line o.line).access ∈ [Access.free, .stuck]
  · rw [State.screen_open ho ha]; exact hs.keep
  · rw [State.screen_held ho ha]
    have hheld : (s.holdOrder f o.line).ExposureBelowLimit := hs.keep
    split
    · exact hheld.yieldTrigger
    · exact hheld

/-! ### The Sweep Unit -/

omit hs in
/-- Of the Sweep Unit's acts only the start of a test writes a channel. -/
theorem sweepFree : SweepFree State.ExposureBelowLimit where
  sweep _ _ hs := hs.keep
  start _ _ _ _ _ _ _ hs := hs.startTest
  write _ _ _ _ hs := hs.keep
  raise _ _ _ _ hs := hs.keep
  clear _ _ hs := hs.keep
  note _ _ _ hs := hs.keep
  audit _ _ hs := hs.keep

theorem settle : s.settle.ExposureBelowLimit := sweepFree.settle hs

theorem runPass : s.runPass.ExposureBelowLimit := sweepFree.runPass hs

omit hs in
theorem fold {α : Type} {f : State → α → State} (L : List α) {s : State} (hs : s.ExposureBelowLimit)
    (hf : ∀ s a, s.ExposureBelowLimit → (f s a).ExposureBelowLimit) : (L.foldl f s).ExposureBelowLimit :=
  List.foldlRecOn L f hs fun s hs a _ => hf s a hs

/-! ### The end of a test and of a release -/

theorem endTest : (s.endTest n).ExposureBelowLimit := by
  have hgiven : (s.setChan n (s.chan n).givenUp).ExposureBelowLimit := hs.rest (Stage.rest_inactive _)
  dsimp only [State.endTest]
  split
  · exact hgiven.keep
  split
  · exact hgiven.keep
  split <;> exact hgiven.keep

theorem finishRelease : (s.finishRelease n).ExposureBelowLimit := by
  dsimp only [State.finishRelease]
  split
  · exact hs.endTest
  next t ht =>
  split
  · have hcleared : (s.setChan n { s.chan n with releaseLine := none, handover := false }).ExposureBelowLimit := hs.same
    split
    · exact hcleared.claimAndTap (by simp [ht])
    · exact endTest (releasePath hcleared.same)
  · split
    · exact endTest (releasePath hs.same)
    · exact hs.endTest

theorem freeClaim {b p} : (s.freeClaim b p).ExposureBelowLimit := hs.keep

theorem completeRelease {b l} : (s.completeRelease n b l).ExposureBelowLimit :=
  finishRelease (releasePath (same hs.freeClaim))

theorem stickRelay {b l} : (s.stickRelay b l).ExposureBelowLimit := hs.keep

theorem timeOutRelease {b l} : (s.timeOutRelease n b l).ExposureBelowLimit :=
  finishRelease (stickRelay hs.same)

/-! ### Calibration runs -/

theorem beginPhase {p} : (s.beginPhase n p).ExposureBelowLimit := offer hs.same

theorem beginRun {t} : (s.beginRun n t).ExposureBelowLimit := beginPhase (hs.rest rfl)

theorem idleHead : (s.idleHead n).ExposureBelowLimit := offer hs.same

theorem leaveRun {b} : (s.leaveRun n b).ExposureBelowLimit := noteIdle (hs.rest (Stage.rest_inactive b))

theorem failRun {c} : (s.failRun n c).ExposureBelowLimit := by
  have hidle := hs.idleHead (n := n)
  dsimp only [State.failRun]
  have hleft : ∀ b, (State.leaveRun (if c = .restart then s.idleHead n
      else (s.idleHead n).raise .head n .headCalFail none) n b).ExposureBelowLimit := by
    intro b
    split
    · exact hidle.leaveRun
    · exact hidle.raise.leaveRun
  split
  · exact respond (hleft _)
  · exact hleft _

theorem setRun {r} : (s.setRun n r).ExposureBelowLimit := hs.same

theorem finishRun {r v i j t} : (s.finishRun n r v i j t).ExposureBelowLimit := by
  dsimp only [State.finishRun]
  exact respond (leaveRun (hs.idleHead (n := n)).keep)

theorem phaseDone {w} : (s.phaseDone n w).ExposureBelowLimit := by
  have hnext : ∀ r p, ((s.setRun n r).beginPhase n p).ExposureBelowLimit := fun _ _ => hs.setRun.beginPhase
  dsimp only [State.phaseDone]
  split
  · exact hnext _ _
  · exact hnext _ _
  · split
    · exact hs.failRun
    · exact hnext _ _
  · split
    · exact hs.failRun
    · exact hnext _ _
  · split
    · exact hs.failRun
    · split
      · exact hs.finishRun
      · exact hs
  · exact hs

/-! ### The running of a plan: from one active stage to another -/

theorem beginRepetition {r p} (ha : (s.chan n).stage.active = true) : (s.beginRepetition n r p).ExposureBelowLimit :=
  offer (hs.goOn ha)

theorem beginStep {i p} (ha : (s.chan n).stage.active = true) : (s.beginStep n i p).ExposureBelowLimit := by
  unfold State.beginStep
  split
  · exact hs.beginRepetition ha
  · exact hs

theorem formResult {t r p x} (ha : (s.chan n).stage.active = true) : (s.formResult n t r p x).ExposureBelowLimit := by
  dsimp only [State.formResult]
  generalize hu : s.setChan n { s.chan n with test := some { t with results := t.results ++ [x] } } = u
  have hrecorded : u.ExposureBelowLimit := hu ▸ hs.same
  have hactive : (u.chan n).stage.active = true := by simpa [← hu] using ha
  generalize hv : State.resultTickets (if r.notify then u.stepNotice n t p.position x else u) t r x = v
  have hchans : v.chans = u.chans := by rw [← hv]; split <;> simp
  have htold : v.ExposureBelowLimit := hrecorded.keep hchans (by rw [← hv]; split <;> simp)
  split
  · exact htold.endByCause
  · split
    · exact htold.endByCause
    · exact htold.beginStep (by rw [State.chan_congr hchans]; exact hactive)

theorem evaluate {t r p w} (ha : (s.chan n).stage.active = true) : (s.evaluate n t r p w).ExposureBelowLimit := by
  have hassessed : (s.assessUsed n w.temp r.kind r.range).ExposureBelowLimit := hs.keep
  have hactive : ((s.assessUsed n w.temp r.kind r.range).chan n).stage.active = true := by
    rw [State.chan_congr (s := s) (by simp)]; exact ha
  dsimp only [State.evaluate]
  split
  · exact hassessed.beginRepetition hactive
  · exact hassessed.formResult hactive

theorem windowDone {w} (ha : (s.chan n).stage.active = true) : (s.windowDone n w).ExposureBelowLimit := by
  dsimp only [State.windowDone]
  split
  · split
    · exact hs.evaluate ha
    · exact hs
  · exact hs

/-! ### Sample Intake: a frame is accepted in an active stage or in a calibration run (R96) -/

theorem settleBlock {w p} (ha : (s.chan n).stage.accepting = true) : (s.settleBlock n w p).ExposureBelowLimit := by
  dsimp only [State.settleBlock]
  by_cases hc : (s.chan n).stage = .calibrating
  · simp only [hc, if_true]
    split
    · exact hs.rest rfl
    · exact hs.rest rfl
    · exact failRun (hs.rest rfl)
  · have hactive := Stage.active_of_accepting ha hc
    simp only [hc, if_false]
    split <;> exact hs.goOn hactive

theorem loss {w p} (ha : (s.chan n).stage.accepting = true) : (s.loss n w p).ExposureBelowLimit := by
  dsimp only [State.loss]
  split
  · split
    · exact failRun hs.same
    · exact endByCause hs.same
  · by_cases hc : (s.chan n).stage = .calibrating
    · simp only [hc, if_true]
      exact settleBlock (hs.rest rfl) (by simp [Stage.accepting])
    · simp only [hc, if_false]
      exact settleBlock hs.same (by simpa [Channel.addQuals] using ha)

theorem accumulate {w t p} (ha : (s.chan n).stage.accepting = true) : (s.accumulate n w t p).ExposureBelowLimit := by
  dsimp only [State.accumulate]
  split
  · split
    · exact phaseDone hs.same
    · next hc => exact windowDone hs.same (by simpa using Stage.active_of_accepting ha hc)
  · exact hs.same

theorem actOnFrame {c t p} (ha : (s.chan n).stage.accepting = true) : (s.actOnFrame n c t p).ExposureBelowLimit := by
  unfold State.actOnFrame
  split
  · exact hs
  split
  · exact hs.settleBlock ha
  · exact hs.settleBlock ha
  · exact hs.loss ha
  · exact hs.accumulate ha
  · exact hs.loss ha
  · exact hs

/-- A frame of a test comes to the account before all else: one that brings the account to the limit ends the test, and any
other leaves the account below it (R141, R143). -/
theorem takeSample {x} : (s.takeSample x).ExposureBelowLimit := by
  by_cases hx : s.Accepts x
  swap
  · rw [State.takeSample_ignored hx]; exact hs
  obtain ⟨hn, hstage, -⟩ := id hx
  have hacc := (Stage.accepting_iff _).2 hstage
  by_cases hc : (s.chan x.head).stage = .calibrating
  · rw [State.takeSample_run hx hc]
    exact actOnFrame (hs.same (c := s.heardChan x) (ht := id)) (by simpa [State.heardChan, Channel.heard] using hacc)
  have hactive := Stage.active_of_accepting hacc hc
  obtain ⟨htest, hbus, hbelow⟩ := hs.chan hn hactive
  rw [State.takeSample_test hx hc]
  dsimp only
  generalize hw : watchFrame s.params.vprot s.params.elim (s.chan x.head).exposure (s.chan x.head).peak
    (x.pairs.map Prod.fst) = w
  split
  · obtain ⟨t, ht⟩ := Option.isSome_iff_exists.1 htest
    obtain ⟨b, hb⟩ := Option.isSome_iff_exists.1 hbus
    have hpeak : (s.setChan x.head { s.heardChan x with exposure := w.exposure, peak := w.peak }).chan x.head =
        { s.heardChan x with exposure := w.exposure, peak := w.peak } := by simp
    refine hs.one x.head (by simp) (fun g hg => ?_) fun _ => .of_inactive ?_ _
    · rw [State.trip_otherChan (by rw [hpeak]; exact hactive) (by rw [hpeak]; exact ht) (by rw [hpeak]; exact hb) hg]
      simp [hg]
    · rw [State.trip_chan (by rw [hpeak]; exact hactive) (by rw [hpeak]; exact ht) (by rw [hpeak]; exact hb)]
      rfl
  · next hquiet =>
    subst hw
    have hless := watchFrame_below hbelow (Bool.eq_false_iff.2 hquiet)
    have hwatched : ∀ p, Channel.Below s.params.elim { s.heardChan x with
        exposure := (watchFrame s.params.vprot s.params.elim (s.chan x.head).exposure (s.chan x.head).peak
          (x.pairs.map Prod.fst)).exposure
        peak := p } := fun _ _ => ⟨htest, hbus, hless⟩
    exact actOnFrame (hs.write fun _ => hwatched _) (by simpa [State.heardChan, Channel.heard] using hacc)

theorem headSilent : (s.headSilent n).ExposureBelowLimit := by
  have hsilent : (State.raise (s.setChan n { s.chan n with headOut := true }) .head n .headSilent none).ExposureBelowLimit :=
    raise hs.same
  dsimp only [State.headSilent]
  split
  · exact hsilent.failRun
  · exact hsilent.endByCause

/-! ### Relays -/

/-- A confirmed tap goes from TAPPING to its first repetition (R57, R83). -/
theorem confirmTap {b l} (ht : (s.chan n).stage = .tapping) : (s.confirmTap n b l).ExposureBelowLimit := by
  have hw : ∀ u : State, u.ExposureBelowLimit → u.chan n = s.chan n →
      (u.setChan n { u.chan n with stage := .sourcing }).ExposureBelowLimit :=
    fun u hu hc => hu.goOn (by rw [hc, ht]; rfl)
  dsimp only [State.confirmTap]
  have hmade := hw _ (setAccess (l := l) (a := .tapped n)
    (setBus (b := b) (r := { s.bus b with confirm := .stopped, confirmed := some l }) hs)) (by simp)
  split
  · exact hmade.beginStep (by simp [Stage.active])
  · exact hmade

theorem tapMade {l b} : (s.tapMade l b).ExposureBelowLimit := by
  dsimp only [State.tapMade]
  split
  · exact hs
  split
  · exact hs
  split
  · split
    · split
      · exact hs.confirmTap ‹_›
      · exact hs.keep
    all_goals exact hs.keep
  · exact hs.keep

theorem relayDrop {b l} : (s.relayDrop n b l).ExposureBelowLimit := endByCause (raise (setBus hs))

theorem tapBroken {l b} : (s.tapBroken l b).ExposureBelowLimit := by
  have hstray : (s.strayBroken l b).ExposureBelowLimit := hs.keep
  dsimp only [State.tapBroken]
  split
  · exact hs
  split
  · next n _ =>
    have hdrop : (if (s.bus b).confirmed = some l then s.relayDrop n b l else s.strayBroken l b).ExposureBelowLimit := by
      split
      · exact hs.relayDrop
      · exact hstray
    split
    · exact hdrop
    · exact hdrop
    · exact hdrop
    · split
      · exact hs.completeRelease
      · exact hstray
    all_goals exact hstray
  · split
    · exact hs.keep
    · exact hstray
  · split
    · exact hs.keep
    · exact hstray
  all_goals exact hstray

/-! ### Highway events -/

theorem loopEvent {l e} : (s.loopEvent l e).ExposureBelowLimit := by
  dsimp only [State.loopEvent]
  split
  · exact hs
  split
  · exact hs
  next c counted _ =>
  have hcounted : (if counted then (s.setCondition l c).countedTransition l else s.setCondition l c).ExposureBelowLimit := by
    split <;> exact hs.keep
  split
  · exact hcounted.yieldTrigger
  · exact hcounted

theorem cardState {c b} : (s.cardState c b).ExposureBelowLimit := by
  dsimp only [State.cardState]
  have hyields : ∀ (L : List Nat) (u : State), u.ExposureBelowLimit →
      ((u.inFreeOrder L).1.foldl State.yieldTrigger (u.inFreeOrder L).2).ExposureBelowLimit :=
    fun L u hu => fold _ hu.keep fun _ _ hv => hv.yieldTrigger
  split
  · exact keep (hyields _ _ hs.keep) rfl rfl
  · exact hyields _ _ hs.keep

theorem readScanEvent {x} : (s.readScanEvent x).ExposureBelowLimit := by
  unfold State.readScanEvent
  split
  any_goals exact hs.loopEvent
  · exact hs.tapMade
  · exact hs.tapBroken
  · exact hs.keep
  · exact hs.keep
  · exact hs.keep
  · exact hs.cardState

theorem enterUp {f} : (s.enterUp f).ExposureBelowLimit := hs.keep

theorem dispatchS {f} : (s.dispatchS f).ExposureBelowLimit := by
  unfold State.dispatchS
  split
  · dsimp only [State.dispatchScan]
    split
    · exact hs.readScanEvent
    · exact hs.readScanEvent.enterUp
  · split
    · split
      · exact hs.takeSample
      · exact hs.keep
    · exact hs.keep

theorem dispatchU {f} : (s.dispatchU f).ExposureBelowLimit := by
  unfold State.dispatchU
  split
  · exact hs.keep
  split
  · split <;> exact hs.keep
  · split
    · exact hs.screen
    · exact hs.keep

theorem startTied {f} : (s.startTied f).ExposureBelowLimit := by
  dsimp only [State.startTied]
  split
  · exact hs
  · exact hs
  · split
    · exact hs.keep
    · exact hs
  · split
    · split
      · exact hs.keep
      · exact hs
    · exact hs
  · split
    · exact hs.keep
    · exact hs
  · split
    · split <;> exact hs.same
    · exact hs

theorem leaveSOwn : s.leaveSOwn.ExposureBelowLimit := by
  unfold State.leaveSOwn
  split
  · exact hs
  · next f rest _ =>
    have hleft : State.ExposureBelowLimit { s with link.sOwn := rest, link.portS := s.link.portS.departed } := hs.keep
    exact (hleft.startTied (f := f)).keep

/-! ### Desk commands -/

omit hs in
/-- The Command Unit hands a command to its handler, or leaves the state (R178). -/
theorem onCommand {s : State} (hs : s.ExposureBelowLimit) (c : Instr) {g : Byte → Bytes → State → State}
    (hg : ∀ {tag ps u}, u.ExposureBelowLimit → (g tag ps u).ExposureBelowLimit) : (s.onCommand c g).ExposureBelowLimit := by
  obtain he | ⟨f, rest, -, -, -, he⟩ := s.onCommand_cases c g
  · rw [he]; exact hs
  · rw [he]; exact hg hs.keep

theorem doClearStuck {t p} : (State.doClearStuck t p s).ExposureBelowLimit := by
  unfold State.doClearStuck
  split
  · dsimp only
    split
    · exact hs.keep
    split
    · exact respond (settle hs.keep)
    split
    · exact hs.keep
    · exact hs.keep
  · exact hs.keep

/-- The victim of a pre-emption is released with its exposure at 0 (R70). -/
theorem preempt {t} : (s.preempt n t).ExposureBelowLimit := by
  have hpushed : ∀ c, (s.pushContext c).ExposureBelowLimit := fun _ => hs.keep
  dsimp only [State.preempt]
  split
  · next hb =>
    refine release (setAccess ((hpushed _).write fun _ _ => ⟨rfl, by simp [hb], ?_⟩))
    exact (hpushed _).limit
  · exact hs

theorem admitUrgent {u : State} {q h} (hu : s.admitUrgent q = some (h, u)) : u.ExposureBelowLimit := by
  unfold State.admitUrgent at hu
  split at hu
  · obtain ⟨b, -, he⟩ := Option.map_eq_some_iff.1 hu
    cases he; exact hs.startTest
  · obtain ⟨b, -, he⟩ := Option.map_eq_some_iff.1 hu
    cases he; exact hs.preempt.settle

theorem doTest {t p} : (State.doTest t p s).ExposureBelowLimit := by
  unfold State.doTest
  split
  · exact hs.keep
  split
  · exact hs.respond
  split
  · exact (hs.admitUrgent ‹_›).respond
  · exact hs.respond

theorem doAbort {t p} : (State.doAbort t p s).ExposureBelowLimit := by
  have hawaits : ∀ h, (s.awaitAbort h t).ExposureBelowLimit := fun _ => hs.same
  unfold State.doAbort
  split
  · exact hs.keep
  split
  · exact hs.respond
  unfold State.abortOn
  split
  any_goals exact hs.respond
  any_goals exact (hawaits _).endByCause
  dsimp only [State.abortHandover]
  split
  · exact (hawaits _).same
  · exact hawaits _

theorem headBack : (s.headBack n).ExposureBelowLimit := by
  dsimp only [State.headBack]
  by_cases hc : (s.chan n).stage = .outOfService
  · simp only [hc, if_true]
    exact clear (noteIdle (hs.rest rfl))
  · simp only [hc, if_false]
    exact clear (noteIdle hs.same)

theorem doReturnHead {t p} : (State.doReturnHead t p s).ExposureBelowLimit := by
  unfold State.doReturnHead
  split
  · split
    · exact hs.keep
    split
    · exact hs.headBack.settle.respond
    · exact hs.respond
  · exact hs.keep

theorem doCalibrate {t p} : (State.doCalibrate t p s).ExposureBelowLimit := by
  unfold State.doCalibrate
  split
  · split
    · exact hs.keep
    split
    · exact hs.beginRun
    · exact hs.respond
  · exact hs.keep

theorem doSweepStart {t p} : (State.doSweepStart t p s).ExposureBelowLimit := by
  unfold State.doSweepStart
  split
  · exact hs.runPass.keep
  all_goals exact hs.keep

theorem doSweepResume {t p} : (State.doSweepResume t p s).ExposureBelowLimit := by
  have hresumed : s.resume.ExposureBelowLimit := by
    unfold State.resume
    split
    · exact hs.runPass
    split
    · exact hs.keep
    all_goals exact settle hs.keep
  unfold State.doSweepResume
  split
  · exact hresumed.keep
  all_goals exact hs.keep

theorem doSweepStop {t p} : (State.doSweepStop t p s).ExposureBelowLimit := by
  have hdrained : s.drain.settle.ExposureBelowLimit := settle hs.keep
  unfold State.doSweepStop
  split
  · exact hs.keep
  · exact hdrained.keep
  · exact hdrained.keep
  · exact hdrained.keep
  · exact hs.keep

theorem doSuspect {t p} : (State.doSuspect t p s).ExposureBelowLimit := by
  unfold State.doSuspect
  split
  · dsimp only
    split
    · exact hs.keep
    · split <;> exact respond (settle hs.keep)
  · exact hs.keep

/-- The limit is changed while every channel is at rest (R184). -/
theorem doSetParam {t p} : (State.doSetParam t p s).ExposureBelowLimit := by
  unfold State.doSetParam
  split
  · split
    · exact hs.keep
    next q hq =>
    split
    · next hallowed =>
      split
      · next htaken =>
        refine respond ?_
        obtain hsame | ⟨hquiet, hlimit⟩ := paramChange_elim hq hallowed
        · exact State.exposureBelowLimit_iff _ |>.2 ⟨hsame ▸ hs.limit, fun n hn => by
            show (s.chan n).Below q.params.elim
            rw [hsame]; exact hs.chan hn⟩
        · rw [hquiet] at htaken
          exact of_inactive hlimit fun n hn =>
            Stage.inactive_of_quiet (List.all_eq_true.1 htaken n ((mem_allChannels n).2 hn))
      · exact hs.keep
    · exact hs.keep
  · exact hs.keep

theorem restartChannel : (s.restartChannel n).ExposureBelowLimit := by
  have hended : (s.setChan n (s.chan n).restarted).ExposureBelowLimit := hs.rest (Stage.rest_inactive _)
  have htap : (s.restartTap n).ExposureBelowLimit := by
    dsimp only [State.restartTap]
    split
    · exact hended
    · exact hended.keep
  unfold State.restartChannel
  split
  any_goals exact hs
  any_goals exact htap
  · exact hs.same
  · exact hs.failRun

theorem doRestart {t p} : (State.doRestart t p s).ExposureBelowLimit := by
  unfold State.doRestart
  split
  · exact hs.respond
  have hchannels : (State.restartChannels (s.respond t .ok (byte1 s.activeChannels))).ExposureBelowLimit :=
    fold _ hs.keep fun _ _ hu => hu.restartChannel
  dsimp only [State.warmRestart]
  exact hchannels.keep

end Writes

/-! ### Every command, every step -/

section Steps

open Steady (answer)

variable {s t : State} (hs : s.ExposureBelowLimit)
include hs

theorem desk {c} {g : Byte → Bytes → State → State} (he : (Host.Outcome.next (s.onCommand c g) : Answer) = .next t)
    (hg : ∀ {tag ps u}, u.ExposureBelowLimit → (g tag ps u).ExposureBelowLimit) : t.ExposureBelowLimit :=
  answer (hs.onCommand c hg) he

theorem exec_arrivals {f} : (exec (.frameArrivesPortU f) s = .next t → t.ExposureBelowLimit) ∧
    (exec (.frameArrivesPortS f) s = .next t → t.ExposureBelowLimit) := by
  constructor
  · intro he
    simp only [exec, execFrameArrivesPortU] at he
    split at he
    · exact answer hs he
    · exact answer hs.keep he
    · split at he
      · exact answer hs.dispatchU he
      · exact answer hs.keep he
  · intro he
    simp only [exec, execFrameArrivesPortS] at he
    split at he
    · exact answer hs he
    · exact answer hs.keep he
    · split at he
      · exact answer hs.dispatchS.settle he
      · exact answer hs.keep he

theorem exec_departures {port} (he : exec (.frameLeavesPort port) s = .next t) : t.ExposureBelowLimit := by
  simp only [exec, execFrameLeavesPort] at he
  split at he
  · split at he
    · exact answer hs he
    · exact answer hs.keep he
    · exact answer hs.leaveSOwn he
  · split at he
    · exact answer hs he
    · exact answer hs.keep he
    · exact answer hs.keep he

/-- No command brings a channel with a tap to the limit. -/
theorem exec_next {c : Instr} (he : exec c s = .next t) : t.ExposureBelowLimit := by
  cases c with
  | coldReset =>
    exact answer (of_inactive (s := { State.reset with pending := s.pending }) reset_exposureBelowLimit.limit fun _ _ => rfl) he
  | rstnRelease =>
    simp only [exec, execRstnRelease] at he
    split at he
    · exact answer (u := s.released) (of_inactive hs.limit fun _ _ => rfl) he
    all_goals exact answer hs he
  | bypassEnd =>
    simp only [exec, execBypassEnd] at he
    split at he
    · split at he
      · exact answer (u := s.started) (hs.keep (by simp [State.started]) (by simp [State.started])) he
      · exact answer hs he
    all_goals exact answer hs he
  | frameArrivesPortU f => exact hs.exec_arrivals.1 he
  | frameArrivesPortS f => exact hs.exec_arrivals.2 he
  | creditAnnouncement port n =>
    simp only [exec, execCreditAnnouncement] at he
    split at he
    · exact answer hs he
    all_goals split at he <;> exact answer hs.keep he
  | frameLeavesPort port => exact hs.exec_departures he
  | sOwnOfferEnters =>
    simp only [exec, execSOwnOfferEnters] at he
    split at he
    · exact answer hs he
    · split at he <;> exact answer hs.keep he
  | holdRecordLapse n =>
    simp only [exec, execHoldRecordLapse] at he
    split at he
    · split at he <;> exact answer hs.keep he
    · exact answer hs he
  | flushOffer l => exact answer (u := s.flushOn l) hs.keep he
  | auditTimerExpiry n =>
    simp only [exec, execAuditTimerExpiry] at he
    split at he <;> exact answer hs.keep he
  | tapConfirmTimerExpiry b =>
    simp only [exec, execTapConfirmTimerExpiry] at he
    split at he
    · split at he
      · exact answer hs.raise.endByCause he
      · exact answer hs he
    · exact answer hs he
  | releaseConfirmTimerExpiry b =>
    simp only [exec, execReleaseConfirmTimerExpiry] at he
    split at he
    · split at he
      · exact answer hs.timeOutRelease.settle he
      · exact answer hs he
    · exact answer hs he
  | restartReleaseTimeout b =>
    simp only [exec, execRestartReleaseTimeout] at he
    split at he
    · split at he <;> exact answer hs.keep he
    · exact answer hs he
  | strayReleaseTimerExpiry b =>
    simp only [exec, execStrayReleaseTimerExpiry] at he
    split at he
    · split at he <;> exact answer hs.keep he
    · exact answer hs he
  | lockoutEnd b =>
    simp only [exec, execLockoutEnd] at he
    split at he
    · split at he
      · exact answer (settle hs.keep) he
      · exact answer hs he
    · exact answer hs he
  | intervalTimerExpiry =>
    simp only [exec, execIntervalTimerExpiry] at he
    split at he
    · split at he
      · exact answer hs.runPass he
      all_goals exact answer hs.keep he
    · exact answer hs he
  | headTimerExpiry n =>
    simp only [exec, execHeadTimerExpiry] at he
    split at he
    · exact answer hs.headSilent.settle he
    · exact answer hs he
  | flapUnitBoundary =>
    simp only [exec, execFlapUnitBoundary] at he
    split at he
    · exact answer hs he
    all_goals
      split at he
      · exact answer (u := s.flapBoundary) (hs.keep rfl rfl) he
      · exact answer hs he
  | minuteCounterAdvance =>
    simp only [exec, execMinuteCounterAdvance] at he
    split at he
    · exact answer hs he
    all_goals
      split at he
      · exact answer (u := s.nextMinuteComes) (hs.keep rfl rfl) he
      · exact answer hs he
  | hourTick =>
    simp only [exec, execHourTick] at he
    split at he <;> exact answer hs.keep he
  | unknownCommand => exact hs.desk he (·.keep)
  | loadLines => exact hs.desk he (·.keep)
  | lineRead => exact hs.desk he (·.keep)
  | inhibit => exact hs.desk he (·.keep)
  | clearHazard => exact hs.desk he (·.keep)
  | loadBusmap => exact hs.desk he (·.keep)
  | clearStuck => exact hs.desk he (·.doClearStuck)
  | loadStep => exact hs.desk he (·.keep)
  | loadPlan => exact hs.desk he (·.keep)
  | test => exact hs.desk he (·.doTest)
  | abort => exact hs.desk he (·.doAbort)
  | returnHead => exact hs.desk he (·.doReturnHead)
  | loadProfile => exact hs.desk he (·.keep)
  | calibrate => exact hs.desk he (·.doCalibrate)
  | setCalCoef => exact hs.desk he (·.keep)
  | sweepLoad => exact hs.desk he (·.keep)
  | sweepStart => exact hs.desk he (·.doSweepStart)
  | sweepStop => exact hs.desk he (·.doSweepStop)
  | sweepPause => exact hs.desk he (·.keep)
  | sweepResume => exact hs.desk he (·.doSweepResume)
  | sweepMark => exact hs.desk he (·.keep)
  | suspect => exact hs.desk he (·.doSuspect)
  | ticketRead => exact hs.desk he (·.keep)
  | ticketAck => exact hs.desk he (·.keep)
  | ticketClose => exact hs.desk he (·.keep)
  | ticketNote => exact hs.desk he (·.keep)
  | setParam => exact hs.desk he (·.doSetParam)
  | status => exact hs.desk he (·.keep)
  | restart => exact hs.desk he (·.doRestart)
  | receptionBrokenOff port =>
    simp only [exec, execReceptionBrokenOff] at he
    split at he <;> exact answer hs.keep he

/-- Neither a command nor the part's own waiting does. -/
theorem step_next (he : Machine.step s = .next t) : t.ExposureBelowLimit := by
  unfold Machine.step at he
  split at he
  · next c rest _ =>
    have hpopped : State.ExposureBelowLimit { s with pending := rest } := hs.keep
    exact hpopped.exec_next he
  · refine answer (u := s.idle) ?_ he
    unfold State.idle
    split
    · unfold State.passTime
      split <;> exact hs.keep
    all_goals exact hs.keep

end Steps

end State.ExposureBelowLimit

/-- Settles O41: a channel gets its tap with its exposure at 0, the account of a frame is kept below the limit by the trip, and
the limit is moved only while no channel has a tap. -/
theorem stepsKeepExposureBelowLimit : Obligations.StepsKeepExposureBelowLimit := fun _ _ hs => hs.step_next

end Sys2Proof.Machine

end ForeignVoltage


/-! PROOFS of the family of routine sweeps: how many routine tests run or are suspended, the settling of an act, the booking of a
routine test's end, and the commands of the sweep list, the mark and the suspect queue.

Elaborated one after another, as the sections before. -/

section RoutineSweeps
set_option Elab.async false

namespace Sys2Proof.Machine

/-! ## O40: suspended contexts and routine tests number at most four (R154) -/

/-! ### The channels that hold a routine test -/

theorem Channel.holdsRoutine_of_test {c : Channel} {t : TestRec} (h : c.test = some t) :
    c.holdsRoutine = (t.priority == .routine) := by
  rw [Channel.holdsRoutine, h]

theorem Channel.holdsRoutine_none {c : Channel} (h : c.test = none) : c.holdsRoutine = false := by
  rw [Channel.holdsRoutine, h]

theorem State.routineCount_eq (s : State) : s.routineCount = (s.chan 0).holdsRoutine.toNat + (s.chan 1).holdsRoutine.toNat +
    (s.chan 2).holdsRoutine.toNat + (s.chan 3).holdsRoutine.toNat := by
  simp only [State.routineCount, allChannels, List.countP_cons, List.countP_nil, Bool.toNat, Bool.cond_eq_ite]
  omega

/-- A channel is written: the count loses what the channel held, and gains what it holds now. -/
theorem State.routineCount_setChan (s : State) {n : Nat} (hn : n < 4) (c : Channel) :
    (s.setChan n c).routineCount + (s.chan n).holdsRoutine.toNat = s.routineCount + c.holdsRoutine.toNat := by
  simp only [State.routineCount_eq, State.setChan_chan]
  obtain rfl | rfl | rfl | rfl : n = 0 ∨ n = 1 ∨ n = 2 ∨ n = 3 := by omega
  all_goals grind

theorem State.routineCount_le {s t : State} (h : ∀ n, (t.chan n).holdsRoutine = true → (s.chan n).holdsRoutine = true) :
    t.routineCount ≤ s.routineCount := List.countP_mono_left fun n _ => h n

/-- The start of a test adds one routine test at most. -/
theorem State.startTest_routineCount (s : State) {n : Nat} (hn : n < 4) (b : Nat) (t : TestRec) (o : Origin) :
    (s.startTest n b t o).routineCount ≤ s.routineCount + 1 := by
  have hset := s.routineCount_setChan hn { s.chan n with test := some t, origin := o, restartEnded := false }
  have hle : (s.startTest n b t o).routineCount ≤
      (s.setChan n { s.chan n with test := some t, origin := o, restartEnded := false }).routineCount :=
    State.routineCount_le fun m => by
      rw [State.startTest, State.claimAndTap_chan]
      split
      · next hm => rw [hm]; exact id
      · exact id
  have hone := Bool.toNat_le (Channel.holdsRoutine { s.chan n with test := some t, origin := o, restartEnded := false })
  omega

/-- A victim is eligible: its channel is one of the part's, with a ROUTINE test (R69). -/
theorem State.victim_eligible {s : State} {l h : Nat} (hv : s.victim l = some h) : s.Eligible l h := by
  rw [State.victim_eq] at hv
  refine (s.eligible_iff l h).1 ?_
  cases hL : allChannels.filter (s.eligible l) with
  | nil => simp [hL] at hv
  | cons a L =>
    obtain ⟨k, hk, he⟩ := foldl_laterStarted_some (started := fun g => (s.chan g).started) L a
    rw [hL, List.foldl_cons, laterStarted, he] at hv
    exact Option.some.inj hv ▸ hk

/-! ### What the acts of the Sweep Unit leave of the suspend list -/

section Suspended

variable (s : State)

@[simp] theorem State.wantAttempt_suspended : s.wantAttempt.sweep.suspended = s.sweep.suspended := rfl

@[simp] theorem State.count_suspended (g : Counts → Counts) : (s.count g).sweep.suspended = s.sweep.suspended := by
  unfold State.count; split <;> rfl

@[simp] theorem State.offerSuspect_suspended (l p : Nat) (r : Reason) :
    (s.offerSuspect l p r).sweep.suspended = s.sweep.suspended := by
  unfold State.offerSuspect
  split
  · rfl
  · rfl
  · simp
  · rfl

@[simp] theorem State.missLine_suspended (l : Nat) : (s.missLine l).sweep.suspended = s.sweep.suspended := by
  simp [State.missLine]

@[simp] theorem State.deferLine_suspended (l p : Nat) : (s.deferLine l p).sweep.suspended = s.sweep.suspended := by
  simp [State.deferLine]

@[simp] theorem State.countYield_suspended (e : RoutineEnd) : (s.countYield e).sweep.suspended = s.sweep.suspended := by
  unfold State.countYield
  split
  · split <;> simp
  · split <;> simp
  · simp
  · rfl

@[simp] theorem State.bookEnd_suspended (e : RoutineEnd) : (s.bookEnd e).sweep.suspended = s.sweep.suspended := by
  dsimp only [State.bookEnd]
  split
  · split <;> simp
  · split <;> simp

@[simp] theorem State.originActions_suspended (e : RoutineEnd) :
    (s.originActions e).sweep.suspended = s.sweep.suspended := by
  unfold State.originActions
  (repeat' split) <;> simp

@[simp] theorem State.routineEnded_suspended (e : RoutineEnd) :
    (s.routineEnded e).sweep.suspended = s.sweep.suspended := by
  simp [State.routineEnded]

@[simp] theorem State.walked_suspended (r l : Nat) (k : Handling) :
    (s.walked r l k).sweep.suspended = s.sweep.suspended := by
  dsimp only [State.walked]
  split <;> simp

@[simp] theorem State.endDrain_suspended : s.endDrain.sweep.suspended = s.sweep.suspended := by
  unfold State.endDrain
  split <;> simp

@[simp] theorem State.endPass_suspended : s.endPass.sweep.suspended = s.sweep.suspended := by
  simp [State.endPass]

@[simp] theorem State.startPass_suspended : s.startPass.sweep.suspended = s.sweep.suspended := by
  rw [State.startPass_sweep]

@[simp] theorem State.countedTransition_suspended (l : Nat) :
    (s.countedTransition l).sweep.suspended = s.sweep.suspended := by
  dsimp only [State.countedTransition]
  split <;> simp

@[simp] theorem State.noteIdle_suspended (n : Nat) : (s.noteIdle n).sweep.suspended = s.sweep.suspended := by
  unfold State.noteIdle
  split <;> rfl

@[simp] theorem State.freeClaim_suspended (b : Nat) (p : Bool) : (s.freeClaim b p).sweep.suspended = s.sweep.suspended := by
  dsimp only [State.freeClaim]
  split <;> rfl

end Suspended

/-! ### A start attempt keeps what each source keeps -/

open SweepFree (carried)

/-- A property that one try of each source keeps (R154). -/
structure SourcesKeep (P : State → Prop) : Prop where
  context : ∀ {s}, P s → P (carried s.serveContext)
  suspect : ∀ {s m}, P s → P (carried (s.serveSuspect m).1)
  walk : ∀ {s}, P s → P (carried s.serveWalk)
  revisit : ∀ {s}, P s → P (carried s.serveRevisit)
  due : ∀ {s} {b : Bool}, P s → P { s with sweep := { s.sweep with attemptDue := b } }

/-- A source that goes on while it handles candidates keeps what one try of it keeps. -/
theorem keeps_goingOn {P : State → Prop} {try1 : State → Served} {on : Nat → State → Served}
    (hnone : ∀ s, on 0 s = .ended s) (hon : ∀ n s, (∀ u, try1 s = .handled u → on (n + 1) s = on n u) ∧
      ((∀ u, try1 s ≠ .handled u) → on (n + 1) s = try1 s))
    (htry : ∀ {s}, P s → P (carried (try1 s))) (n : Nat) {s : State} (hp : P s) : P (carried (on n s)) := by
  induction n generalizing s with
  | zero => rw [hnone]; exact hp
  | succ n ih =>
    obtain ⟨hmore, hlast⟩ := hon n s
    have htried := htry hp
    by_cases hh : ∃ u, try1 s = .handled u
    · obtain ⟨u, hu⟩ := hh
      rw [hu] at htried
      rw [hmore u hu]
      exact ih htried
    · rw [hlast fun u hu => hh ⟨u, hu⟩]
      exact htried

namespace SourcesKeep

variable {P : State → Prop} (h : SourcesKeep P) {s : State}
include h

theorem contextsOn (n : Nat) (hp : P s) : P (carried (State.contextsOn n s)) :=
  keeps_goingOn (fun _ => rfl) (fun n s => by
    obtain ⟨hmore, hlast, -⟩ := s.sourcesOn n; exact ⟨hmore, hlast⟩) h.context n hp

theorem walkOn (n : Nat) (hp : P s) : P (carried (State.walkOn n s)) :=
  keeps_goingOn (fun _ => rfl) (fun n s => by
    obtain ⟨-, -, hmore, hlast, -⟩ := s.sourcesOn n; exact ⟨hmore, hlast⟩) h.walk n hp

theorem revisitsOn (n : Nat) (hp : P s) : P (carried (State.revisitsOn n s)) :=
  keeps_goingOn (fun _ => rfl) (fun n s => by
    obtain ⟨-, -, -, -, hmore, hlast, -⟩ := s.sourcesOn n; exact ⟨hmore, hlast⟩) h.revisit n hp

theorem suspectsOn (n : Nat) {m : List Nat} (hp : P s) : P (carried (State.suspectsOn n s m).1) := by
  induction n generalizing s m with
  | zero => exact hp
  | succ n ih =>
    have htried := h.suspect (m := m) hp
    unfold State.suspectsOn
    split
    · next heq => rw [heq] at htried; exact ih htried
    · exact htried

theorem serve {m : List Nat} (hp : P s) : P (carried (s.serve m).1) := by
  unfold State.serve
  have hcontexts := h.contextsOn (s.sweep.suspended.length + 1) hp
  split
  · next s1 heq1 =>
    rw [heq1] at hcontexts
    have hsuspects := h.suspectsOn (s := s1) (s1.sweep.suspects.length + 1) (m := m) hcontexts
    split
    · next s2 m' heq2 =>
      rw [heq2] at hsuspects
      have hwalk := h.walkOn (s := s2) (candidates s2.sweep.config.ranges + 1) hsuspects
      split
      · next s3 heq3 => rw [heq3] at hwalk; exact h.revisitsOn _ hwalk
      · exact hwalk
    · exact hsuspects
  · exact hcontexts

theorem attempt (n : Nat) {m : List Nat} (hp : P s) : P (State.attempt n m s) := by
  induction n generalizing s m with
  | zero => exact hp
  | succ n ih =>
    have hserved := h.serve (m := m) hp
    unfold State.attempt
    split <;> rename_i heq <;> rw [heq] at hserved
    · exact ih hserved
    all_goals exact hserved

theorem attemptIfDue (hp : P s) : P s.attemptIfDue := by
  unfold State.attemptIfDue
  split
  · exact h.attempt _ (h.due hp)
  · exact hp

end SourcesKeep

/-! ### The acts, one by one -/

namespace State.RoutineWithinFour

section Writes

variable {s : State} (hs : s.RoutineWithinFour) {n : Nat}
include hs

/-- An act that gives no channel a routine test and suspends nothing. -/
theorem fewer {t : State} (hw : t.sweep.suspended.length ≤ s.sweep.suspended.length)
    (hc : ∀ n, (t.chan n).holdsRoutine = true → (s.chan n).holdsRoutine = true) : t.RoutineWithinFour :=
  (Nat.add_le_add hw (State.routineCount_le hc)).trans hs

/-- An act that reaches no channel and not the suspend list. -/
theorem keep {t : State} (hc : t.chans = s.chans := by simp)
    (hw : t.sweep.suspended = s.sweep.suspended := by simp) : t.RoutineWithinFour :=
  hs.fewer (by rw [hw]) fun n => by rw [State.chan_congr hc]; exact id

/-- A channel is written that comes to hold no routine test. -/
theorem same {c : Channel} (hc : c.holdsRoutine = true → (s.chan n).holdsRoutine = true := by exact id) :
    (s.setChan n c).RoutineWithinFour :=
  hs.fewer le_rfl fun m => by
    rw [State.setChan_chan]
    split
    · next hm => rw [hm]; exact hc
    · exact id

/-- A channel is written without a test. -/
theorem noTest {c : Channel} (hc : c.test = none := by rfl) : (s.setChan n c).RoutineWithinFour :=
  hs.same (by simp [Channel.holdsRoutine_none hc])

/-- A channel is written with its test under way, the priority kept. -/
theorem sameTest {c : Channel} {t v : TestRec} (ht : (s.chan n).test = some t) (hc : c.test = some v)
    (hp : v.priority = t.priority := by rfl) : (s.setChan n c).RoutineWithinFour :=
  hs.same (by rw [Channel.holdsRoutine_of_test ht, Channel.holdsRoutine_of_test hc, hp]; exact id)

/-! ### Tests taken and given up -/

theorem setBus {b r} : (s.setBus b r).RoutineWithinFour := hs.keep

theorem setAccess {l a} : (s.setAccess l a).RoutineWithinFour := hs.keep

theorem offer {b t} : (s.offer b t).RoutineWithinFour := hs.keep

theorem raise {k j c e} : (s.raise k j c e).RoutineWithinFour := hs.keep

theorem clear {k j c} : (s.clearTicket k j c).RoutineWithinFour := hs.keep

theorem respond {t r b} : (s.respond t r b).RoutineWithinFour := hs.keep

theorem wantAttempt : s.wantAttempt.RoutineWithinFour := hs.keep

theorem noteIdle : (s.noteIdle n).RoutineWithinFour := hs.keep

theorem releasePath {l b} : (s.releasePath l b).RoutineWithinFour := hs.keep

theorem claimAndTap {l b} : (s.claimAndTap n l b).RoutineWithinFour := by
  refine hs.fewer (by simp) fun m => ?_
  rw [State.claimAndTap_chan]
  split
  · next hm => rw [hm]; exact id
  · exact id

/-- The start of an URGENT test takes no place of a routine one. -/
theorem startUrgent {b t o} (ht : t.priority = .urgent) : (s.startTest n b t o).RoutineWithinFour :=
  claimAndTap (hs.same (by simp [Channel.holdsRoutine, ht]))

theorem release {l b} : (s.release n l b).RoutineWithinFour := setBus (offer (offer (setAccess hs.same)))

theorem endByCause {o} : (s.endByCause n o).RoutineWithinFour := by
  dsimp only [State.endByCause]
  split
  · split
    · next t _ ht _ => exact release (hs.sameTest ht rfl)
    · exact hs
  · exact hs

theorem yieldTrigger {l} : (s.yieldTrigger l).RoutineWithinFour := by
  unfold State.yieldTrigger
  split
  · split
    · exact hs.endByCause
    · exact hs
  · exact hs

/-- Of the orders only a RING_START that is held for a line may end a test (R42). -/
theorem screen {f o} : (s.screen f o).RoutineWithinFour := by
  by_cases ho : o.code ∈ [OrderCode.tapConnect, .tapRelease, .cardAudit]
  · rw [State.screen_relay ho]; exact hs.keep
  by_cases ha : (s.line o.line).access ∈ [Access.free, .stuck]
  · rw [State.screen_open ho ha]; exact hs.keep
  · rw [State.screen_held ho ha]
    have hheld : (s.holdOrder f o.line).RoutineWithinFour := hs.keep
    split
    · exact hheld.yieldTrigger
    · exact hheld

/-! ### The Sweep Unit -/

/-- The Sweep Unit's state is written, the suspend list kept. -/
theorem sweepOnly {w : Sweep} (hw : w.suspended = s.sweep.suspended := by rfl) :
    State.RoutineWithinFour { s with sweep := w } := hs.keep rfl hw

theorem count {g} : (s.count g).RoutineWithinFour := hs.keep

theorem missLine {l} : (s.missLine l).RoutineWithinFour := hs.keep

theorem deferLine {l p} : (s.deferLine l p).RoutineWithinFour := hs.keep

theorem walked {r l k} : (s.walked r l k).RoutineWithinFour := by
  dsimp only [State.walked]
  split <;> exact hs.keep

omit hs in
/-- A new routine test finds fewer than four that run or are suspended. -/
theorem startNew {u : State} {t o} (hr : s.requestRoutine t o = .started u) (hroom : s.HasRoom) :
    u.RoutineWithinFour := by
  obtain ⟨-, c, b, hc, -, rfl⟩ := State.requestRoutine_started hr
  have hcount := s.startTest_routineCount (State.idleChannel_some hc).1 b t o
  have hlist : (s.startTest c b t o).sweep = s.sweep := by simp
  unfold State.RoutineWithinFour
  rw [hlist]
  omega

/-- A context that is resumed leaves the suspend list. -/
theorem startResumed {u : State} {t o c rest} (hr : s.requestRoutine t o = .started u)
    (hlist : s.sweep.suspended = c :: rest) : State.RoutineWithinFour { u with sweep.suspended := rest } := by
  obtain ⟨-, k, b, hk, -, rfl⟩ := State.requestRoutine_started hr
  have hcount := s.startTest_routineCount (State.idleChannel_some hk).1 b t o
  have hfour : s.sweep.suspended.length + s.routineCount ≤ 4 := hs
  rw [hlist, List.length_cons] at hfour
  show rest.length + (s.startTest k b t o).routineCount ≤ 4
  omega

theorem serveContext : (carried s.serveContext).RoutineWithinFour := by
  dsimp only [State.serveContext]
  split
  · exact hs
  split
  · exact hs
  next c rest hlist =>
  have hdropped : State.RoutineWithinFour { s with sweep.suspended := rest } :=
    hs.fewer (by simp [hlist]) fun _ => id
  have hyielded : (State.yieldContext { s with sweep.suspended := rest } c).RoutineWithinFour :=
    hdropped.keep (by simp [State.yieldContext]) (by simp [State.yieldContext])
  have hdiscarded : (carried (if (State.yieldContext { s with sweep.suspended := rest } c).passDone && !s.passDone
      then .ended (State.yieldContext { s with sweep.suspended := rest } c)
      else .handled { State.yieldContext { s with sweep.suspended := rest } c with
        sweep.attemptDue := false })).RoutineWithinFour := by
    split
    · exact hyielded
    · exact hyielded.keep rfl rfl
  split
  · split
    · exact hs.startResumed ‹_› hlist
    · exact hs
    · exact hs
    · exact hdiscarded
  · exact hdiscarded

theorem serveSuspect {m} : (carried (s.serveSuspect m).1).RoutineWithinFour := by
  dsimp only [State.serveSuspect]
  split
  · exact hs
  next hmay =>
  have hroom : s.HasRoom := (State.maySuspect_iff.1 (by simpa using hmay)).2.2
  split
  · exact hs
  split
  · exact hs
  split
  · exact hs.sweepOnly
  split
  · split
    · next hr => exact (startNew hr hroom).sweepOnly
    · exact hs
    · exact hs
    · exact hs.sweepOnly.missLine
  split
  · exact hs.sweepOnly.missLine
  · exact hs.sweepOnly

theorem serveWalk : (carried s.serveWalk).RoutineWithinFour := by
  dsimp only [State.serveWalk]
  split
  · exact hs
  · exact hs
  split
  · exact hs
  next hmay =>
  have hroom : s.HasRoom := (State.mayWalk_iff.1 (by simpa using hmay)).2.2
  split
  · exact hs.walked
  split
  · exact hs.count.walked
  split
  · exact hs.count.walked
  split
  · exact hs.count.walked
  split
  · split
    · exact hs.deferLine.walked
    · exact hs.missLine.walked
  split
  · next hr => exact (startNew hr hroom).walked
  · exact hs
  · exact hs
  · exact hs.missLine.walked

theorem serveRevisit : (carried s.serveRevisit).RoutineWithinFour := by
  dsimp only [State.serveRevisit]
  split
  · exact hs
  next hmay =>
  simp only [Bool.not_eq_true', Bool.not_eq_false, Bool.and_eq_true] at hmay
  have hroom : s.HasRoom := (State.mayWalk_iff.1 hmay.1).2.2
  split
  · exact hs
  split
  · exact hs.sweepOnly
  split
  · split
    · next hr => exact (startNew hr hroom).sweepOnly
    · exact hs
    · exact hs
    · exact hs.sweepOnly.missLine
  · exact hs.sweepOnly.missLine

omit hs in
theorem sources : SourcesKeep State.RoutineWithinFour where
  context hs := hs.serveContext
  suspect hs := hs.serveSuspect
  walk hs := hs.serveWalk
  revisit hs := hs.serveRevisit
  due hs := hs.keep rfl rfl

theorem attemptIfDue : s.attemptIfDue.RoutineWithinFour := sources.attemptIfDue hs

theorem beginPass : s.beginPass.RoutineWithinFour := attemptIfDue hs.keep

theorem settleWith (n : Nat) {last} : (State.settleWith n last s).RoutineWithinFour := by
  induction n generalizing s last with
  | zero => exact hs
  | succ n ih =>
    have hdrained : s.endDrain.RoutineWithinFour := hs.keep
    have hended : s.endDrain.endPass.RoutineWithinFour := hs.keep (by simp [State.endPass])
    have hwaits : ∀ ms, (s.endDrain.endPass.startInterval ms).RoutineWithinFour := fun _ => hended.keep rfl rfl
    unfold State.settleWith
    dsimp only
    split
    · split
      · split
        · exact ih (hwaits _)
        · exact ih hended.beginPass
      · exact ih (hwaits _)
    · split
      · exact ih hdrained.attemptIfDue
      · exact hdrained

theorem settle : s.settle.RoutineWithinFour := hs.settleWith _

theorem runPass : s.runPass.RoutineWithinFour := settleWith hs.beginPass _

theorem fold {α : Type} {f : State → α → State} (L : List α)
    (hf : ∀ u a, u.RoutineWithinFour → (f u a).RoutineWithinFour) : (L.foldl f s).RoutineWithinFour :=
  List.foldlRecOn L f hs fun u hu a _ => hf u a hu

/-! ### The end of a test and of a release -/

theorem endTest : (s.endTest n).RoutineWithinFour := by
  have hgiven : (s.setChan n (s.chan n).givenUp).RoutineWithinFour := hs.noTest
  dsimp only [State.endTest]
  split
  · exact hgiven.keep
  split
  · exact hgiven.keep
  split <;> exact hgiven.keep

theorem finishRelease : (s.finishRelease n).RoutineWithinFour := by
  dsimp only [State.finishRelease]
  split
  · exact hs.endTest
  next t ht =>
  split
  · have hcleared : (s.setChan n { s.chan n with releaseLine := none, handover := false }).RoutineWithinFour := hs.same
    split
    · exact hcleared.claimAndTap
    · exact endTest (releasePath (hcleared.sameTest (t := t) (by simp [ht]) rfl))
  · split
    · exact endTest (releasePath hs.same)
    · exact hs.endTest

theorem freeClaim {b p} : (s.freeClaim b p).RoutineWithinFour := hs.keep

theorem completeRelease {b l} : (s.completeRelease n b l).RoutineWithinFour :=
  finishRelease (releasePath (same hs.freeClaim))

theorem stickRelay {b l} : (s.stickRelay b l).RoutineWithinFour := hs.keep

theorem timeOutRelease {b l} : (s.timeOutRelease n b l).RoutineWithinFour :=
  finishRelease (stickRelay hs.same)

/-! ### Calibration runs -/

theorem beginPhase {p} : (s.beginPhase n p).RoutineWithinFour := offer hs.same

theorem beginRun {t} : (s.beginRun n t).RoutineWithinFour := beginPhase hs.same

theorem idleHead : (s.idleHead n).RoutineWithinFour := offer hs.same

theorem leaveRun {b} : (s.leaveRun n b).RoutineWithinFour := noteIdle hs.same

theorem failRun {c} : (s.failRun n c).RoutineWithinFour := by
  have hidle := hs.idleHead (n := n)
  dsimp only [State.failRun]
  have hleft : ∀ b, (State.leaveRun (if c = .restart then s.idleHead n
      else (s.idleHead n).raise .head n .headCalFail none) n b).RoutineWithinFour := by
    intro b
    split
    · exact hidle.leaveRun
    · exact hidle.raise.leaveRun
  split
  · exact respond (hleft _)
  · exact hleft _

theorem setRun {r} : (s.setRun n r).RoutineWithinFour := hs.same

theorem finishRun {r v i j t} : (s.finishRun n r v i j t).RoutineWithinFour :=
  respond (leaveRun (hs.idleHead (n := n)).keep)

theorem phaseDone {w} : (s.phaseDone n w).RoutineWithinFour := by
  have hnext : ∀ r p, ((s.setRun n r).beginPhase n p).RoutineWithinFour := fun _ _ => hs.setRun.beginPhase
  dsimp only [State.phaseDone]
  split
  · exact hnext _ _
  · exact hnext _ _
  · split
    · exact hs.failRun
    · exact hnext _ _
  · split
    · exact hs.failRun
    · exact hnext _ _
  · split
    · exact hs.failRun
    · split
      · exact hs.finishRun
      · exact hs
  · exact hs

/-! ### The running of a plan -/

theorem beginRepetition {r p} : (s.beginRepetition n r p).RoutineWithinFour := offer hs.same

theorem beginStep {i p} : (s.beginStep n i p).RoutineWithinFour := by
  unfold State.beginStep
  split
  · exact hs.beginRepetition
  · exact hs

/-- A result is recorded in the test that the channel holds. -/
theorem formResult {t r p x} (ht : (s.chan n).test = some t) : (s.formResult n t r p x).RoutineWithinFour := by
  dsimp only [State.formResult]
  generalize hu : s.setChan n { s.chan n with test := some { t with results := t.results ++ [x] } } = u
  have hrecorded : u.RoutineWithinFour := hu ▸ hs.sameTest ht rfl
  have htold : (State.resultTickets (if r.notify then u.stepNotice n t p.position x else u) t r x).RoutineWithinFour := by
    split <;> exact hrecorded.keep
  split
  · exact htold.endByCause
  · split
    · exact htold.endByCause
    · exact htold.beginStep

theorem evaluate {t r p w} (ht : (s.chan n).test = some t) : (s.evaluate n t r p w).RoutineWithinFour := by
  have hassessed : (s.assessUsed n w.temp r.kind r.range).RoutineWithinFour := hs.keep
  dsimp only [State.evaluate]
  split
  · exact hassessed.beginRepetition
  · exact hassessed.formResult (by rw [State.chan_congr (s := s) (by simp)]; exact ht)

theorem windowDone {w} : (s.windowDone n w).RoutineWithinFour := by
  dsimp only [State.windowDone]
  split
  · split
    · exact hs.evaluate ‹_›
    · exact hs
  · exact hs

/-! ### Sample Intake -/

theorem settleBlock {w p} : (s.settleBlock n w p).RoutineWithinFour := by
  have hwritten : ∀ c : Channel, c.test = (s.chan n).test → (s.setChan n c).RoutineWithinFour :=
    fun c hc => hs.same (by rw [Channel.holdsRoutine, hc]; exact id)
  dsimp only [State.settleBlock]
  split
  · exact hwritten _ (by split <;> rfl)
  · exact hwritten _ (by split <;> rfl)
  · split
    · exact failRun hs.same
    · exact hs.same

theorem loss {w p} : (s.loss n w p).RoutineWithinFour := by
  dsimp only [State.loss]
  split
  · split
    · exact failRun hs.same
    · exact endByCause hs.same
  · refine settleBlock (hs.same ?_)
    split <;> exact id

theorem accumulate {w t p} : (s.accumulate n w t p).RoutineWithinFour := by
  dsimp only [State.accumulate]
  split
  · split
    · exact phaseDone hs.same
    · exact windowDone hs.same
  · exact hs.same

theorem actOnFrame {c t p} : (s.actOnFrame n c t p).RoutineWithinFour := by
  unfold State.actOnFrame
  split
  · exact hs
  split
  · exact hs.settleBlock
  · exact hs.settleBlock
  · exact hs.loss
  · exact hs.accumulate
  · exact hs.loss
  · exact hs

theorem trip : (s.trip n).RoutineWithinFour := by
  dsimp only [State.trip]
  split
  · exact hs
  · have hended : State.RoutineWithinFour (State.endByCause (s.setChan n { s.chan n with protMark := true }) n .protective) :=
      endByCause hs.same
    exact hended.keep

theorem takeSample {x} : (s.takeSample x).RoutineWithinFour := by
  unfold State.takeSample
  split
  · dsimp only [State.handleSample]
    split
    · exact actOnFrame hs.same
    · split
      · exact trip hs.same
      · exact actOnFrame hs.same
  · exact hs

theorem headSilent : (s.headSilent n).RoutineWithinFour := by
  have hsilent : (State.raise (s.setChan n { s.chan n with headOut := true }) .head n .headSilent none).RoutineWithinFour :=
    raise hs.same
  dsimp only [State.headSilent]
  split
  · exact hsilent.failRun
  · exact hsilent.endByCause

/-! ### Relays -/

theorem confirmTap {b l} : (s.confirmTap n b l).RoutineWithinFour := by
  dsimp only [State.confirmTap]
  have hmade : ∀ u : State, u.RoutineWithinFour → (u.setChan n { u.chan n with stage := .sourcing }).RoutineWithinFour :=
    fun _ hu => hu.same
  split
  · exact (hmade _ hs.setBus.setAccess).beginStep
  · exact hmade _ hs.setBus.setAccess

theorem tapMade {l b} : (s.tapMade l b).RoutineWithinFour := by
  dsimp only [State.tapMade]
  split
  · exact hs
  split
  · exact hs
  split
  · split
    · split
      · exact hs.confirmTap
      · exact hs.keep
    all_goals exact hs.keep
  · exact hs.keep

theorem relayDrop {b l} : (s.relayDrop n b l).RoutineWithinFour := endByCause (raise (setBus hs))

theorem tapBroken {l b} : (s.tapBroken l b).RoutineWithinFour := by
  have hstray : (s.strayBroken l b).RoutineWithinFour := hs.keep
  dsimp only [State.tapBroken]
  split
  · exact hs
  split
  · next n _ =>
    have hdrop : (if (s.bus b).confirmed = some l then s.relayDrop n b l else s.strayBroken l b).RoutineWithinFour := by
      split
      · exact hs.relayDrop
      · exact hstray
    split
    · exact hdrop
    · exact hdrop
    · exact hdrop
    · split
      · exact hs.completeRelease
      · exact hstray
    all_goals exact hstray
  · split
    · exact hs.freeClaim.releasePath
    · exact hstray
  · split
    · exact hs.keep
    · exact hstray
  all_goals exact hstray

/-! ### Highway events -/

theorem loopEvent {l e} : (s.loopEvent l e).RoutineWithinFour := by
  dsimp only [State.loopEvent]
  split
  · exact hs
  split
  · exact hs
  next c counted _ =>
  have hcounted : (if counted then (s.setCondition l c).countedTransition l else s.setCondition l c).RoutineWithinFour := by
    split <;> exact hs.keep
  split
  · exact hcounted.yieldTrigger
  · exact hcounted

theorem cardState {c b} : (s.cardState c b).RoutineWithinFour := by
  dsimp only [State.cardState]
  have hyields : ∀ (L : List Nat) (u : State), u.RoutineWithinFour →
      ((u.inFreeOrder L).1.foldl State.yieldTrigger (u.inFreeOrder L).2).RoutineWithinFour :=
    fun L u hu => fold hu.keep _ fun _ _ hv => hv.yieldTrigger
  split
  · exact keep (hyields _ _ hs.keep) rfl rfl
  · exact hyields _ _ hs.keep

theorem readScanEvent {x} : (s.readScanEvent x).RoutineWithinFour := by
  unfold State.readScanEvent
  split
  · exact hs.loopEvent
  · exact hs.loopEvent
  · exact hs.loopEvent
  · exact hs.tapMade
  · exact hs.tapBroken
  · exact hs.keep
  · exact hs.keep
  · exact hs.keep
  · exact hs.cardState

theorem enterUp {f} : (s.enterUp f).RoutineWithinFour := hs.keep

theorem dispatchS {f} : (s.dispatchS f).RoutineWithinFour := by
  unfold State.dispatchS
  split
  · dsimp only [State.dispatchScan]
    split
    · exact hs.readScanEvent
    · exact hs.readScanEvent.enterUp
  · split
    · split
      · exact hs.takeSample
      · exact hs.keep
    · exact hs.keep

theorem dispatchU {f} : (s.dispatchU f).RoutineWithinFour := by
  unfold State.dispatchU
  split
  · exact hs.keep
  split
  · split <;> exact hs.keep
  · split
    · exact hs.screen
    · exact hs.keep

theorem startTied {f} : (s.startTied f).RoutineWithinFour := by
  dsimp only [State.startTied]
  split
  · exact hs
  · exact hs
  · split
    · exact hs.keep
    · exact hs
  · split
    · split
      · exact hs.keep
      · exact hs
    · exact hs
  · split
    · exact hs.keep
    · exact hs
  · split
    · split <;> exact hs.same
    · exact hs

theorem leaveSOwn : s.leaveSOwn.RoutineWithinFour := by
  unfold State.leaveSOwn
  split
  · exact hs
  · next f rest _ =>
    have hleft : State.RoutineWithinFour { s with link.sOwn := rest, link.portS := s.link.portS.departed } := hs.keep
    exact (hleft.startTied (f := f)).keep

/-! ### Desk commands -/

omit hs in
/-- The Command Unit hands a command to its handler, or leaves the state (R178). -/
theorem onCommand {s : State} (hs : s.RoutineWithinFour) (c : Instr) {g : Byte → Bytes → State → State}
    (hg : ∀ {tag ps u}, u.RoutineWithinFour → (g tag ps u).RoutineWithinFour) : (s.onCommand c g).RoutineWithinFour := by
  obtain he | ⟨f, rest, -, -, -, he⟩ := s.onCommand_cases c g
  · rw [he]; exact hs
  · rw [he]; exact hg hs.keep

theorem badParam {t} : (s.badParam t).RoutineWithinFour := hs.keep

theorem unstick {b} : (s.unstick b).RoutineWithinFour := hs.keep

theorem doClearStuck {t p} : (State.doClearStuck t p s).RoutineWithinFour := by
  unfold State.doClearStuck
  split
  · dsimp only
    split
    · exact hs.badParam
    split
    · exact respond (settle (wantAttempt (unstick hs.setBus)))
    split
    · exact hs.unstick.respond
    · exact hs.respond
  · exact hs.badParam

/-- The victim's routine test leaves its channel to the urgent one, and its context joins the suspend list (R70). -/
theorem preempt {t : TestRec} (hn : n < 4) (hr : (s.chan n).holdsRoutine = true) (ht : t.priority = .urgent) :
    (s.preempt n t).RoutineWithinFour := by
  dsimp only [State.preempt]
  split
  · next v b _ _ =>
    refine release (setAccess ?_)
    generalize hu : s.pushContext ((s.chan n).context v) = u
    generalize hc : ({ s.chan n with
      test := some t, step := none, releaseLine := some v.line, handover := true
      exposure := 0, peak := 0, origin := .unset, restartEnded := false } : Channel) = c
    have hlist : u.sweep.suspended.length ≤ s.sweep.suspended.length + 1 := by
      rw [← hu, State.pushContext_suspended]; split <;> simp
    have hchans : ∀ m, u.chan m = s.chan m := State.chan_congr (by simp [← hu])
    have hcount : u.routineCount = s.routineCount := by simp only [State.routineCount, hchans]
    have hwritten := u.routineCount_setChan hn c
    have hurgent : c.holdsRoutine = false := by rw [← hc, Channel.holdsRoutine_of_test rfl, ht]; rfl
    rw [hchans, hr, hcount, hurgent, Bool.toNat_true, Bool.toNat_false] at hwritten
    have hfour : s.sweep.suspended.length + s.routineCount ≤ 4 := hs
    show u.sweep.suspended.length + (u.setChan n c).routineCount ≤ 4
    omega
  · exact hs

theorem admitUrgent {u : State} {q h} (hu : s.admitUrgent q = some (h, u)) : u.RoutineWithinFour := by
  unfold State.admitUrgent at hu
  split at hu
  · obtain ⟨b, -, he⟩ := Option.map_eq_some_iff.1 hu
    cases he; exact hs.startUrgent rfl
  · obtain ⟨g, hg, he⟩ := Option.map_eq_some_iff.1 hu
    cases he
    obtain ⟨hlt, -, hroutine, -⟩ := State.victim_eligible hg
    exact settle (hs.preempt hlt ((Channel.holdsRoutine_iff _).2 hroutine) rfl)

theorem doTest {t p} : (State.doTest t p s).RoutineWithinFour := by
  unfold State.doTest
  split
  · exact hs.badParam
  split
  · exact hs.respond
  split
  · exact (hs.admitUrgent ‹_›).respond
  · exact hs.respond

theorem doAbort {t p} : (State.doAbort t p s).RoutineWithinFour := by
  have hawaits : ∀ h, (s.awaitAbort h t).RoutineWithinFour := fun _ => hs.same
  unfold State.doAbort
  split
  · exact hs.badParam
  split
  · exact hs.respond
  unfold State.abortOn
  split
  · exact hs.respond
  · exact hs.respond
  · exact hs.respond
  · exact (hawaits _).endByCause
  · exact (hawaits _).endByCause
  · exact (hawaits _).endByCause
  · exact (hawaits _).endByCause
  dsimp only [State.abortHandover]
  split
  · refine (hawaits _).same ?_
    cases h : ((s.awaitAbort _ t).chan _).test <;> simp [Channel.holdsRoutine, h]
  · exact hawaits _

theorem headBack : (s.headBack n).RoutineWithinFour := by
  dsimp only [State.headBack]
  exact clear (noteIdle hs.same)

theorem doReturnHead {t p} : (State.doReturnHead t p s).RoutineWithinFour := by
  unfold State.doReturnHead
  split
  · split
    · exact hs.badParam
    split
    · exact hs.headBack.settle.respond
    · exact hs.respond
  · exact hs.badParam

theorem doCalibrate {t p} : (State.doCalibrate t p s).RoutineWithinFour := by
  unfold State.doCalibrate
  split
  · split
    · exact hs.badParam
    split
    · exact hs.beginRun
    · exact hs.respond
  · exact hs.badParam

theorem sweepOk {t} : (s.sweepOk t).RoutineWithinFour := hs.keep

theorem sweepBusy {t} : (s.sweepBusy t).RoutineWithinFour := hs.keep

theorem doSweepStart {t p} : (State.doSweepStart t p s).RoutineWithinFour := by
  unfold State.doSweepStart
  split
  · exact hs.runPass.sweepOk
  all_goals exact hs.sweepBusy

theorem doSweepPause {t p} : (State.doSweepPause t p s).RoutineWithinFour := by
  have hpaused : ∀ left, (s.pauseFrom left).RoutineWithinFour := fun _ => hs.sweepOnly
  unfold State.doSweepPause
  split
  · exact (hpaused _).sweepOk
  · exact (hpaused _).sweepOk
  all_goals exact hs.sweepBusy

theorem doSweepLoad {t p} : (State.doSweepLoad t p s).RoutineWithinFour := by
  unfold State.doSweepLoad
  split
  · split
    · exact hs.badParam
    split
    · exact hs.badParam
    · exact respond hs.sweepOnly
  · exact hs.badParam

theorem doSweepMark {t p} : (State.doSweepMark t p s).RoutineWithinFour := by
  unfold State.doSweepMark
  split
  · split
    · exact respond hs.sweepOnly
    split
    · exact hs.badParam
    · exact respond hs.sweepOnly
  · exact hs.badParam

theorem doSweepResume {t p} : (State.doSweepResume t p s).RoutineWithinFour := by
  have hresumed : s.resume.RoutineWithinFour := by
    unfold State.resume
    split
    · exact hs.runPass
    split
    · exact hs.sweepOnly
    all_goals exact settle hs.sweepOnly
  unfold State.doSweepResume
  split
  · exact hresumed.sweepOk
  all_goals exact hs.sweepBusy

/-- A stop empties the suspend list (R153). -/
theorem doSweepStop {t p} : (State.doSweepStop t p s).RoutineWithinFour := by
  have hdrained : s.drain.settle.RoutineWithinFour := by
    refine settle (hs.fewer ?_ fun n => ?_)
    · rw [(s.drain_sweep).1]; exact Nat.zero_le _
    · rw [State.chan_congr s.drain_chans]; exact id
  unfold State.doSweepStop
  split
  · exact hs.sweepBusy
  · exact hdrained.sweepOk
  · exact hdrained.sweepOk
  · exact hdrained.sweepOk
  · exact hs.sweepOk

theorem doSuspect {t p} : (State.doSuspect t p s).RoutineWithinFour := by
  unfold State.doSuspect
  split
  · dsimp only
    split
    · exact hs.badParam
    · split <;> exact respond (settle hs.keep)
  · exact hs.badParam

theorem restartChannel : (s.restartChannel n).RoutineWithinFour := by
  have hended : (s.setChan n (s.chan n).restarted).RoutineWithinFour := hs.noTest
  have htap : (s.restartTap n).RoutineWithinFour := by
    dsimp only [State.restartTap]
    split
    · exact hended
    · exact hended.keep
  unfold State.restartChannel
  split
  · exact hs
  · exact hs
  · exact htap
  · exact htap
  · exact htap
  · exact htap
  · exact hs.same
  · exact hs.failRun

/-- A warm restart loses the suspend list (R164). -/
theorem doRestart {t p} : (State.doRestart t p s).RoutineWithinFour := by
  unfold State.doRestart
  split
  · exact hs.respond
  have hchannels : (State.restartChannels (s.respond t .ok (byte1 s.activeChannels))).RoutineWithinFour :=
    fold hs.keep _ fun _ _ hu => hu.restartChannel
  dsimp only [State.warmRestart]
  refine hchannels.fewer (Nat.zero_le _) fun m => ?_
  rw [State.chan_congr (s := State.restartChannels (s.respond t .ok (byte1 s.activeChannels))) (by simp)]
  exact id

end Writes

/-! ### Every command, every step -/

section Steps

open Steady (answer)

variable {s t : State} (hs : s.RoutineWithinFour)
include hs

theorem desk {c} {g : Byte → Bytes → State → State} (he : (Host.Outcome.next (s.onCommand c g) : Answer) = .next t)
    (hg : ∀ {tag ps u}, u.RoutineWithinFour → (g tag ps u).RoutineWithinFour) : t.RoutineWithinFour :=
  answer (hs.onCommand c hg) he

theorem exec_arrivalU {f} (he : exec (.frameArrivesPortU f) s = .next t) : t.RoutineWithinFour := by
  simp only [exec, execFrameArrivesPortU] at he
  split at he
  · exact answer hs he
  · exact answer hs.keep he
  · split at he
    · exact answer hs.dispatchU he
    · exact answer hs.keep he

theorem exec_arrivalS {f} (he : exec (.frameArrivesPortS f) s = .next t) : t.RoutineWithinFour := by
  simp only [exec, execFrameArrivesPortS] at he
  split at he
  · exact answer hs he
  · exact answer hs.keep he
  · split at he
    · exact answer hs.dispatchS.settle he
    · exact answer hs.keep he

theorem exec_departures {port} (he : exec (.frameLeavesPort port) s = .next t) : t.RoutineWithinFour := by
  simp only [exec, execFrameLeavesPort] at he
  split at he
  · split at he
    · exact answer hs he
    · exact answer hs.keep he
    · exact answer hs.leaveSOwn he
  · split at he
    · exact answer hs he
    · exact answer hs.keep he
    · exact answer hs.keep he

/-- No command brings suspended contexts and routine tests above four. -/
theorem exec_next {c : Instr} (he : exec c s = .next t) : t.RoutineWithinFour := by
  cases c with
  | coldReset => exact answer (u := { State.reset with pending := s.pending }) (Nat.zero_le 4) he
  | rstnRelease =>
    simp only [exec, execRstnRelease] at he
    split at he
    · exact answer (u := s.released) (hs.fewer le_rfl fun _ h => nomatch h) he
    all_goals exact answer hs he
  | bypassEnd =>
    simp only [exec, execBypassEnd] at he
    split at he
    · split at he
      · exact answer (u := s.started) (hs.keep (by simp [State.started]) (by simp [State.started])) he
      · exact answer hs he
    all_goals exact answer hs he
  | frameArrivesPortU f => exact hs.exec_arrivalU he
  | frameArrivesPortS f => exact hs.exec_arrivalS he
  | creditAnnouncement port n =>
    simp only [exec, execCreditAnnouncement] at he
    split at he
    · exact answer hs he
    all_goals split at he <;> exact answer hs.keep he
  | frameLeavesPort port => exact hs.exec_departures he
  | sOwnOfferEnters =>
    simp only [exec, execSOwnOfferEnters] at he
    split at he
    · exact answer hs he
    · split at he <;> exact answer hs.keep he
  | holdRecordLapse n =>
    simp only [exec, execHoldRecordLapse] at he
    split at he
    · split at he <;> exact answer hs.keep he
    · exact answer hs he
  | flushOffer l => exact answer (u := s.flushOn l) hs.keep he
  | auditTimerExpiry n =>
    simp only [exec, execAuditTimerExpiry] at he
    split at he <;> exact answer hs.keep he
  | tapConfirmTimerExpiry b =>
    simp only [exec, execTapConfirmTimerExpiry] at he
    split at he
    · split at he
      · exact answer hs.raise.endByCause he
      · exact answer hs he
    · exact answer hs he
  | releaseConfirmTimerExpiry b =>
    simp only [exec, execReleaseConfirmTimerExpiry] at he
    split at he
    · split at he
      · exact answer hs.timeOutRelease.settle he
      · exact answer hs he
    · exact answer hs he
  | restartReleaseTimeout b =>
    simp only [exec, execRestartReleaseTimeout] at he
    split at he
    · split at he <;> exact answer hs.keep he
    · exact answer hs he
  | strayReleaseTimerExpiry b =>
    simp only [exec, execStrayReleaseTimerExpiry] at he
    split at he
    · split at he <;> exact answer hs.keep he
    · exact answer hs he
  | lockoutEnd b =>
    simp only [exec, execLockoutEnd] at he
    split at he
    · split at he
      · exact answer (settle (wantAttempt hs.setBus)) he
      · exact answer hs he
    · exact answer hs he
  | intervalTimerExpiry =>
    simp only [exec, execIntervalTimerExpiry] at he
    split at he
    · split at he
      · exact answer hs.runPass he
      · exact answer (hs.sweepOnly (w := { s.sweep with timer := none, startWaits := true })) he
      all_goals exact answer hs he
    · exact answer hs he
  | headTimerExpiry n =>
    simp only [exec, execHeadTimerExpiry] at he
    split at he
    · exact answer hs.headSilent.settle he
    · exact answer hs he
  | flapUnitBoundary =>
    simp only [exec, execFlapUnitBoundary] at he
    split at he
    · exact answer hs he
    all_goals
      split at he
      · exact answer (u := s.flapBoundary) (hs.keep rfl rfl) he
      · exact answer hs he
  | minuteCounterAdvance =>
    simp only [exec, execMinuteCounterAdvance] at he
    split at he
    · exact answer hs he
    all_goals
      split at he
      · exact answer (u := s.nextMinuteComes) (hs.keep rfl rfl) he
      · exact answer hs he
  | hourTick =>
    simp only [exec, execHourTick] at he
    split at he <;> exact answer hs.keep he
  | receptionBrokenOff port =>
    simp only [exec, execReceptionBrokenOff] at he
    split at he <;> exact answer hs.keep he
  | clearStuck => exact hs.desk he (·.doClearStuck)
  | test => exact hs.desk he (·.doTest)
  | abort => exact hs.desk he (·.doAbort)
  | returnHead => exact hs.desk he (·.doReturnHead)
  | calibrate => exact hs.desk he (·.doCalibrate)
  | sweepLoad => exact hs.desk he (·.doSweepLoad)
  | sweepStart => exact hs.desk he (·.doSweepStart)
  | sweepStop => exact hs.desk he (·.doSweepStop)
  | sweepPause => exact hs.desk he (·.doSweepPause)
  | sweepResume => exact hs.desk he (·.doSweepResume)
  | sweepMark => exact hs.desk he (·.doSweepMark)
  | suspect => exact hs.desk he (·.doSuspect)
  | restart => exact hs.desk he (·.doRestart)
  | unknownCommand | loadLines | lineRead | inhibit | clearHazard | loadBusmap | loadStep | loadPlan | loadProfile
  | setCalCoef | ticketRead | ticketAck | ticketClose | ticketNote | setParam | status => exact hs.desk he (·.keep)

/-- Neither a command nor the part's own waiting does. -/
theorem step_next (he : Machine.step s = .next t) : t.RoutineWithinFour := by
  unfold Machine.step at he
  split at he
  · next c rest _ =>
    have hpopped : State.RoutineWithinFour { s with pending := rest } := hs
    exact hpopped.exec_next he
  · refine answer (u := s.idle) ?_ he
    unfold State.idle
    split
    · unfold State.passTime
      split <;> exact hs.keep
    all_goals exact hs.keep

end Steps

end State.RoutineWithinFour

/-- Settles O40: a new routine test finds fewer than four that run or are suspended, a resumed one leaves the suspend list, and a
victim's context takes the place of its test. -/
theorem stepsKeepRoutineWithinFour : Obligations.StepsKeepRoutineWithinFour := fun _ _ hs => hs.step_next

end Sys2Proof.Machine

namespace Sys2Proof.Machine

/-! ## O33: the settling of an act (R152 to R154, R160, R162) -/

section Settling

variable {s : State}

/-! ### When a drain and when a pass is over -/

/-- No channel holds a routine test. -/
abbrev State.NoRoutine (s : State) : Prop := ∀ h, h < 4 → ∀ t, (s.chan h).test = some t → t.priority ≠ .routine

theorem State.routineHeld_eq_false_iff : s.routineHeld = false ↔ s.NoRoutine := by
  simp [State.routineHeld, mem_allChannels, ← Bool.not_eq_true, Channel.holdsRoutine_iff]

theorem State.belongs_iff (hu : s.sweep.underWay = true) (pass : Nat) (started : Bool) :
    s.belongs pass started = true ↔ started = true ∧ pass = s.sweep.passNumber := by
  simp [State.belongs, hu]

/-- The conditions of a pass end (R162). -/
theorem State.passDone_iff : s.passDone = true ↔ s.sweep.underWay = true ∧ s.sweep.state = .running ∧ s.sweep.walk = .done ∧
    s.sweep.revisits = [] ∧
    (∀ h, h < 4 → ∀ t, (s.chan h).test = some t → t.priority = .routine →
      ¬ (t.startedInPass = true ∧ t.pass = s.sweep.passNumber)) ∧
    ∀ x ∈ s.sweep.suspended, ¬ (x.startedInPass = true ∧ x.pass = s.sweep.passNumber) := by
  by_cases hu : s.sweep.underWay = true
  swap
  · simp [State.passDone, hu]
  simp only [State.passDone, Bool.and_eq_true, beq_iff_eq, List.isEmpty_iff, Bool.not_eq_true', and_assoc,
    List.any_eq_false, State.belongs_iff hu, hu, true_and]
  refine and_congr_right fun _ => and_congr_right fun _ => and_congr_right fun _ => and_congr_left fun _ =>
    forall_congr' fun h => ?_
  rw [mem_allChannels]
  cases (s.chan h).test <;> simp [State.belongs_iff hu]

/-! ### What the end of a drain and of a pass leave -/

theorem State.endDrain_eq_self (h : ¬ (s.sweep.state = .draining ∧ s.NoRoutine)) : s.endDrain = s :=
  if_neg (by rwa [State.routineHeld_eq_false_iff])

theorem State.endDrain_eq_self_of_state (h : s.sweep.state ≠ .draining) : s.endDrain = s :=
  State.endDrain_eq_self fun hd => h hd.1

/-- A drain ends STOPPED, with PASS_STOPPED; with no pass under way its counts are 0 (R153). -/
theorem State.endDrain_eq (hd : s.sweep.state = .draining) (hq : s.NoRoutine) : s.endDrain =
    { s.notify .sweep (byte1 3 ++ (byte1 s.sweep.passNumber ++ flagByte s.sweep.underWay ++
        (if s.sweep.underWay = true then s.sweep.counts.bytes else List.replicate 22 0))) with
      sweep := { s.sweep with underWay := false, state := .stopped } } := by
  have hcounts : (if s.sweep.underWay = true then s.sweep.counts else Counts.zero).bytes =
      if s.sweep.underWay = true then s.sweep.counts.bytes else List.replicate 22 0 := by
    split <;> rfl
  rw [State.endDrain, if_pos ⟨hd, State.routineHeld_eq_false_iff.2 hq⟩]
  dsimp only
  rw [hcounts]
  simp [State.sweepNotice, SweepEvent.code]

/-- A pass ends with PASS_END, in WAITING (R162, steps 1 to 3). -/
theorem State.endPass_eq (s : State) : s.endPass =
    { s.notify .sweep (byte1 2 ++ (byte1 s.sweep.passNumber ++ s.sweep.counts.bytes)) with
      sweep := { s.sweep with underWay := false, walk := .unset, state := .waiting } } := by
  simp [State.endPass, State.sweepNotice, SweepEvent.code]

/-! ### One round of the settling -/

variable {n : Nat} {last : Option Backlog}

/-- A round begins with the end of a drain, which has come to its end after it. -/
theorem State.settleWith_endDrain : State.settleWith (n + 1) last s = State.settleWith (n + 1) last s.endDrain := by
  have hover : s.endDrain.endDrain = s.endDrain := by
    by_cases h : s.sweep.state = .draining ∧ s.NoRoutine
    · exact State.endDrain_eq_self_of_state (by rw [State.endDrain_eq h.1 h.2]; simp)
    · rw [State.endDrain_eq_self h, State.endDrain_eq_self h]
  rw [State.settleWith, State.settleWith, hover]

/-- Nothing ends and no attempt is due: the act is settled. -/
theorem State.settleWith_settled (hd : ¬ (s.sweep.state = .draining ∧ s.NoRoutine)) (hp : s.passDone = false)
    (ha : s.sweep.attemptDue = false) : State.settleWith (n + 1) last s = s := by
  rw [State.settleWith, State.endDrain_eq_self hd]
  simp [hp, ha]

/-- Nothing ends: the attempt that is due is made, and what it leaves is judged (R154). -/
theorem State.settleWith_attempts (hd : ¬ (s.sweep.state = .draining ∧ s.NoRoutine)) (hp : s.passDone = false)
    (ha : s.sweep.attemptDue = true) : State.settleWith (n + 1) last s =
      State.settleWith n last (State.attempt 5 [] { s with sweep := { s.sweep with attemptDue := false } }) := by
  rw [State.settleWith, State.endDrain_eq_self hd]
  simp [hp, ha, State.attemptIfDue, attemptFuel]

/-- A pass that is done at a nonzero interval ends, before an attempt that is due, and the interval timer starts (R162). -/
theorem State.settleWith_interval (hp : s.passDone = true) (hi : s.sweep.config.interval ≠ 0) :
    State.settleWith (n + 1) last s = State.settleWith n last
      { s.notify .sweep (byte1 2 ++ (byte1 s.sweep.passNumber ++ s.sweep.counts.bytes)) with
        sweep := { s.sweep with
          underWay := false, walk := .unset, state := .waiting
          timer := some (s.now + BitVec.ofNat 48 (s.sweep.config.interval * 60000)) } } := by
  obtain ⟨-, hrunning, -⟩ := State.passDone_iff.1 hp
  rw [State.settleWith, State.endDrain_eq_self_of_state (by simp [hrunning])]
  simp [hp, hi, State.endPass_eq, State.startInterval, after]

/-- A pass that is done at an interval of 0 is followed at once, if the backlog has changed since the last start of the act
(R162; log entry 11). -/
theorem State.settleWith_followed (hp : s.passDone = true) (hi : s.sweep.config.interval = 0)
    (hl : last ≠ some s.backlog) : State.settleWith (n + 1) last s =
      State.settleWith n (some s.backlog) s.endPass.beginPass := by
  obtain ⟨-, hrunning, -⟩ := State.passDone_iff.1 hp
  have hbacklog : s.endPass.backlog = s.backlog := by simp [State.endPass_eq, State.backlog]
  have hinterval : s.endPass.sweep.config.interval = 0 := by simp [State.endPass_eq, hi]
  rw [State.settleWith, State.endDrain_eq_self_of_state (by simp [hrunning])]
  simp [hp, hinterval, hbacklog, hl]

/-- With the backlog unchanged the next pass waits for the next millisecond (log entry 11). -/
theorem State.settleWith_waits (hp : s.passDone = true) (hi : s.sweep.config.interval = 0) (hl : last = some s.backlog) :
    State.settleWith (n + 1) last s = State.settleWith n last
      { s.endPass with sweep := { s.endPass.sweep with timer := some (s.now + 1) } } := by
  have hnow : s.endPass.now = s.now := by simp [State.endPass_eq]
  obtain ⟨-, hrunning, -⟩ := State.passDone_iff.1 hp
  have hbacklog : s.endPass.backlog = s.backlog := by simp [State.endPass_eq, State.backlog]
  have hinterval : s.endPass.sweep.config.interval = 0 := by simp [State.endPass_eq, hi]
  rw [State.settleWith, State.endDrain_eq_self_of_state (by simp [hrunning])]
  simp [hp, hinterval, hbacklog, hl, State.startInterval, after, hnow]

/-- The end of a drain leaves an attempt that is due nothing to start (R153, R154). -/
theorem State.settleWith_drained (hd : s.sweep.state = .draining) (hq : s.NoRoutine) : State.settleWith (n + 2) last s =
    { s.notify .sweep (byte1 3 ++ (byte1 s.sweep.passNumber ++ flagByte s.sweep.underWay ++
        (if s.sweep.underWay = true then s.sweep.counts.bytes else List.replicate 22 0))) with
      sweep := { s.sweep with underWay := false, state := .stopped, attemptDue := false } } := by
  rw [State.settleWith_endDrain, State.endDrain_eq hd hq, State.settleWith_stopped n last _ rfl]

end Settling

/-- With the sweep WAITING, STOPPED or PAUSED nothing ends. -/
theorem State.passDone_of_state {s : State} (h : s.sweep.state ≠ .running) : s.passDone = false := by
  rw [← Bool.not_eq_true, State.passDone_iff]
  exact fun hp => h hp.2.1

/-- A state in which no pass and no drain can end, and no attempt is due, is settled. -/
theorem State.settle_idle {s : State} (hs : s.sweep.state ∈ [SweepState.stopped, .waiting, .paused])
    (ha : s.sweep.attemptDue = false) (n : Nat) (last : Option Backlog) : State.settleWith (n + 1) last s = s :=
  State.settleWith_settled (fun hd => by simp [hd.1] at hs)
    (State.passDone_of_state fun hr => by simp [hr] at hs) ha

/-- Settles O33: the rounds of the settling, one by one, and what they leave of an act. -/
theorem settlingOfAnAct : Obligations.SettlingOfAnAct := by
  refine ⟨fun s => ?_, fun s => ?_, fun s n last => ?_⟩
  · intro c counts
    refine ⟨fun ha hu hr hw hv htests hlist hi => ?_, fun ha hd hu hq => ?_, fun ha hs => State.settle_idle hs ha _ _,
      State.settle_stopped s⟩
    · have hp := State.passDone_iff.2 ⟨hu, hr, hw, hv, htests, hlist⟩
      rw [State.settle, settleFuel, State.settleWith_interval hp hi]
      exact State.settle_idle (by simp) (by exact ha) _ _
    · rw [State.settle, settleFuel, State.settleWith_drained hd hq]
      simp only [hu, ha, if_true]
      rfl
  · intro c counts ended past begun
    have hpast : past = s.endPass := (State.endPass_eq s).symm
    refine ⟨⟨rfl, rfl⟩, fun hp hi n last => ⟨fun hl => ?_, fun hl => ?_⟩, fun ha hd hu hq => ?_,
      fun ha hd hp hua hud hup => ?_⟩
    · rw [State.settleWith_followed hp hi hl, ← hpast]
      have hdue : begun.sweep.attemptDue = true := by rw [State.startPass_sweep]
      rw [State.beginPass, State.attemptIfDue, if_pos hdue]
      rfl
    · rw [State.settleWith_waits hp hi hl, ← hpast]
    · rw [State.settle, settleFuel, State.settleWith_drained hd hq]
      simp only [hu, ha, Bool.false_eq_true, if_false]
      rfl
    · rw [State.settle, settleFuel, State.settleWith_attempts (fun h => hd h.1) hp ha]
      exact State.settleWith_settled (fun h => hud h.1) hup hua
  · intro c counts quiet
    exact ⟨State.passDone_iff, State.settleWith_interval, State.settleWith_drained, fun hd hp =>
      ⟨State.settleWith_settled hd hp, State.settleWith_attempts hd hp⟩⟩

end Sys2Proof.Machine

namespace Sys2Proof.Machine

/-! ## O35: the end of a routine test, and the suspect queue (R155 to R161) -/

/-! ### The class of a test and its counts (R160) -/

/-- The highest verdict names the class; an outcome other than COMPLETED counts as INDETERMINATE. -/
theorem routineClass_eq (rs : List StepResult) (o : Option TestOutcome) : routineClass rs o =
    if rs.any fun r => r.verdict == .fail then .fail
    else if rs.any fun r => r.verdict == .marginal then .marginal
    else if (rs.any fun r => r.verdict == .indeterminate) || o != some .completed then .indeterminate
    else if rs.any fun r => r.verdict == .pass then .pass
    else .unset := by
  simp [routineClass, hasVerdict]

/-- The counts of a test of this class, the class in words of the verdicts. -/
theorem Counts.addTested_routineClass (c : Counts) (rs : List StepResult) (o : Option TestOutcome) :
    let tested := { c with tested := min 65535 (c.tested + 1) }
    c.addTested (routineClass rs o) =
      if rs.any fun r => r.verdict == .fail then { tested with fail := min 65535 (c.fail + 1) }
      else if rs.any fun r => r.verdict == .marginal then { tested with marginal := min 65535 (c.marginal + 1) }
      else if (rs.any fun r => r.verdict == .indeterminate) ∨ o ≠ some .completed then
        { tested with indeterminate := min 65535 (c.indeterminate + 1) }
      else if rs.any fun r => r.verdict == .pass then { tested with pass := min 65535 (c.pass + 1) }
      else tested := by
  unfold routineClass hasVerdict
  split_ifs <;> rfl

theorem Counts.addTested_counts (c : Counts) (k : RoutineOutcome) :
    (c.addTested k).tested = min 65535 (c.tested + 1) ∧
    (c.addTested k).fail = (if k = .fail then min 65535 (c.fail + 1) else c.fail) ∧
    (c.addTested k).pass = (if k = .pass then min 65535 (c.pass + 1) else c.pass) := by
  cases k <;> exact ⟨rfl, rfl, rfl⟩

/-! ### The booking (R155, R156, R160) -/

section Booking

variable {s : State} {e : RoutineEnd}

theorem State.count_underWay (h : s.sweep.underWay = true) (g : Counts → Counts) :
    s.count g = { s with sweep := { s.sweep with counts := g s.sweep.counts } } := if_pos h

/-- The line's record names the pass and the class of its last routine test; no other record changes. -/
theorem State.bookEnd_line (m : Nat) : (s.bookEnd e).line m = if m = e.line then { s.line e.line with
    lastPass := e.pass
    lastOutcome := if e.outcome = some .yielded then .missed else routineClass e.results e.outcome } else s.line m := by
  have hyield : ∀ u : State, (u.countYield e).line m = u.line m := fun u => by
    simp [State.line]
  unfold State.bookEnd
  by_cases hy : e.outcome = some .yielded
  · simp only [hy, if_true]
    split <;> simp [hyield, State.writeRoutine]
  · simp only [hy, if_false]
    split <;> simp [State.writeRoutine]

/-- A test that does not belong to the pass under way changes no count (R160). -/
theorem State.bookEnd_foreign (h : s.belongs e.pass e.startedInPass = false) : (s.bookEnd e).sweep = s.sweep := by
  unfold State.bookEnd
  simp only [h, Bool.false_eq_true, if_false]
  split <;> simp

section Belongs

variable (h : s.belongs e.pass e.startedInPass = true)
include h

theorem State.underWay_of_belongs : s.sweep.underWay = true := by
  simp only [State.belongs, Bool.and_eq_true] at h
  exact h.1.1

theorem State.bookEnd_tested (hy : e.outcome ≠ some .yielded) : (s.bookEnd e).sweep =
    { s.sweep with counts := s.sweep.counts.addTested (routineClass e.results e.outcome) } := by
  have hu := State.underWay_of_belongs h
  unfold State.bookEnd
  simp only [hy, h, if_false, if_true]
  rw [State.count_underWay (by simpa using hu)]
  simp

variable (hy : e.outcome = some .yielded)
include hy

theorem State.bookEnd_yielded :
    (s.bookEnd e).sweep = ((s.writeRoutine e.line e.pass .missed).countYield e).sweep := by
  unfold State.bookEnd
  simp only [hy, h, if_true]

/-- A yielded test of the walk or of the suspect queue is put on the revisit list, DEFERRED (R155, R160). -/
theorem State.bookEnd_deferred (ho : e.origin = .walk ∨ ∃ why, e.origin = .suspect why) (hd : s.sweep.state ≠ .draining)
    (hr : s.canRevisit e.line = true) : (s.bookEnd e).sweep = { s.sweep with
      revisits := s.sweep.revisits ++ [⟨e.line, e.plan⟩]
      counts := { s.sweep.counts with deferred := min 65535 (s.sweep.counts.deferred + 1) } } := by
  have hu := State.underWay_of_belongs h
  have hcan : (s.writeRoutine e.line e.pass .missed).canRevisit e.line = true := by simpa [State.canRevisit] using hr
  rw [State.bookEnd_yielded h hy]
  obtain ho | ⟨why, ho⟩ := ho
  · simp [State.countYield, ho, hd, hcan, State.deferLine_eq, hu]
  · simp [State.countYield, ho, hd, hcan, State.deferLine_eq, hu]

/-- It is MISSED in DRAINING, with the list full or holding the line, and so is a yielded revisit (R156, R160). -/
theorem State.bookEnd_missed (ho : e.origin = .revisit ∨ ((e.origin = .walk ∨ ∃ why, e.origin = .suspect why) ∧
      (s.sweep.state = .draining ∨ s.canRevisit e.line = false))) : (s.bookEnd e).sweep = { s.sweep with
      counts := { s.sweep.counts with missed := min 65535 (s.sweep.counts.missed + 1) } } := by
  have hu := State.underWay_of_belongs h
  have hmissed : ((s.writeRoutine e.line e.pass .missed).count Counts.addMissed).sweep = { s.sweep with
      counts := { s.sweep.counts with missed := min 65535 (s.sweep.counts.missed + 1) } } := by
    rw [State.count_underWay (by simpa using hu)]
    simp [Counts.addMissed, bump, satAdd]
  have hcan : (s.writeRoutine e.line e.pass .missed).canRevisit e.line = s.canRevisit e.line := by simp [State.canRevisit]
  have hnot : (s.sweep.state = .draining ∨ s.canRevisit e.line = false) →
      ¬ ((s.writeRoutine e.line e.pass .missed).sweep.state ≠ .draining ∧
        (s.writeRoutine e.line e.pass .missed).canRevisit e.line = true) := by
    rw [hcan]
    rintro (hd | hr) ⟨hnd, hc⟩
    · exact hnd (by simpa using hd)
    · simp [hr] at hc
  rw [State.bookEnd_yielded h hy, ← hmissed, State.countYield]
  obtain ho | ⟨ho | ⟨why, ho⟩, hr⟩ := ho
  · rw [ho]
  · rw [ho]; simp only [if_neg (hnot hr)]
  · rw [ho]; simp only [if_neg (hnot hr)]

end Belongs

end Booking

/-! ### An offer to the suspect queue (R157) -/

section Offer

variable {s : State} {l : Nat}

/-- The queue holds the line. -/
abbrev State.Suspected (s : State) (l : Nat) : Prop := ∃ e ∈ s.sweep.suspects, e.line = l

theorem State.suspectFate_dropped (h : s.sweep.state ∈ [SweepState.stopped, .draining]) : s.suspectFate l = .dropped :=
  if_pos (by simpa using h)

variable (ht : s.sweep.state ∉ [SweepState.stopped, .draining])
include ht

theorem State.suspectFate_taken : s.suspectFate l =
    if s.sweep.suspects.any fun e => e.line == l then .present
    else if 16 ≤ s.sweep.suspects.length then .full
    else .joined (s.sweep.suspects.length + 1) := if_neg (by simpa using ht)

theorem State.suspectFate_present (h : s.Suspected l) : s.suspectFate l = .present := by
  rw [State.suspectFate_taken ht, if_pos (by simpa using h)]

variable (h : ¬ s.Suspected l)
include h

theorem State.suspectFate_full (hr : 16 ≤ s.sweep.suspects.length) : s.suspectFate l = .full := by
  rw [State.suspectFate_taken ht, if_neg (by simpa using h), if_pos hr]

theorem State.suspectFate_joined (hr : s.sweep.suspects.length < 16) :
    s.suspectFate l = .joined (s.sweep.suspects.length + 1) := by
  rw [State.suspectFate_taken ht, if_neg (by simpa using h), if_neg (Nat.not_le.2 hr)]

end Offer

section Offered

variable {s : State} {l p : Nat} {why : Reason}

theorem State.offerSuspect_refused (h : s.suspectFate l = .dropped ∨ s.suspectFate l = .present) :
    s.offerSuspect l p why = s := by
  unfold State.offerSuspect
  rcases h with h | h <;> rw [h]

theorem State.offerSuspect_full (h : s.suspectFate l = .full) : s.offerSuspect l p why =
    { s with sweep := { s.sweep with counts :=
      if s.sweep.underWay then { s.sweep.counts with dropped := min 65535 (s.sweep.counts.dropped + 1) }
      else s.sweep.counts } } := by
  unfold State.offerSuspect State.count
  rw [h]
  dsimp only
  split <;> rfl

theorem State.offerSuspect_joined {n : Nat} (h : s.suspectFate l = .joined n) : s.offerSuspect l p why =
    { s with sweep := { s.sweep with suspects := s.sweep.suspects ++ [⟨l, p, why, false⟩], attemptDue := true } } := by
  unfold State.offerSuspect
  rw [h]
  rfl

end Offered

/-! ### The actions by origin (R161) -/

section Actions

variable {s u v : State} {e : RoutineEnd}

/-- The first result with a property is found behind those without it. -/
theorem find?_first {α : Type} {p : α → Bool} {before after : List α} {r : α} (hr : p r = true)
    (hb : ∀ x ∈ before, p x = false) : (before ++ r :: after).find? p = some r :=
  List.find?_eq_some_iff_append.2 ⟨hr, before, after, rfl, by simpa using hb⟩

theorem State.routineEnded_of_actions (h : (s.bookEnd e).originActions e = v) :
    s.routineEnded e = { v with sweep := { v.sweep with attemptDue := true } } := by
  rw [State.routineEnded, h]; rfl

theorem State.originActions_unmarked (ho : e.origin = .walk ∨ e.origin = .revisit)
    (h : ∀ r ∈ e.results, r.verdict ≠ .marginal) : u.originActions e = u := by
  have hnone : (e.results.find? fun r => r.verdict == .marginal) = none := List.find?_eq_none.2 (by simpa using h)
  unfold State.originActions
  rcases ho with ho | ho <;> simp only [ho, hnone]

/-- The first MARGINAL result of a test of the walk or of the revisits makes its line a suspect. -/
theorem State.originActions_marginal (ho : e.origin = .walk ∨ e.origin = .revisit) {r : StepResult}
    (h : (e.results.find? fun r => r.verdict == .marginal) = some r) :
    u.originActions e = u.offerSuspect e.line e.plan (.marginal r.step) := by
  unfold State.originActions
  rcases ho with ho | ho <;> simp only [ho, h]

section MarginalStep

variable {i : Nat} (ho : e.origin = .suspect (.marginal i))
include ho

theorem State.originActions_stepMissing (h : ∀ r ∈ e.results, r.step ≠ i) : u.originActions e = u := by
  have hnone : (e.results.find? fun r => r.step == i) = none := List.find?_eq_none.2 (by simpa using h)
  simp only [State.originActions, ho, hnone]

variable {r : StepResult} (h : (e.results.find? fun r => r.step == i) = some r)
include h

/-- A suspect step that is MARGINAL again raises its class. -/
theorem State.originActions_again (hv : r.verdict = .marginal) : u.originActions e = u.raise .line e.line r.cls
    (some ⟨none, some ⟨r.kind, r.arrangement, r.value, r.quals, .marginal, .sweep⟩⟩) := by
  simp only [State.originActions, ho, h, hv, if_true, StepResult.evidence]

theorem State.originActions_notAgain (hv : r.verdict ≠ .marginal) : u.originActions e = u := by
  simp only [State.originActions, ho, h, hv, if_false]

end MarginalStep

theorem State.originActions_flap (ho : e.origin = .suspect .flap) : u.originActions e =
    if e.outcome = some .completed ∧ ∀ r ∈ e.results, r.verdict = .pass ∨ r.verdict = .unjudged then
      u.clearTicket .line e.line .intermittentLoop
    else u := by
  simp only [State.originActions, ho, List.all_eq_true, Bool.or_eq_true, beq_iff_eq]

theorem State.originActions_desk (ho : e.origin = .suspect .desk ∨ e.origin = .unset) : u.originActions e = u := by
  unfold State.originActions
  rcases ho with ho | ho <;> simp only [ho]

end Actions

/-- A context that ends YIELDED is reported whatever the policy, for it did not complete (R91, R159). -/
theorem State.yieldContext_eq (s : State) (c : Context) : s.yieldContext c =
    (s.notify .testReport (byte2 c.line ++ byte1 c.plan ++ byte1 2 ++ byte1 0xFF ++ byte1 0xFF ++ byte1 0 ++
      byte4 s.minute.toNat ++ [2] ++ byte1 c.pass ++ byte1 (s.planLength c.plan) ++ byte1 c.results.length ++ flagByte true ++
      byte1 c.rep ++ signed4 0 ++ c.results.flatMap StepResult.bytes)).routineEnded
      ⟨c.line, c.plan, c.pass, c.startedInPass, some .yielded, c.results, c.origin⟩ := by
  have hwanted : ∀ p : Policy, p.wantsReport (some .yielded) c.results = true := fun p => by cases p <;> rfl
  rw [State.yieldContext, State.sendReport, if_pos (.inr (hwanted _))]
  rfl

/-- Settles O35: the booking, the actions by origin, the suspect queue, the context that yields, and the counts. -/
theorem routineEndBooked : Obligations.RoutineEndBooked := by
  refine ⟨fun s e => ?_, fun s e => ?_, fun s l p why => ?_, State.yieldContext_eq, fun s e hu hs hp => ?_⟩
  · intro has cls mine u
    have hcls : routineClass e.results e.outcome = cls := routineClass_eq _ _
    refine ⟨?_, fun m hm => ?_, State.bookEnd_foreign, fun h hy => ?_, fun h hy ho hd hr hn => ?_, fun h hy ho => ?_⟩
    · rw [State.bookEnd_line, if_pos rfl, hcls]
    · rw [State.bookEnd_line, if_neg hm]
    · obtain ⟨htested, hfail, hpass⟩ := s.sweep.counts.addTested_counts cls
      rw [State.bookEnd_tested h hy, hcls]
      exact ⟨htested, hfail, hpass, rfl⟩
    · rw [State.bookEnd_deferred h hy (.inl ho) hd ((State.canRevisit_iff _).2 ⟨hr, fun ⟨r, hm, hl⟩ => hn r hm hl⟩)]
      exact ⟨rfl, rfl⟩
    · rw [State.bookEnd_missed h hy (.inl ho)]
      exact ⟨rfl, rfl⟩
  · intro u booked
    refine ⟨fun ho => ⟨fun h => ?_, fun before r after hrs hr hb => ?_⟩, fun i ho => ⟨fun h => ?_,
      fun before r after hrs hr hb => ⟨fun hv => ?_, fun hv => ?_⟩⟩, fun ho => ⟨fun h => ?_, fun h => ?_⟩, fun ho => ?_⟩
    · exact State.routineEnded_of_actions (State.originActions_unmarked ho h)
    · exact State.routineEnded_of_actions (State.originActions_marginal ho
        (hrs ▸ find?_first (by simpa using hr) (by simpa using hb)))
    · exact State.routineEnded_of_actions (State.originActions_stepMissing ho h)
    · exact State.routineEnded_of_actions (State.originActions_again ho
        (hrs ▸ find?_first (by simpa using hr) (by simpa using hb)) hv)
    · exact State.routineEnded_of_actions (State.originActions_notAgain ho
        (hrs ▸ find?_first (by simpa using hr) (by simpa using hb)) hv)
    · exact State.routineEnded_of_actions ((State.originActions_flap ho).trans (if_pos h))
    · exact State.routineEnded_of_actions ((State.originActions_flap ho).trans (if_neg h))
    · exact State.routineEnded_of_actions (State.originActions_desk ho)
  · intro held
    refine ⟨fun h => State.offerSuspect_refused ?_, fun ht h hr => State.offerSuspect_full (State.suspectFate_full ht h hr),
      fun ht h hr => State.offerSuspect_joined (State.suspectFate_joined ht h hr)⟩
    by_cases ht : s.sweep.state ∈ [SweepState.stopped, .draining]
    · exact .inl (State.suspectFate_dropped ht)
    · exact .inr (State.suspectFate_present ht (h.resolve_left ht))
  · intro has c tested u held classed
    have h : s.belongs e.pass e.startedInPass = true := (State.belongs_iff hu _ _).2 ⟨hs, hp⟩
    refine ⟨fun hy => ?_, fun hy ho => ⟨fun hd hr hn => ?_, fun hr => ?_⟩, fun hy ho => State.bookEnd_missed h hy (.inl ho)⟩
    · rw [State.bookEnd_tested h hy, Counts.addTested_routineClass]
    · exact State.bookEnd_deferred h hy ho hd ((State.canRevisit_iff _).2 ⟨hr, hn⟩)
    · refine State.bookEnd_missed h hy (.inr ⟨ho, hr.imp_right fun hr => ?_⟩)
      exact eq_false_of_iff (State.canRevisit_iff _) fun ⟨hlt, hno⟩ => hr.elim (Nat.not_le.2 hlt) hno

end Sys2Proof.Machine

namespace Sys2Proof.Machine

/-! ## O55: SWEEP_LOAD, SWEEP_MARK and SUSPECT (R149, R157, R163) -/

/-! ### The ranges of SWEEP_LOAD -/

/-- The range is one the sweep list takes (R149). -/
abbrev SweepRange.Fits (r : SweepRange) : Prop := r.first ≤ r.last ∧ r.last < 4096 ∧ r.plan ≤ 15

/-- What the desk sends for a number of two bytes is read as that number. -/
theorem pair_byte2 {n : Nat} (h : n < 65536) : pair (BitVec.ofNat 8 (n / 256)) (BitVec.ofNat 8 n) = n := by
  simp only [pair, BitVec.toNat_ofNat]
  omega

/-- Ranges as the desk sends them are read, if the sweep list takes each of them. -/
theorem readRanges_bytes {rs : List SweepRange} (hrs : ∀ r ∈ rs, r.first < 65536 ∧ r.last < 65536 ∧ r.plan < 256)
    (extra : Bytes) : readRanges rs.length (rs.flatMap SweepRange.bytes ++ extra) =
      if ∀ r ∈ rs, r.Fits then some rs else none := by
  induction rs with
  | nil => rfl
  | cons r rs ih =>
    obtain ⟨⟨hfirst, hlast, hplan⟩, htail⟩ := List.forall_mem_cons.1 hrs
    have hread : (BitVec.ofNat 8 r.plan).toNat = r.plan := by rw [BitVec.toNat_ofNat, Nat.mod_eq_of_lt hplan]
    simp only [List.flatMap_cons, SweepRange.bytes, byte2, List.cons_append, List.nil_append, List.length_cons, readRanges]
      at ih ⊢
    rw [pair_byte2 hfirst, pair_byte2 hlast, hread, ih htail]
    by_cases hr : r.Fits
    · refine (if_pos hr).trans ?_
      have hall : (∀ r' ∈ r :: rs, r'.Fits) ↔ ∀ r' ∈ rs, r'.Fits := List.forall_mem_cons.trans (and_iff_right hr)
      simp only [hall]
      split <;> rfl
    · exact (if_neg hr).trans (if_neg fun hall => hr (List.forall_mem_cons.1 hall).1).symm

theorem readRanges_short {n : Nat} {ps : Bytes} (h : ps.length < 5 * n) : readRanges n ps = none := by
  induction n, ps using readRanges.induct with
  | case1 => omega
  | case2 count a b c d p rest hfits ih =>
    rw [readRanges, if_pos hfits, ih (by simp only [List.length_cons] at h; omega)]
    rfl
  | case3 count a b c d p rest hfits => rw [readRanges, if_neg hfits]
  | case4 count ps hps =>
    rw [readRanges]
    exact hps

section SweepLoad

variable {s : State} {tag n : Byte} {ps : Bytes} {rest : List Bytes} (hr : s.Ready .sweepLoad tag (n :: ps) rest)
include hr

theorem exec_sweepLoad_beyond (h : 32 < n.toNat) : exec .sweepLoad s = .next (s.answered rest tag .badParam []) := by
  rw [exec_deskHandler_ready rfl hr, ← State.taking_respond hr.normal]
  exact congrArg _ (if_pos h)

theorem exec_sweepLoad_unread (h : readRanges n.toNat ps = none) :
    exec .sweepLoad s = .next (s.answered rest tag .badParam []) := by
  by_cases hn : 32 < n.toNat
  · exact exec_sweepLoad_beyond hr hn
  · rw [exec_deskHandler_ready rfl hr, ← State.taking_respond hr.normal]
    simp only [deskHandler, State.doSweepLoad, if_neg hn, h, State.badParam]

theorem exec_sweepLoad_stored (hn : n.toNat ≤ 32) {rs : List SweepRange} (h : readRanges n.toNat ps = some rs) :
    exec .sweepLoad s = .next (({ s with sweep.ranges := rs } : State).answered rest tag .ok (byte1 n.toNat)) := by
  rw [exec_deskHandler_ready rfl hr, ← State.taking_respond (s := { s with sweep.ranges := rs }) hr.normal]
  simp only [deskHandler, State.doSweepLoad, if_neg (Nat.not_lt.2 hn), h]
  rfl

end SweepLoad

/-! ### SWEEP_MARK -/

section SweepMark

variable {s : State} {tag r a b : Byte} {extra : Bytes} {rest : List Bytes}
  (hr : s.Ready .sweepMark tag (r :: a :: b :: extra) rest)
include hr

theorem exec_sweepMark_cleared (h : r.toNat = 255) :
    exec .sweepMark s = .next (({ s with sweep.mark := none } : State).answered rest tag .ok []) := by
  rw [exec_deskHandler_ready rfl hr, ← State.taking_respond (s := { s with sweep.mark := none }) hr.normal]
  exact congrArg _ (if_pos h)

variable (h : r.toNat ≠ 255)
include h

theorem exec_sweepMark_bad (hbad : 31 < r.toNat ∨ 4096 ≤ pair a b) :
    exec .sweepMark s = .next (s.answered rest tag .badParam []) := by
  rw [exec_deskHandler_ready rfl hr, ← State.taking_respond hr.normal]
  exact congrArg _ ((if_neg h).trans (if_pos hbad))

theorem exec_sweepMark_set (hgood : ¬ (31 < r.toNat ∨ 4096 ≤ pair a b)) : exec .sweepMark s =
    .next (({ s with sweep.mark := some (r.toNat, pair a b) } : State).answered rest tag .ok []) := by
  rw [exec_deskHandler_ready rfl hr,
    ← State.taking_respond (s := { s with sweep.mark := some (r.toNat, pair a b) }) hr.normal]
  exact congrArg _ ((if_neg h).trans (if_neg hgood))

end SweepMark

/-! ### SUSPECT -/

/-- The code of SUSPECT's answer, by what has become of the line it offers (R157). -/
def SuspectFate.result : SuspectFate → Result
  | .dropped | .full => .busy
  | .present => .inUse
  | .joined _ => .ok

/-- SUSPECT answers the position of a line that has joined the queue (log entry 42: one byte). -/
def SuspectFate.body : SuspectFate → Bytes
  | .joined position => byte1 position
  | _ => []

section Suspect

variable {s : State} {tag a b p : Byte} {extra : Bytes} {rest : List Bytes}
  (hr : s.Ready .suspect tag (a :: b :: p :: extra) rest)
include hr

theorem exec_suspect_bad (h : 4096 ≤ pair a b ∨ 15 < p.toNat) :
    exec .suspect s = .next (s.answered rest tag .badParam []) := by
  rw [exec_deskHandler_ready rfl hr, ← State.taking_respond hr.normal]
  exact congrArg _ (if_pos h)

variable (hl : pair a b < 4096) (hp : p.toNat ≤ 15)
include hl hp

/-- SUSPECT offers its line to the queue, settles the act, and answers what has become of the offer. -/
theorem exec_suspect : exec .suspect s =
    .next (((s.taking rest).offerSuspect (pair a b) p.toNat .desk).settle.respond tag
      (s.suspectFate (pair a b)).result (s.suspectFate (pair a b)).body) := by
  have hsame : (s.taking rest).suspectFate (pair a b) = s.suspectFate (pair a b) := rfl
  rw [exec_deskHandler_ready rfl hr]
  simp only [deskHandler, State.doSuspect]
  rw [if_neg fun h => h.elim (Nat.not_le.2 hl) (Nat.not_lt.2 hp), hsame]
  cases s.suspectFate (pair a b) <;> rfl

theorem exec_suspect_dropped (ht : s.sweep.state ∈ [SweepState.stopped, .draining]) :
    exec .suspect s = .next ((s.taking rest).settle.respond tag .busy []) := by
  have hfate := State.suspectFate_dropped (l := pair a b) ht
  rw [exec_suspect hr hl hp, hfate, State.offerSuspect_refused (s := s.taking rest) (.inl hfate)]
  rfl

variable (ht : s.sweep.state ∉ [SweepState.stopped, .draining])
include ht

theorem exec_suspect_present (h : s.Suspected (pair a b)) :
    exec .suspect s = .next ((s.taking rest).settle.respond tag .inUse []) := by
  have hfate := State.suspectFate_present ht h
  rw [exec_suspect hr hl hp, hfate, State.offerSuspect_refused (s := s.taking rest) (.inr hfate)]
  rfl

variable (h : ¬ s.Suspected (pair a b))
include h

theorem exec_suspect_full (hlen : 16 ≤ s.sweep.suspects.length) :
    exec .suspect s = .next (({ s.taking rest with sweep := { s.sweep with counts :=
      if s.sweep.underWay then { s.sweep.counts with dropped := min 65535 (s.sweep.counts.dropped + 1) }
      else s.sweep.counts } } : State).settle.respond tag .busy []) := by
  have hfate := State.suspectFate_full ht h hlen
  rw [exec_suspect hr hl hp, hfate, State.offerSuspect_full (s := s.taking rest) hfate]
  rfl

theorem exec_suspect_joined (hlen : s.sweep.suspects.length < 16) :
    exec .suspect s = .next (({ s.taking rest with sweep := { s.sweep with
      suspects := s.sweep.suspects ++ [⟨pair a b, p.toNat, .desk, false⟩], attemptDue := true } } : State).settle.respond
        tag .ok (byte1 (s.sweep.suspects.length + 1))) := by
  have hfate := State.suspectFate_joined ht h hlen
  rw [exec_suspect hr hl hp, hfate, State.offerSuspect_joined (s := s.taking rest) hfate]
  rfl

end Suspect

/-- A drain goes on while a channel holds a routine test (R153). -/
theorem State.settle_draining {s : State} (hd : s.sweep.state = .draining) (ha : s.sweep.attemptDue = false)
    {h : Nat} {t : TestRec} (hh : h < 4) (ht : (s.chan h).test = some t) (hr : t.priority = .routine) : s.settle = s :=
  State.settleWith_settled (fun hq => hq.2 h hh t ht hr) (State.passDone_of_state (by simp [hd])) ha

/-- Settles O55: the ranges of SWEEP_LOAD as they are read, SWEEP_MARK by its range, SUSPECT by the fate of its offer. -/
theorem sweepListMarkAndSuspects : Obligations.SweepListMarkAndSuspects := by
  refine ⟨fun s tag n rs ps extra rest => ⟨fun hr hn => exec_sweepLoad_beyond hr hn, fun hr hlen hn hrs => ?_⟩,
    fun s tag r a b extra rest hr => ⟨exec_sweepMark_cleared hr, fun h31 hoff => ?_, fun h255 => exec_sweepMark_bad hr h255⟩,
    fun s tag a b p extra rest => ?_, fun s tag a b p extra rest => ?_,
    fun s tag n ps rest h hr => exec_sweepLoad_unread hr (readRanges_short h)⟩
  · have hread := readRanges_bytes hrs extra
    rw [hlen] at hread
    refine ⟨fun hall => exec_sweepLoad_stored hr hn (hread.trans (if_pos hall)), fun ⟨r, hm, hbad⟩ =>
      exec_sweepLoad_unread hr (hread.trans (if_neg fun hall => hbad (hall r hm)))⟩
  · exact exec_sweepMark_set hr (by omega) fun h => h.elim (Nat.not_lt.2 h31) (Nat.not_le.2 hoff)
  · intro l held hr
    refine ⟨exec_suspect_bad hr, fun hl hp => ⟨fun hs ha => ?_, exec_suspect_present hr hl hp, exec_suspect_full hr hl hp,
      exec_suspect_joined hr hl hp⟩⟩
    have hsettled : (s.taking rest).settle = s.taking rest :=
      State.settle_idle (s := s.taking rest) (by simp [hs]) (by simpa using ha) _ _
    rw [exec_suspect_dropped hr hl hp (by simp [hs]), hsettled, State.taking_respond hr.normal]
  · intro l hr hl hp
    refine ⟨exec_suspect_dropped hr hl hp, fun h t hs ha hh ht hroutine => ?_⟩
    have hsettled : (s.taking rest).settle = s.taking rest :=
      State.settle_draining (by simpa using hs) (by simpa using ha) hh (by simpa using ht) hroutine
    rw [exec_suspect_dropped hr hl hp (by simp [hs]), hsettled, State.taking_respond hr.normal]

end Sys2Proof.Machine

end RoutineSweeps


/-! PROOFS of the family of fault tickets: the soundness of the Ticket Table, raises and clear requests with their notices, and
the commands of the desk upon its entries.

Elaborated one after another, as the sections before. -/

section FaultTickets
set_option Elab.async false

namespace Sys2Proof.Machine

/-! ## O39: the Ticket Table stays sound (R166) -/

theorem durable_ticketsSound : Durable (fun _ => True) State.TicketsSound where
  known _ := trivial
  loaded _ _ := trivial
  running _ _ _ _ := trivial
  suspended _ _ _ _ _ := trivial
  frame hs hl ht _ _ _ := hs.frame (hl ▸ hs.lines) ht fun l => by rw [State.line_congr hl]
  line hs hr := hs.setLine hr.count
  chan hs _ := hs.frame hs.lines rfl fun _ => rfl
  sweep hs _ := hs.frame hs.lines rfl fun _ => rfl
  step hs _ := hs.frame hs.lines rfl fun _ => rfl
  raise hs _ := hs.raise
  tripped hs := hs.unhazard.raise
  put hs := hs.put
  close hs := hs.close
  unhazard hs _ := hs.unhazard
  boundary hs := hs.boundary
  released _ := ticketsSound_cold rfl rfl
  reset _ := ticketsSound_cold rfl rfl

/-- Settles O39: a raise, a rewritten entry and a close keep the table sound, and no other write touches an entry or a count. -/
theorem stepsKeepTicketsSound : Obligations.StepsKeepTicketsSound := fun _ _ => durable_ticketsSound.step_next

end Sys2Proof.Machine

namespace Sys2Proof.Machine

/-! ## One entry among others -/

section Among

variable {s : State} {before after : List Ticket} {t : Ticket} {n : Nat} (hs : s.tickets.entries = before ++ t :: after)
  (hnum : t.number = n) (hother : ∀ x ∈ before ++ after, x.number ≠ n)
include hs hnum hother

theorem State.putTicket_among (t' : Ticket) :
    s.putTicket t.number t' = { s with tickets.entries := before ++ t' :: after } := by
  rw [State.putTicket, hs, ticket_replaced (hnum ▸ hother)]

theorem State.ticketNumbered_among : s.ticketNumbered n = some t := by
  rw [State.ticketNumbered, hs, List.find?_append,
    List.find?_eq_none.2 fun x hx => by simpa using hother x (List.mem_append_left _ hx)]
  simp [hnum]

theorem State.others_among : (s.tickets.entries.filter fun u => u.number != t.number) = before ++ after := by
  have hrest : (before ++ after).filter (fun u => u.number != t.number) = before ++ after :=
    List.filter_eq_self.2 fun x hx => by simpa [hnum] using hother x hx
  rw [← hrest, hs]
  simp

end Among

theorem State.ticketNumbered_none {s : State} {n : Nat} (h : ∀ t ∈ s.tickets.entries, t.number ≠ n) :
    s.ticketNumbered n = none := List.find?_eq_none.2 fun t ht => by simpa using h t ht

theorem ticket_eq_of_number {L : List Ticket} (hd : L.Pairwise fun t u => t.number ≠ u.number) {t u : Ticket} (ht : t ∈ L)
    (hu : u ∈ L) (h : t.number = u.number) : t = u := List.inj_on_of_nodup_map (List.pairwise_map.2 hd) ht hu h

theorem State.ticketNumbered_of_mem {s : State} {t : Ticket}
    (hd : s.tickets.entries.Pairwise fun t u => t.number ≠ u.number) (ht : t ∈ s.tickets.entries) :
    s.ticketNumbered t.number = some t := by
  cases hf : s.ticketNumbered t.number with
  | none => exact absurd (beq_self_eq_true t.number) (List.find?_eq_none.1 hf t ht)
  | some u =>
    have hnum : u.number = t.number := by simpa using List.find?_some hf
    exact congrArg some (ticket_eq_of_number hd (List.mem_of_find?_eq_some hf) ht hnum)

theorem State.taking_ticketNumbered (s : State) (rest : List Bytes) (n : Nat) :
    (s.taking rest).ticketNumbered n = s.ticketNumbered n := rfl

/-- A fold that picks one of two at each turn, the one before the other, picks one before all. -/
theorem foldl_picks_least {α : Type} {R : α → α → Prop} (htrans : ∀ {a b c}, R a b → R b c → R a c) {f : α → α → α}
    (hpick : ∀ a b, f a b = a ∨ f a b = b) (hleft : ∀ a b, R (f a b) a) (hright : ∀ a b, R (f a b) b) (L : List α)
    (a : α) : L.foldl f a ∈ a :: L ∧ ∀ y ∈ a :: L, R (L.foldl f a) y := by
  induction L generalizing a with
  | nil =>
    have hself : f a a = a := (hpick a a).elim id id
    exact ⟨List.mem_singleton_self a, fun y hy => by rw [List.mem_singleton.1 hy]; simpa [hself] using hleft a a⟩
  | cons b L ih =>
    obtain ⟨hmem, hleast⟩ := ih (f a b)
    obtain ⟨hpicked, hbelow⟩ := List.forall_mem_cons.1 hleast
    refine ⟨?_, List.forall_mem_cons.2 ⟨htrans hpicked (hleft a b),
      List.forall_mem_cons.2 ⟨htrans hpicked (hright a b), hbelow⟩⟩⟩
    rcases List.mem_cons.1 hmem with he | he
    · rw [List.foldl_cons, he]
      rcases hpick a b with h | h <;> simp [h]
    · exact List.mem_cons_of_mem _ (List.mem_cons_of_mem _ he)

end Sys2Proof.Machine

namespace Sys2Proof.Machine

/-! ## O36: raises and clear requests (R166 to R173) -/

/-! ### The entry that gives up its place (R170, log entry 41) -/

/-- `x` makes room before `y`: it was seen longer ago, or at the same minute and has no greater number. -/
def Ticket.GoesBefore (x y : Ticket) : Prop :=
  x.lastSeen.toNat < y.lastSeen.toNat ∨ (x.lastSeen = y.lastSeen ∧ x.number ≤ y.number)

theorem Ticket.GoesBefore.trans {x y z : Ticket} (hxy : x.GoesBefore y) (hyz : y.GoesBefore z) : x.GoesBefore z := by
  unfold Ticket.GoesBefore at *
  bv_omega

theorem Ticket.GoesBefore.number_eq {x y : Ticket} (hxy : x.GoesBefore y) (hyx : y.GoesBefore x) : x.number = y.number := by
  unfold Ticket.GoesBefore at *
  bv_omega

theorem Ticket.older_goesBefore (x y : Ticket) : (x.older y).GoesBefore x ∧ (x.older y).GoesBefore y := by
  unfold Ticket.older Ticket.GoesBefore
  simp only [← BitVec.toNat_inj]
  split <;> omega

/-- The entry of some entries that goes before them all, and that no other shares its number with, is the oldest of them. -/
theorem oldestTicket_eq_some {L : List Ticket} {x : Ticket} (hx : x ∈ L) (hfirst : ∀ y ∈ L, x.GoesBefore y)
    (halone : ∀ y ∈ L, y.number = x.number → y = x) : oldestTicket L = some x := by
  cases L with
  | nil => exact nomatch hx
  | cons t L =>
    have hpick : ∀ a b : Ticket, a.older b = a ∨ a.older b = b := fun a b => by unfold Ticket.older; split <;> simp
    obtain ⟨hmem, hbefore⟩ := foldl_picks_least (R := Ticket.GoesBefore) Ticket.GoesBefore.trans hpick
      (fun a b => (a.older_goesBefore b).1) (fun a b => (a.older_goesBefore b).2) L t
    exact congrArg some (halone _ hmem ((hbefore x hx).number_eq (hfirst _ hmem)))

/-- `x` is the entry of those with property `p` that gives up its place (R170). -/
def State.GivesPlace (s : State) (p : Ticket → Prop) (x : Ticket) : Prop :=
  x ∈ s.tickets.entries ∧ p x ∧ ∀ y ∈ s.tickets.entries, p y → x.GoesBefore y

theorem State.GivesPlace.oldest {s : State} {p : Ticket → Prop} {x : Ticket} (hg : s.GivesPlace p x)
    (halone : ∀ y ∈ s.tickets.entries, y.number = x.number → y = x) {q : Ticket → Bool} (hq : ∀ y, q y = true ↔ p y) :
    oldestTicket (s.tickets.entries.filter q) = some x := by
  obtain ⟨hx, hp, hfirst⟩ := hg
  refine oldestTicket_eq_some (List.mem_filter.2 ⟨hx, (hq x).2 hp⟩) (fun y hy => ?_) fun y hy => ?_
  · exact hfirst y (List.mem_of_mem_filter hy) ((hq y).1 (List.of_mem_filter hy))
  · exact halone y (List.mem_of_mem_filter hy)

/-- A CONFIRMED entry of no safety class (R170). -/
abbrev Ticket.Plain (t : Ticket) : Prop := t.state = .confirmed ∧ t.cls ≠ .foreignVoltage ∧ t.cls ≠ .relayStuck

theorem FaultClass.safety_iff (c : FaultClass) : c.safety = true ↔ c = .foreignVoltage ∨ c = .relayStuck := by
  cases c <;> simp [FaultClass.safety]

theorem Ticket.plain_iff (t : Ticket) : (t.state == .confirmed && !t.cls.safety) = true ↔ t.Plain := by
  simp [Ticket.Plain, ← Bool.not_eq_true, FaultClass.safety_iff]

section Evictee

variable {s : State} {c : FaultClass}

theorem State.evictee_cleared {x : Ticket} (hg : s.GivesPlace (fun y => y.state = .cleared) x)
    (halone : ∀ y ∈ s.tickets.entries, y.number = x.number → y = x) : s.evictee c = some x := by
  rw [State.evictee, hg.oldest halone fun y => beq_iff_eq]

variable (hno : ∀ x ∈ s.tickets.entries, x.state ≠ .cleared)
include hno

/-- With no CLEARED entry, what is evicted depends on the class raised. -/
theorem State.evictee_no_cleared : s.evictee c = if c.safety then
    oldestTicket (s.tickets.entries.filter fun t => t.state == .confirmed && !t.cls.safety) else none := by
  have hnil : (s.tickets.entries.filter fun t => t.state == .cleared) = [] :=
    List.filter_eq_nil_iff.2 fun x hx => by simpa using hno x hx
  rw [State.evictee, hnil, oldestTicket]

theorem State.evictee_plain (hc : c = .foreignVoltage ∨ c = .relayStuck) {x : Ticket} (hg : s.GivesPlace Ticket.Plain x)
    (halone : ∀ y ∈ s.tickets.entries, y.number = x.number → y = x) : s.evictee c = some x := by
  rw [State.evictee_no_cleared hno, if_pos (c.safety_iff.2 hc), hg.oldest halone Ticket.plain_iff]

theorem State.evictee_none
    (h : (c ≠ .foreignVoltage ∧ c ≠ .relayStuck) ∨ ∀ x ∈ s.tickets.entries, ¬ x.Plain) : s.evictee c = none := by
  rw [State.evictee_no_cleared hno]
  split
  · next hc =>
    have hplain := h.resolve_left fun hne => (c.safety_iff.1 hc).elim hne.1 hne.2
    rw [List.filter_eq_nil_iff.2 fun x hx => mt x.plain_iff.1 (hplain x hx), oldestTicket]
  · rfl

end Evictee

/-! ### The number of a new entry (R169) -/

/-- Of the 257 numbers from `n` up, 256 entries leave one free. -/
theorem exists_unheld {L : List Ticket} (hl : L.length ≤ 256) {n : Nat} (hn : 1 ≤ n ∧ n ≤ 65535) :
    ∃ j < 257, ∀ t ∈ L, t.number ≠ nextTicketNumber^[j] n := by
  have hinj : Set.InjOn (fun j => nextTicketNumber^[j] n) (Finset.range 257) := by
    intro i hi j hj hij
    simp only [Finset.coe_range, Set.mem_Iio] at hi hj
    simp only [iterate_nextTicketNumber hn] at hij
    omega
  have hcard : (L.map Ticket.number).toFinset.card < ((Finset.range 257).image fun j => nextTicketNumber^[j] n).card := by
    rw [Finset.card_image_of_injOn hinj, Finset.card_range]
    have hle := List.toFinset_card_le (L.map Ticket.number)
    rw [List.length_map] at hle
    omega
  obtain ⟨m, hm, hfree⟩ := Finset.exists_mem_notMem_of_card_lt_card hcard
  obtain ⟨j, hj, rfl⟩ := Finset.mem_image.1 hm
  exact ⟨j, Finset.mem_range.1 hj, fun t ht he => hfree (List.mem_toFinset.2 (List.mem_map.2 ⟨t, ht, he⟩))⟩

/-- The number found is the first that no entry holds, if it is among those tried. -/
theorem freeNumber_first {L : List Ticket} {j k n : Nat} (hj : j ≤ k) (hfree : ∀ t ∈ L, t.number ≠ nextTicketNumber^[j] n)
    (hheld : ∀ i < j, ∃ t ∈ L, t.number = nextTicketNumber^[i] n) : freeNumber L k n = nextTicketNumber^[j] n := by
  induction k generalizing j n with
  | zero =>
    obtain rfl : j = 0 := Nat.le_zero.1 hj
    rfl
  | succ k ih =>
    cases j with
    | zero =>
      have hnone : ¬ (L.any fun t => t.number == n) = true := by simpa using hfree
      rw [freeNumber, if_neg hnone]
      rfl
    | succ j =>
      have hsome : (L.any fun t => t.number == n) = true := by simpa using hheld 0 (Nat.succ_pos j)
      rw [freeNumber, if_pos hsome]
      exact ih (Nat.le_of_succ_le_succ hj) hfree fun i hi => hheld (i + 1) (Nat.succ_lt_succ hi)

theorem freeNumber_spec {L : List Ticket} (hl : L.length ≤ 256) {n : Nat} (hn : 1 ≤ n ∧ n ≤ 65535) :
    ∃ j < 257, freeNumber L 257 n = nextTicketNumber^[j] n ∧ (∀ t ∈ L, t.number ≠ freeNumber L 257 n) ∧
      ∀ i < j, ∃ t ∈ L, t.number = nextTicketNumber^[i] n := by
  have hex := exists_unheld hl hn
  obtain ⟨hj, hfree⟩ := Nat.find_spec hex
  have hheld : ∀ i < Nat.find hex, ∃ t ∈ L, t.number = nextTicketNumber^[i] n := fun i hi => by
    simpa [hi.trans hj] using Nat.find_min hex hi
  have heq := freeNumber_first hj.le hfree hheld
  exact ⟨Nat.find hex, hj, heq, heq ▸ hfree, hheld⟩

/-! ### The cases of a raise (R168 to R171) -/

section Found

variable {s : State} {k : SubjectKind} {n : Nat} {c : FaultClass} {before after : List Ticket} {t : Ticket}
  (hs : s.tickets.entries = before ++ t :: after) (hk : t.kind = k) (hn : t.subject = n) (hc : t.cls = c)
  (hfirst : ∀ x ∈ before, ¬ (x.kind = k ∧ x.subject = n ∧ x.cls = c))
include hs hk hn hc hfirst

/-- A raise that finds its entry changes that entry in its place, and tells of it (R168). -/
theorem State.raise_found (hother : ∀ x ∈ before ++ after, x.number ≠ t.number) (e : Option Evidence) : s.raise k n c e =
    ({ s with tickets.entries := before ++ t.again s.minute e :: after } : State).ticketNotice
      (if t.state = .cleared then .reopened else .updated) (t.again s.minute e) := by
  rw [State.raise, State.findTicket_some hs hk hn hc hfirst, ← State.putTicket_among hs rfl hother]
  rfl

theorem State.clearTicket_cleared (ht : t.state = .cleared) : s.clearTicket k n c = s := by
  rw [State.clearTicket, State.findTicket_some hs hk hn hc hfirst]
  exact if_pos ht

theorem State.clearTicket_clears (ht : t.state ≠ .cleared) (hother : ∀ x ∈ before ++ after, x.number ≠ t.number) :
    s.clearTicket k n c = ({ s with tickets.entries := before ++ { t with state := .cleared } :: after } : State).ticketNotice
      .cleared { t with state := .cleared } := by
  rw [State.clearTicket, State.findTicket_some hs hk hn hc hfirst, ← State.putTicket_among hs rfl hother]
  exact if_neg ht

end Found

section New

variable {s : State} {k : SubjectKind} {n : Nat} {c : FaultClass}
  (hno : ∀ x ∈ s.tickets.entries, ¬ (x.kind = k ∧ x.subject = n ∧ x.cls = c))
include hno

theorem State.clearTicket_none : s.clearTicket k n c = s := by
  rw [State.clearTicket, State.findTicket_none hno]

variable (e : Option Evidence)

theorem State.raise_with_room (h : s.tickets.entries.length < 256) : s.raise k n c e = s.createTicket k n c e := by
  rw [State.raise, State.findTicket_none hno]
  exact if_pos h

variable (h : 256 ≤ s.tickets.entries.length)
include h

theorem State.raise_evicts {x : Ticket} (hx : s.evictee c = some x) :
    s.raise k n c e = ((s.removeTicket x).ticketNotice .evicted x).createTicket k n c e := by
  rw [State.raise, State.findTicket_none hno, hx]
  exact if_neg (Nat.not_lt.2 h)

theorem State.raise_lost (hx : s.evictee c = none) : s.raise k n c e = s.loseRaise k n c := by
  rw [State.raise, State.findTicket_none hno, hx]
  exact if_neg (Nat.not_lt.2 h)

theorem State.raise_evicts_tickets {x : Ticket} (hx : s.evictee c = some x) : (s.raise k n c e).tickets =
    let left := s.tickets.entries.filter fun y => y.number != x.number
    let m := freeNumber left 257 s.tickets.nextNumber
    ⟨left ++ [⟨m, k, n, c, .opened, s.minute, s.minute, 1, 0, e, []⟩], nextTicketNumber m, s.tickets.overflow, true⟩ := by
  simp [State.raise_evicts hno e h hx, State.newNumber]

end New

theorem State.loseRaise_tickets (s : State) (k : SubjectKind) (n : Nat) (c : FaultClass) : (s.loseRaise k n c).tickets =
    { s.tickets with overflow := min 65535 (s.tickets.overflow + 1), armed := false } := by
  unfold State.loseRaise
  cases ha : s.tickets.armed <;> simp [satAdd, ha]

/-! ### An entry comes or goes, and a line's open-ticket count with it (R17, R166) -/

theorem State.createTicket_eq {s : State} {minute : BitVec 32} (hm : s.minute = minute) (k : SubjectKind) (n : Nat)
    (c : FaultClass) (e : Option Evidence) : s.createTicket k n c e =
      let t : Ticket := ⟨s.newNumber, k, n, c, .opened, minute, minute, 1, 0, e, []⟩
      let u : State := ({ s with
        tickets.entries := s.tickets.entries ++ [t]
        tickets.nextNumber := nextTicketNumber s.newNumber } : State).ticketNotice .created t
      if k = .line then u.setLine n { u.line n with ticketCount := (u.line n).ticketCount + 1 } else u := by
  subst hm
  cases k <;> rfl

theorem State.removeTicket_eq (s : State) (t : Ticket) : s.removeTicket t =
    let u : State := { s with
      tickets.entries := s.tickets.entries.filter fun v => v.number != t.number
      tickets.armed := true }
    if t.kind = .line then u.setLine t.subject { u.line t.subject with ticketCount := (u.line t.subject).ticketCount - 1 }
    else u := by
  unfold State.removeTicket
  cases t.kind <;> rfl

/-- Settles O36: the cases of a raise and of a clear request, the number of a new entry, and the bytes of an entry. -/
theorem ticketRaisedAndNumbered : Obligations.TicketRaisedAndNumbered := by
  refine ⟨fun s k n c ev => ⟨?found, fun hno => ⟨?room, ?cleared, ?plain, ?lost⟩⟩, ?number, fun s k n c => ?clear,
    fun s k n c ev => ⟨?foundNotice, fun hno => ⟨?roomNotice, ?evictNotice, ?lostNotice⟩⟩, ?bytes, ?codes⟩
  case found =>
    intro before t after hs hk hn hc hfirst hother
    rw [State.raise_found hs hk hn hc hfirst hother]
    simp only [State.ticketNotice_keeps]
    rfl
  case room =>
    intro h
    rw [State.raise_with_room hno ev h, State.createTicket_tickets]
    exact ⟨⟨rfl, rfl, rfl⟩, rfl⟩
  case cleared =>
    intro h x hx halone
    rw [State.raise_evicts_tickets hno ev h (State.evictee_cleared hx halone)]
    exact ⟨⟨rfl, rfl, rfl⟩, rfl⟩
  case plain =>
    intro h hnc hc x hx halone
    rw [State.raise_evicts_tickets hno ev h (State.evictee_plain hnc hc hx halone)]
    exact ⟨⟨rfl, rfl, rfl⟩, rfl⟩
  case lost =>
    intro h hnc hplain
    rw [State.raise_lost hno ev h (State.evictee_none hnc hplain)]
    exact ⟨s.loseRaise_tickets k n c, by simp⟩
  case number =>
    intro L next hl h1 h2
    obtain ⟨j, hj, heq, hfree, hheld⟩ := freeNumber_spec hl ⟨h1, h2⟩
    exact ⟨j, hj, heq.trans (iterate_nextTicketNumber ⟨h1, h2⟩ j), hfree, fun i hi => by
      simpa only [iterate_nextTicketNumber ⟨h1, h2⟩] using hheld i hi⟩
  case clear =>
    exact ⟨State.clearTicket_none, fun before t after hs hk hn hc hfirst =>
      ⟨State.clearTicket_cleared hs hk hn hc hfirst, State.clearTicket_clears hs hk hn hc hfirst⟩⟩
  case foundNotice =>
    intro before t after hs hk hn hc hfirst hother
    have hcode : (if t.state = .cleared then TicketEvent.reopened else .updated).code =
        if t.state = .cleared then 3 else 2 := by split <;> rfl
    rw [State.raise_found hs hk hn hc hfirst hother, State.ticketNotice, hcode]
    rfl
  case roomNotice =>
    intro h
    rw [State.raise_with_room hno ev h, State.createTicket_eq rfl]
    rfl
  case evictNotice =>
    intro h x hx
    have hminute : ((s.removeTicket x).ticketNotice .evicted x).minute = s.minute := by simp
    rw [State.raise_evicts hno ev h hx, State.createTicket_eq hminute, State.removeTicket_eq]
    rfl
  case lostNotice =>
    intro h hx
    rw [State.raise_lost hno ev h hx]
    exact ⟨fun ha => if_pos ha, fun ha => if_neg (by simp [ha])⟩
  case bytes =>
    intro t
    rw [Ticket.bytes]
    rcases t.evidence with _ | ⟨_ | line, _ | measured⟩ <;> rfl
  case codes => exact ⟨rfl, rfl, rfl⟩

end Sys2Proof.Machine

namespace Sys2Proof.Machine

/-! ## O57: TICKET_ACK (R174) -/

section TicketAck

variable {s : State} {tag a b : Byte} {extra : Bytes} {rest : List Bytes}
  (hr : s.Ready .ticketAck tag (a :: b :: extra) rest)
include hr

theorem exec_ticketAck_missing (h : s.ticketNumbered (pair a b) = none) :
    exec .ticketAck s = .next (s.answered rest tag .notFound []) := by
  rw [exec_deskHandler_ready rfl hr, ← State.taking_respond hr.normal]
  simp only [deskHandler, State.doTicketAck, State.taking_ticketNumbered, h, State.ticketMissing]

variable {t : Ticket} (h : s.ticketNumbered (pair a b) = some t)
include h

theorem exec_ticketAck_opened (ht : t.state = .opened) : exec .ticketAck s =
    .next ((s.putTicket t.number { t with state := .confirmed }).answered rest tag .ok
      ({ t with state := .confirmed } : Ticket).bytes) := by
  rw [exec_deskHandler_ready rfl hr, ← State.taking_respond (s := s.putTicket _ _) hr.normal]
  simp only [deskHandler, State.doTicketAck, State.taking_ticketNumbered, h, ht]
  rfl

theorem exec_ticketAck_confirmed (ht : t.state = .confirmed) :
    exec .ticketAck s = .next (s.answered rest tag .ok t.bytes) := by
  rw [exec_deskHandler_ready rfl hr, ← State.taking_respond hr.normal]
  simp only [deskHandler, State.doTicketAck, State.taking_ticketNumbered, h, ht]

theorem exec_ticketAck_cleared (ht : t.state = .cleared) :
    exec .ticketAck s = .next (s.answered rest tag .busy t.bytes) := by
  rw [exec_deskHandler_ready rfl hr, ← State.taking_respond hr.normal]
  simp only [deskHandler, State.doTicketAck, State.taking_ticketNumbered, h, ht]

end TicketAck

/-- Settles O57: the entry of the number, if any, and then the row of R174 that its state names. -/
theorem ticketAcknowledged : Obligations.TicketAcknowledged := by
  intro s tag a b extra rest n hr
  refine ⟨fun hnone => exec_ticketAck_missing hr (State.ticketNumbered_none hnone), fun before t after hs hnum hother => ?_⟩
  have hfound : s.ticketNumbered (pair a b) = some t := State.ticketNumbered_among hs hnum hother
  refine ⟨fun ht => ?_, exec_ticketAck_confirmed hr hfound, exec_ticketAck_cleared hr hfound⟩
  rw [exec_ticketAck_opened hr hfound ht, State.putTicket_among hs hnum hother]

end Sys2Proof.Machine

namespace Sys2Proof.Machine

/-! ## O58: TICKET_READ, TICKET_NOTE and TICKET_CLOSE (R175 to R177) -/

/-! ### TICKET_READ -/

theorem State.ticketAfter_none {s : State} {n : Nat} (h : ∀ t ∈ s.tickets.entries, t.number ≤ n) :
    s.ticketAfter n = none := by
  have hnil : (s.tickets.entries.filter fun t => decide (n < t.number)) = [] :=
    List.filter_eq_nil_iff.2 fun t ht => by simpa using h t ht
  rw [State.ticketAfter, hnil]

/-- The entry of the smallest number above `n` is the one found, the numbers being distinct (R176). -/
theorem State.ticketAfter_some {s : State} {n : Nat} {t : Ticket}
    (hd : s.tickets.entries.Pairwise fun t u => t.number ≠ u.number) (ht : t ∈ s.tickets.entries) (habove : n < t.number)
    (hleast : ∀ u ∈ s.tickets.entries, n < u.number → t.number ≤ u.number) : s.ticketAfter n = some t := by
  have hmem : t ∈ s.tickets.entries.filter fun u => decide (n < u.number) := by simp [ht, habove]
  unfold State.ticketAfter
  split
  · next hnil => rw [hnil] at hmem; exact nomatch hmem
  · next u L hL =>
    have hpick : ∀ x y : Ticket, x.lower y = x ∨ x.lower y = y := fun x y => by unfold Ticket.lower; split <;> simp
    have hleft : ∀ x y : Ticket, (x.lower y).number ≤ x.number := fun x y => by unfold Ticket.lower; split <;> omega
    have hright : ∀ x y : Ticket, (x.lower y).number ≤ y.number := fun x y => by unfold Ticket.lower; split <;> omega
    obtain ⟨hfold, hbelow⟩ := foldl_picks_least (R := fun x y => x.number ≤ y.number) le_trans hpick hleft hright L u
    rw [← hL, List.mem_filter, decide_eq_true_iff] at hfold
    obtain ⟨hin, hover⟩ := hfold
    exact congrArg some (ticket_eq_of_number hd hin ht (le_antisymm (hbelow t (hL ▸ hmem)) (hleast _ hin hover)))

section TicketRead

variable {s : State} {tag x a b : Byte} {extra : Bytes} {rest : List Bytes}
  (hr : s.Ready .ticketRead tag (x :: a :: b :: extra) rest)
include hr

theorem exec_ticketRead_bad (h : 1 < x.toNat) : exec .ticketRead s = .next (s.answered rest tag .badParam []) := by
  have h0 : x ≠ 0 := by rintro rfl; simp at h
  have h1 : x ≠ 1 := by rintro rfl; simp at h
  rw [exec_deskHandler_ready rfl hr, ← State.taking_respond hr.normal]
  simp only [deskHandler, State.doTicketRead, if_neg h0, if_neg h1, State.badParam]

theorem exec_ticketRead_exact (hx : x = 0) :
    exec .ticketRead s = .next ((s.taking rest).answerTicket tag (s.ticketNumbered (pair a b))) := by
  subst hx
  rw [exec_deskHandler_ready rfl hr]
  rfl

theorem exec_ticketRead_next (hx : x = 1) :
    exec .ticketRead s = .next ((s.taking rest).answerTicket tag (s.ticketAfter (pair a b))) := by
  subst hx
  rw [exec_deskHandler_ready rfl hr]
  rfl

end TicketRead

theorem State.answerTicket_none {s : State} (hn : s.phase = .normal) (tag : Byte) (rest : List Bytes) :
    (s.taking rest).answerTicket tag none = s.answered rest tag .notFound [] := State.taking_respond hn ..

theorem State.answerTicket_some {s : State} (hn : s.phase = .normal) (tag : Byte) (rest : List Bytes) (t : Ticket) :
    (s.taking rest).answerTicket tag (some t) = s.answered rest tag .ok t.bytes := State.taking_respond hn ..

/-! ### TICKET_NOTE -/

section TicketNote

variable {s : State} {tag a b k : Byte} {ps : Bytes} {rest : List Bytes}
  (hr : s.Ready .ticketNote tag (a :: b :: k :: ps) rest)
include hr

theorem exec_ticketNote_bad (h : 24 < k.toNat ∨ ps.length < k.toNat) :
    exec .ticketNote s = .next (s.answered rest tag .badParam []) := by
  rw [exec_deskHandler_ready rfl hr, ← State.taking_respond hr.normal]
  simp only [deskHandler, State.doTicketNote, if_pos h, State.badParam]

variable (h : ¬ (24 < k.toNat ∨ ps.length < k.toNat))
include h

theorem exec_ticketNote_missing (hf : s.ticketNumbered (pair a b) = none) :
    exec .ticketNote s = .next (s.answered rest tag .notFound []) := by
  rw [exec_deskHandler_ready rfl hr, ← State.taking_respond hr.normal]
  simp only [deskHandler, State.doTicketNote, if_neg h, State.taking_ticketNumbered, hf, State.ticketMissing]

theorem exec_ticketNote_written {t : Ticket} (hf : s.ticketNumbered (pair a b) = some t) : exec .ticketNote s =
    .next ((s.putTicket t.number { t with note := ps.take k.toNat }).answered rest tag .ok
      ({ t with note := ps.take k.toNat } : Ticket).bytes) := by
  rw [exec_deskHandler_ready rfl hr, ← State.taking_respond (s := s.putTicket _ _) hr.normal]
  simp only [deskHandler, State.doTicketNote, if_neg h, State.taking_ticketNumbered, hf]
  rfl

end TicketNote

/-! ### TICKET_CLOSE -/

section CloseTicket

variable (s : State) (t : Ticket)

/-- A close touches the tickets and the lines alone. -/
theorem State.closeTicket_eq : s.closeTicket t = { s with
    lines := (s.closeTicket t).lines
    tickets := { s.tickets with entries := s.tickets.entries.filter fun u => u.number != t.number, armed := true } } := by
  unfold State.closeTicket State.removeTicket
  dsimp only
  split
  all_goals cases t.kind with
  | line | card | bus | head => rfl

theorem State.closeTicket_taking (rest : List Bytes) :
    (s.taking rest).closeTicket t = (s.closeTicket t).taking rest := by
  unfold State.closeTicket State.removeTicket
  dsimp only
  split
  all_goals cases t.kind with
  | line | card | bus | head => rfl

theorem State.closeTicket_line (m : Nat) : (s.closeTicket t).line m =
    if t.cls = .foreignVoltage ∧ m = t.subject then { (s.removeTicket t).line m with hazard := false }
    else (s.removeTicket t).line m := by
  unfold State.closeTicket
  by_cases hc : t.cls = .foreignVoltage
  · by_cases hm : m = t.subject <;> simp [hc, hm]
  · simp [hc]

theorem State.closeTicket_line_subject (hk : t.kind = .line) : (s.closeTicket t).line t.subject = { s.line t.subject with
    ticketCount := (s.line t.subject).ticketCount - 1
    hazard := if t.cls = .foreignVoltage then false else (s.line t.subject).hazard } := by
  rw [State.closeTicket_line, State.removeTicket_line, if_pos (show t.kind = .line ∧ t.subject = t.subject from ⟨hk, rfl⟩)]
  by_cases hc : t.cls = .foreignVoltage <;> simp [hc]

theorem State.closeTicket_line_other {m : Nat} (hm : m ≠ t.subject) : (s.closeTicket t).line m = s.line m := by
  rw [State.closeTicket_line, if_neg fun h => hm h.2, State.removeTicket_line, if_neg fun h => hm h.2]

theorem State.closeTicket_lines (hk : t.kind ≠ .line) (hc : t.cls ≠ .foreignVoltage) :
    (s.closeTicket t).lines = s.lines := by
  unfold State.closeTicket
  rw [if_neg hc]
  cases h : t.kind with
  | line => exact absurd h hk
  | card | bus | head => simp [State.removeTicket, State.countDown, h]

end CloseTicket

section TicketClose

variable {s : State} {tag a b : Byte} {extra : Bytes} {rest : List Bytes}
  (hr : s.Ready .ticketClose tag (a :: b :: extra) rest)
include hr

theorem exec_ticketClose_missing (h : s.ticketNumbered (pair a b) = none) :
    exec .ticketClose s = .next (s.answered rest tag .notFound []) := by
  rw [exec_deskHandler_ready rfl hr, ← State.taking_respond hr.normal]
  simp only [deskHandler, State.doTicketClose, State.taking_ticketNumbered, h, State.ticketMissing]

theorem exec_ticketClose_closed {t : Ticket} (h : s.ticketNumbered (pair a b) = some t) :
    exec .ticketClose s = .next ((s.closeTicket t).answered rest tag .ok t.bytes) := by
  have hn : (s.closeTicket t).phase = .normal := by simpa using hr.normal
  rw [exec_deskHandler_ready rfl hr, ← State.taking_respond hn, ← State.closeTicket_taking]
  simp only [deskHandler, State.doTicketClose, State.taking_ticketNumbered, h]

end TicketClose

/-- Settles O58: each command by the entry that its number finds. -/
theorem ticketCommands : Obligations.TicketCommands := by
  refine ⟨fun s tag x a b extra rest hr => ?read, fun s tag a b k note extra rest hr hlen => ?note,
    fun s tag a b extra rest hr => ?close, fun s tag a b k note rest hr h => exec_ticketNote_bad hr (.inr h)⟩
  case read =>
    refine ⟨exec_ticketRead_bad hr, fun hx hnone => ?_, fun hx hnone => ?_, fun hd t ht =>
      ⟨fun hx hnum => ?_, fun hx habove hleast => ?_⟩⟩
    · rw [exec_ticketRead_exact hr hx, State.ticketNumbered_none (n := pair a b) hnone, State.answerTicket_none hr.normal]
    · rw [exec_ticketRead_next hr hx, State.ticketAfter_none (n := pair a b) hnone, State.answerTicket_none hr.normal]
    · have hfound : s.ticketNumbered (pair a b) = some t := (congrArg _ hnum.symm).trans (State.ticketNumbered_of_mem hd ht)
      rw [exec_ticketRead_exact hr hx, hfound, State.answerTicket_some hr.normal]
    · rw [exec_ticketRead_next hr hx, State.ticketAfter_some (n := pair a b) hd ht habove hleast,
        State.answerTicket_some hr.normal]
  case note =>
    refine ⟨fun hk => exec_ticketNote_bad hr (.inl hk), fun hk => ?_⟩
    have hgood : ¬ (24 < k.toNat ∨ (note ++ extra).length < k.toNat) := by rw [List.length_append]; omega
    have htake : (note ++ extra).take k.toNat = note := List.take_left' hlen
    refine ⟨fun hnone => exec_ticketNote_missing hr hgood (State.ticketNumbered_none hnone),
      fun before t after hs hnum hother => ?_⟩
    have hfound : s.ticketNumbered (pair a b) = some t := State.ticketNumbered_among hs hnum hother
    rw [exec_ticketNote_written hr hgood hfound, htake, State.putTicket_among hs hnum hother]
  case close =>
    refine ⟨fun hnone => exec_ticketClose_missing hr (State.ticketNumbered_none hnone),
      fun before t after hs hnum hother => ?_⟩
    have hfound : s.ticketNumbered (pair a b) = some t := State.ticketNumbered_among hs hnum hother
    refine ⟨_, exec_ticketClose_closed hr hfound, ?_, State.closeTicket_line_subject s t,
      fun m => State.closeTicket_line_other s t, State.closeTicket_lines s t⟩
    have heq := s.closeTicket_eq t
    rw [State.others_among hs hnum hother] at heq
    exact congrArg (fun v => v.answered rest tag .ok t.bytes) heq

end Sys2Proof.Machine

end FaultTickets


/-! PROOFS of the family of the step, the notice queue, SET_PARAM and STATUS, and the canonical form of the stores.

Elaborated one after another, as the sections before. -/

section DeskAndSteps
set_option Elab.async false

namespace Sys2Proof.Machine

/-! ## O1 and O2: a step takes a command, or the part acts by itself (log entries 1 and 5) -/

theorem step_command {c : Instr} {s : State} {rest : List Instr} (h : s.pending = c :: rest) :
    step s = exec c { s with pending := rest } := by
  simp only [step, h]

theorem step_idle {s : State} (h : s.pending = []) : step s = .next s.idle := by
  simp only [step, h]

theorem State.idle_passTime {s : State} (h : s.ownActs = []) : s.idle = s.passTime := by
  simp only [State.idle, h]

/-- Of several acts the free choice picks one, by its remainder among them. -/
theorem State.idle_acts {s : State} (h : s.ownActs ≠ []) :
    ∃ a ∈ s.ownActs, ∃ n, s.idle = { s with pending := [a], choice := n } := by
  match hacts : s.ownActs with
  | [] => exact absurd hacts h
  | [a] => exact ⟨a, List.mem_singleton_self a, s.choice, by simp only [State.idle, hacts]⟩
  | a :: b :: rest =>
    have hless : Config.freeChoice s.choice % (a :: b :: rest).length < (a :: b :: rest).length :=
      Nat.mod_lt _ (Nat.succ_pos _)
    refine ⟨_, List.getElem_mem hless, s.choice + 1, ?_⟩
    simp only [State.idle, hacts, List.getD_eq_getElem _ _ hless]

theorem State.passTime_held {s : State} (h : s.phase = .held) : s.passTime = s := by
  simp only [State.passTime, h]

theorem State.passTime_running {s : State} (h : s.phase ≠ .held) : s.passTime = { s with now := s.now + 1 } := by
  unfold State.passTime
  split
  · contradiction
  · rfl
  · rfl

/-- Settles O1. -/
theorem stepRunsFrontCommand : Obligations.StepRunsFrontCommand := fun _ _ _ => step_command

/-- Settles O2: no act and RSTN low, no act otherwise, an act that can be taken. -/
theorem emptyQueueActsOrWaits : Obligations.EmptyQueueActsOrWaits := by
  refine fun s hempty => ⟨fun hnone hheld => ?_, fun hnone hrun => ?_, fun hacts => ?_⟩
  · rw [step_idle hempty, State.idle_passTime hnone, State.passTime_held hheld]
  · rw [step_idle hempty, State.idle_passTime hnone, State.passTime_running hrun]
  · obtain ⟨a, ha, n, hidle⟩ := State.idle_acts hacts
    exact ⟨a, ha, n, by rw [step_idle hempty, hidle]⟩

end Sys2Proof.Machine

namespace Sys2Proof.Machine

/-! ## O13: the notice queue and the count of lost notices (R181, R182) -/

theorem State.notify_enters {s : State} {k : NoticeKind} {body : Bytes} (h : s.phase ≠ .held)
    (hunsolicited : s.desk.notices.countP Notice.unsolicited < 56)
    (hroom : s.desk.notices.length + s.desk.reservations < 64) :
    s.notify k body = { s with
      desk.notices := s.desk.notices ++ [⟨0, k, 0, body⟩]
      link.portU := s.link.portU.giveSlot true (!s.link.up.isEmpty) false } := by
  rw [State.notify, if_pos ⟨hunsolicited, decide_eq_false (Nat.not_le.2 hroom)⟩, State.placeNotice_running h]

theorem State.notify_lost {s : State} {k : NoticeKind} {body : Bytes}
    (hfull : 56 ≤ s.desk.notices.countP Notice.unsolicited ∨ 64 ≤ s.desk.notices.length + s.desk.reservations) :
    s.notify k body = { s with desk.lost := min 65535 (s.desk.lost + 1) } := by
  have hclosed : ¬ (s.unsolicitedCount < Config.unsolicitedRoom ∧ s.noticesFull = false) := fun ⟨hcount, hopen⟩ =>
    hfull.elim (Nat.not_le.2 hcount) (of_decide_eq_false hopen)
  rw [State.notify, if_neg hclosed, satAdd]

theorem exec_frameLeavesPort_u_own {s : State} (h : s.link.portU.sending = some .own) :
    exec (.frameLeavesPort .u) s = .next s.leaveNotice := by
  simp only [exec, execFrameLeavesPort, h]

theorem Notice.unsolicited_iff (n : Notice) : n.unsolicited = true ↔ n.kind ≠ .response := bne_iff_ne

section LeaveNotice

variable {s : State} {n : Notice} {rest : List Notice} (h : s.phase ≠ .held) (hq : s.desk.notices = n :: rest)
include h hq

/-- The LOST notice is placed, so a notice waits for the slot. -/
theorem State.leaveNotice_reports (hn : n.kind ≠ .response) (hlost : 0 < s.desk.lost) : s.leaveNotice = { s with
    desk.notices := rest ++ [⟨0, .lost, 0, byte2 s.desk.lost⟩]
    desk.lost := 0
    link.portU := s.link.portU.departed.giveSlot true (!s.link.up.isEmpty) false } := by
  have hwaits : (!(rest ++ [lostNotice s.desk.lost]).isEmpty) = true := by simp
  simp only [State.leaveNotice, hq]
  rw [if_pos ⟨n.unsolicited_iff.2 hn, hlost⟩, State.fillU_running (by exact h), hwaits]
  rfl

theorem State.leaveNotice_plain (hn : n.kind = .response ∨ s.desk.lost = 0) : s.leaveNotice = { s with
    desk.notices := rest
    link.portU := s.link.portU.departed.giveSlot (!rest.isEmpty) (!s.link.up.isEmpty) false } := by
  have hplain : ¬ (n.unsolicited = true ∧ 0 < s.desk.lost) := fun ⟨hu, hlost⟩ =>
    hn.elim (n.unsolicited_iff.1 hu) (Nat.ne_of_gt hlost)
  simp only [State.leaveNotice, hq]
  rw [if_neg hplain, State.fillU_running (by exact h)]

end LeaveNotice

/-- Settles O13: a notice offered with room and without, then one that leaves with losses to report and without. -/
theorem noticesAndLostCount : Obligations.NoticesAndLostCount := by
  refine ⟨fun k body s h _ => ⟨State.notify_enters h, State.notify_lost⟩, fun s n rest h hown hq => ?_⟩
  rw [exec_frameLeavesPort_u_own hown]
  exact ⟨fun hn hlost => congrArg _ (State.leaveNotice_reports h hq hn hlost),
    fun hn => congrArg _ (State.leaveNotice_plain h hq hn)⟩

end Sys2Proof.Machine

namespace Sys2Proof.Machine

/-! ## O3: every command answers, and none touches the queue of commands outside -/

theorem answers_next {t : State} {p : State → Prop} (h : p t) : Answers (.next t) p := ⟨t, rfl, h⟩

theorem deskHandler_pending (c : Instr) (tag : Byte) (ps : Bytes) (s : State) :
    (deskHandler c tag ps s).pending = s.pending := by
  cases c <;> simp [deskHandler]

theorem State.onCommand_pending (c : Instr) (s : State) : (s.onCommand c (deskHandler c)).pending = s.pending := by
  obtain he | ⟨f, rest, -, -, -, he⟩ := s.onCommand_cases c (deskHandler c)
  · rw [he]
  · rw [he, deskHandler_pending]; simp

theorem exec_answers (c : Instr) (s : State) : Answers (exec c s) fun t => t.pending = s.pending := by
  by_cases hc : isDeskCommand c = true
  · rw [exec_deskHandler hc]
    exact answers_next (s.onCommand_pending c)
  cases c with
  | coldReset => exact answers_next rfl
  | rstnRelease | bypassEnd =>
    simp only [exec, execRstnRelease, execBypassEnd]
    (repeat' split) <;> exact answers_next (by simp [State.released, State.started])
  | frameArrivesPortU | frameArrivesPortS | creditAnnouncement | frameLeavesPort | sOwnOfferEnters | receptionBrokenOff =>
    simp only [exec, execFrameArrivesPortU, execFrameArrivesPortS, execCreditAnnouncement, execFrameLeavesPort,
      execSOwnOfferEnters, execReceptionBrokenOff]
    (repeat' split) <;> exact answers_next (by simp)
  | holdRecordLapse | flushOffer | auditTimerExpiry | tapConfirmTimerExpiry | releaseConfirmTimerExpiry
  | restartReleaseTimeout | strayReleaseTimerExpiry | lockoutEnd | intervalTimerExpiry | headTimerExpiry =>
    simp only [exec, execHoldRecordLapse, execFlushOffer, execAuditTimerExpiry, execTapConfirmTimerExpiry,
      execReleaseConfirmTimerExpiry, execRestartReleaseTimeout, execStrayReleaseTimerExpiry, execLockoutEnd,
      execIntervalTimerExpiry, execHeadTimerExpiry]
    (repeat' split) <;> exact answers_next (by simp)
  | flapUnitBoundary | minuteCounterAdvance | hourTick =>
    simp only [exec, execFlapUnitBoundary, execMinuteCounterAdvance, execHourTick]
    (repeat' split) <;> exact answers_next (by simp [State.flapBoundary, State.nextMinuteComes])
  | _ => exact absurd rfl hc

/-- Settles O3. -/
theorem commandsAnswerAndKeepQueue : Obligations.CommandsAnswerAndKeepQueue := exec_answers

end Sys2Proof.Machine

namespace Sys2Proof.Machine

/-! ## O59: SET_PARAM and STATUS (R184, R185) -/

/-! ### The table of parameters -/

/-- The ranges of the 14 parameters, in the words of R184. -/
def ParamInRange (k v : Nat) : Prop :=
  (k = 1 ∧ 10 ≤ v ∧ v ≤ 2000) ∨ (k = 2 ∧ 5 ≤ v ∧ v ≤ 255) ∨ (k = 3 ∧ 100 ≤ v ∧ v ≤ 60000) ∨
    (k = 4 ∧ (v = 16 ∨ v = 32)) ∨ (k = 5 ∧ 1 ≤ v ∧ v ≤ 254) ∨ (k = 6 ∧ 2 ≤ v ∧ v ≤ 15) ∨
    (k = 7 ∧ 1 ≤ v ∧ v ≤ 32767) ∨ (k = 8 ∧ 1 ≤ v ∧ v ≤ 4294967295) ∨ (k = 9 ∧ 1 ≤ v ∧ v ≤ 255) ∨
    (k = 10 ∧ 10 ≤ v ∧ v ≤ 500) ∨ (k = 11 ∧ v ≤ 4) ∨ (k = 12 ∧ v ≤ 1) ∨ (k = 13 ∧ v ≤ 1440) ∨ (k = 14 ∧ v ≤ 15)

/-- When a parameter is taken (R184). -/
def paramTaken (k : Nat) : TakenWhen := if k ∈ [1, 2, 7, 8] then .quiet else if k = 3 then .noHeld else .always

/-- The parameters after one of them has been given a value. -/
def Params.given (p : Params) (k v : Nat) : Params where
  tTap := if k = 1 then v else p.tTap
  tHead := if k = 2 then v else p.tHead
  tHold := if k = 3 then v else p.tHold
  flapUnit := if k = 4 then v else p.flapUnit
  flapThreshold := if k = 5 then v else p.flapThreshold
  flapLimit := if k = 6 then v else p.flapLimit
  vprot := if k = 7 then v else p.vprot
  elim := if k = 8 then v else p.elim
  lockout := if k = 9 then v else p.lockout
  umax := if k = 10 then v else p.umax
  concurrency := if k = 11 then v else p.concurrency
  policy := if k = 12 then (if v = 0 then .all else .exceptions) else p.policy
  interval := if k = 13 then v else p.interval
  suspectPlan := if k = 14 then v else p.suspectPlan

theorem paramChange_inRange {k v : Nat} (h : ParamInRange k v) (p : Params) :
    paramChange p k v = some ⟨true, paramTaken k, p.given k v⟩ := by
  obtain ⟨rfl, h⟩ | ⟨rfl, h⟩ | ⟨rfl, h⟩ | ⟨rfl, h⟩ | ⟨rfl, h⟩ | ⟨rfl, h⟩ | ⟨rfl, h⟩ | ⟨rfl, h⟩ | ⟨rfl, h⟩ | ⟨rfl, h⟩ |
    ⟨rfl, h⟩ | ⟨rfl, h⟩ | ⟨rfl, h⟩ | ⟨rfl, h⟩ := h
  all_goals exact congrArg (fun b => some (ParamChange.mk b _ _)) (decide_eq_true h)

theorem paramChange_outOfRange {k v : Nat} (h : ¬ ParamInRange k v) {p : Params} {q : ParamChange}
    (hq : paramChange p k v = some q) : q.allowed = false := by
  unfold paramChange at hq
  split at hq
  case h_15 => cases hq
  all_goals
    cases hq
    exact decide_eq_false fun hin => h (by simp [ParamInRange, hin])

theorem State.allQuiet_iff (s : State) : s.allQuiet = true ↔
    ∀ h, h < 4 → (s.chan h).stage = .idle ∨ (s.chan h).stage = .outOfService := by
  simp [State.allQuiet, mem_allChannels, Stage.quiet_iff]

theorem State.takes_paramTaken (s : State) (k : Nat) : s.takes (paramTaken k) = true ↔
    (k ∈ [1, 2, 7, 8] → ∀ h, h < 4 → (s.chan h).stage = .idle ∨ (s.chan h).stage = .outOfService) ∧
      (k = 3 → s.hold = []) := by
  unfold paramTaken
  split
  · next hk =>
    have hthree : k ≠ 3 := by rintro rfl; simp at hk
    simp [State.takes, s.allQuiet_iff, hk, hthree]
  split
  · next hthree => simp [State.takes, hthree]
  · next hk hthree => simp [State.takes, hk, hthree]

/-! ### SET_PARAM -/

section SetParam

variable {tag n a b c d : Byte} {extra : Bytes}

theorem State.doSetParam_bad (h : ¬ ParamInRange n.toNat (quad a b c d)) (u : State) :
    State.doSetParam tag (n :: a :: b :: c :: d :: extra) u = u.respond tag .badParam [] := by
  cases hq : paramChange u.params n.toNat (quad a b c d) with
  | none => simp only [State.doSetParam, State.badParam, hq]
  | some q => simp [State.doSetParam, State.badParam, hq, paramChange_outOfRange h hq]

theorem State.doSetParam_inRange (h : ParamInRange n.toNat (quad a b c d)) (u : State) :
    State.doSetParam tag (n :: a :: b :: c :: d :: extra) u =
      if u.takes (paramTaken n.toNat) then
        State.respond { u with params := u.params.given n.toNat (quad a b c d) } tag .ok
          (byte1 n.toNat ++ byte4 (quad a b c d))
      else u.respond tag .busy [] := by
  simp only [State.doSetParam, paramChange_inRange h, if_true]

variable {s : State} {rest : List Bytes} (hr : s.Ready .setParam tag (n :: a :: b :: c :: d :: extra) rest)
include hr

theorem exec_setParam_bad (h : ¬ ParamInRange n.toNat (quad a b c d)) :
    exec .setParam s = .next (s.answered rest tag .badParam []) := by
  rw [exec_deskHandler_ready rfl hr, deskHandler, State.doSetParam_bad h, State.taking_respond hr.normal]

variable (h : ParamInRange n.toNat (quad a b c d))
include h

theorem exec_setParam_busy (hbusy : ¬ s.takes (paramTaken n.toNat) = true) :
    exec .setParam s = .next (s.answered rest tag .busy []) := by
  rw [exec_deskHandler_ready rfl hr, deskHandler, State.doSetParam_inRange h, ← State.taking_respond hr.normal]
  exact congrArg _ (if_neg hbusy)

theorem exec_setParam_taken (hfree : s.takes (paramTaken n.toNat) = true) : exec .setParam s =
    .next (({ s with params := s.params.given n.toNat (quad a b c d) } : State).answered rest tag .ok
      (byte1 n.toNat ++ byte4 (quad a b c d))) := by
  rw [exec_deskHandler_ready rfl hr, deskHandler, State.doSetParam_inRange h,
    ← State.taking_respond (s := { s with params := s.params.given n.toNat (quad a b c d) }) hr.normal]
  exact congrArg _ (if_pos hfree)

end SetParam

/-! ### STATUS -/

theorem exec_status {s : State} {tag : Byte} {ps : Bytes} {rest : List Bytes} (hr : s.Ready .status tag ps rest) :
    exec .status s = .next (s.answered rest tag .ok s.statusBody) := by
  rw [exec_deskHandler_ready rfl hr, ← State.taking_respond hr.normal]
  rfl

/-- Settles O59: SET_PARAM out of range, at a wrong time and taken; STATUS; the codes. -/
theorem parametersAndStatus : Obligations.ParametersAndStatus := by
  refine ⟨fun s tag n a b c d extra rest => ?setParam, fun s tag ps rest hr => ⟨?status, rfl⟩, rfl,
    fun _ _ => ⟨rfl, rfl⟩, rfl⟩
  case setParam =>
    intro v k inRange quiet free hr
    exact ⟨exec_setParam_bad hr, fun h hbusy => exec_setParam_busy hr h (mt (s.takes_paramTaken k).1 hbusy),
      fun h hfree => exec_setParam_taken hr h ((s.takes_paramTaken k).2 hfree)⟩
  case status =>
    rw [exec_status hr]
    simp [State.statusBody, allChannels, allBuses, Channel.statusBytes, Bus.statusBytes, State.restartReleases]

end Sys2Proof.Machine

namespace Sys2Proof.Machine

/-! ## O37: the numbered stores stay canonical (log entry 34)

The lines, the steps and the channels are a durable property; the five other stores are written by few acts, which are
walked through below. -/

/-! ### Lines, steps and channels -/

/-- The canonical form of the line, step and channel records. -/
structure State.TestingCanonical (s : State) : Prop where
  lines : Table.wf LineRec.cold s.lines = true
  steps : Table.wf (none : Option StepRec) s.steps = true
  chans : Table.wf Channel.cold s.chans = true

theorem State.removeTicket_wf {s : State} (h : Table.wf LineRec.cold s.lines = true) (t : Ticket) :
    Table.wf LineRec.cold (s.removeTicket t).lines = true := State.countDown_wf (by exact h) ..

theorem State.closeTicket_wf {s : State} (h : Table.wf LineRec.cold s.lines = true) (t : Ticket) :
    Table.wf LineRec.cold (s.closeTicket t).lines = true := by
  unfold State.closeTicket
  dsimp only
  split
  · exact Table.set_wf (State.removeTicket_wf h t) ..
  · exact State.removeTicket_wf h t

namespace State.TestingCanonical

theorem setLine {s : State} (hs : s.TestingCanonical) {l r} : (s.setLine l r).TestingCanonical :=
  { hs with lines := Table.set_wf hs.lines .. }

theorem raise {s : State} (hs : s.TestingCanonical) {k n c e} : (s.raise k n c e).TestingCanonical :=
  ⟨State.raise_wf hs.lines .., by simpa using hs.steps, by simpa using hs.chans⟩

theorem close {s : State} (hs : s.TestingCanonical) {t} : (s.closeTicket t).TestingCanonical :=
  ⟨State.closeTicket_wf hs.lines t, by simpa using hs.steps, by simpa using hs.chans⟩

end State.TestingCanonical

theorem durable_testingCanonical : Durable (fun _ => True) State.TestingCanonical where
  known _ := trivial
  loaded _ _ := trivial
  running _ _ _ _ := trivial
  suspended _ _ _ _ _ := trivial
  frame hs hl _ hst hc _ := ⟨hl ▸ hs.lines, hst ▸ hs.steps, hc ▸ hs.chans⟩
  line hs _ := hs.setLine
  chan hs _ := { hs with chans := Table.set_wf hs.chans .. }
  sweep hs _ := { hs with }
  step hs _ := { hs with steps := Table.set_wf hs.steps .. }
  raise hs _ := hs.raise
  tripped hs := hs.setLine.raise
  put hs _ _ _ _ _ := { hs with }
  close hs _ := hs.close
  unhazard hs _ := hs.setLine
  boundary hs := { hs with lines := Table.mapListed_wf hs.lines _ }
  released hs := { hs with lines := rfl, chans := rfl }
  reset _ := ⟨rfl, rfl, rfl⟩

/-! ### Audits, buses, plans, head records and limits -/

/-- The stores that no line, no step and no channel stands in. -/
abbrev State.shelves (s : State) := (s.audits, s.buses, s.plans, s.cal, s.limits)

/-- The canonical form of the audits, the buses, the plans, the head records and the limits. -/
structure State.ShelvesCanonical (s : State) : Prop where
  audits : Table.wf Audit.cold s.audits = true
  buses : Table.wf Bus.cold s.buses = true
  plans : Table.wf (none : Option Nat) s.plans = true
  cal : Table.wf HeadCal.cold s.cal = true
  limits : Table.wf (0 : Nat) s.limits = true

/-- With no command waiting an act is chosen or time passes; no store is written. -/
theorem State.idle_shelves (s : State) : s.idle.shelves = s.shelves := by
  by_cases hacts : s.ownActs = []
  · rw [State.idle_passTime hacts]
    unfold State.passTime
    split <;> rfl
  · obtain ⟨a, -, n, hidle⟩ := State.idle_acts hacts
    rw [hidle]

namespace State.ShelvesCanonical

section Writes

variable {s : State} (hs : s.ShelvesCanonical) {n : Nat}
include hs

/-! ### Single writes -/

/-- An act that reaches none of the five stores. -/
theorem keep {t : State} (h : t.shelves = s.shelves := by simp) : t.ShelvesCanonical := by
  simp only [Prod.mk.injEq] at h
  obtain ⟨haudits, hbuses, hplans, hcal, hlimits⟩ := h
  exact ⟨haudits ▸ hs.audits, hbuses ▸ hs.buses, hplans ▸ hs.plans, hcal ▸ hs.cal, hlimits ▸ hs.limits⟩

theorem setAudit {c a} : (s.setAudit c a).ShelvesCanonical := { hs with audits := Table.set_wf hs.audits .. }

theorem setBus {b r} : (s.setBus b r).ShelvesCanonical := { hs with buses := Table.set_wf hs.buses .. }

theorem setPlan {p f} : (s.setPlan p f).ShelvesCanonical := { hs with plans := Table.set_wf hs.plans .. }

theorem setHeadCal {h c} : (s.setHeadCal h c).ShelvesCanonical := { hs with cal := Table.set_wf hs.cal .. }

theorem setLimit {p i v} : (s.setLimit p i v).ShelvesCanonical := { hs with limits := Table.set_wf hs.limits .. }

theorem setChan {c} : (s.setChan n c).ShelvesCanonical := hs.keep

theorem setLine {l r} : (s.setLine l r).ShelvesCanonical := hs.keep

theorem setAccess {l a} : (s.setAccess l a).ShelvesCanonical := hs.keep

theorem offer {b t} : (s.offer b t).ShelvesCanonical := hs.keep

theorem raise {k j c e} : (s.raise k j c e).ShelvesCanonical := hs.keep

theorem clear {k j c} : (s.clearTicket k j c).ShelvesCanonical := hs.keep

theorem respond {t r b} : (s.respond t r b).ShelvesCanonical := hs.keep

theorem wantAttempt : s.wantAttempt.ShelvesCanonical := hs.keep

theorem releasePath {l b} : (s.releasePath l b).ShelvesCanonical := hs.keep

theorem leaveRun {b} : (s.leaveRun n b).ShelvesCanonical := hs.keep

theorem failRun {c} : (s.failRun n c).ShelvesCanonical := hs.keep

theorem beginPhase {p} : (s.beginPhase n p).ShelvesCanonical := hs.keep

theorem beginRepetition {r p} : (s.beginRepetition n r p).ShelvesCanonical := hs.keep

theorem beginStep {i p} : (s.beginStep n i p).ShelvesCanonical := hs.keep

theorem endTest : (s.endTest n).ShelvesCanonical := hs.keep

omit hs in
theorem fold {α : Type} {f : State → α → State} (L : List α) {s : State} (hs : s.ShelvesCanonical)
    (hf : ∀ s a, s.ShelvesCanonical → (f s a).ShelvesCanonical) : (L.foldl f s).ShelvesCanonical :=
  List.foldlRecOn L f hs fun s hs a _ => hf s a hs

/-! ### Buses claimed and given up -/

theorem claimAndTap {l b} : (s.claimAndTap n l b).ShelvesCanonical := by
  dsimp only [State.claimAndTap, State.beginTapping]
  exact setBus (offer (setChan (setAccess (setBus hs.setBus))))

theorem startTest {b t o} : (s.startTest n b t o).ShelvesCanonical := claimAndTap hs.setChan

theorem release {l b} : (s.release n l b).ShelvesCanonical := by
  dsimp only [State.release]
  exact setBus (offer (offer (setAccess hs.setChan)))

theorem endByCause {o} : (s.endByCause n o).ShelvesCanonical := by
  dsimp only [State.endByCause]
  split
  · split
    · exact release hs.setChan
    · exact hs
  · exact hs

theorem yieldTrigger {l} : (s.yieldTrigger l).ShelvesCanonical := by
  unfold State.yieldTrigger
  split
  · split
    · exact hs.endByCause
    · exact hs
  · exact hs

/-- Of the orders only a RING_START that is held for a line may end a test (R42). -/
theorem screen {f o} : (s.screen f o).ShelvesCanonical := by
  by_cases ho : o.code ∈ [OrderCode.tapConnect, .tapRelease, .cardAudit]
  · rw [State.screen_relay ho]; exact hs.keep
  by_cases ha : (s.line o.line).access ∈ [Access.free, .stuck]
  · rw [State.screen_open ho ha]; exact hs.keep
  · rw [State.screen_held ho ha]
    have hheld : (s.holdOrder f o.line).ShelvesCanonical := hs.keep
    split
    · exact hheld.yieldTrigger
    · exact hheld

theorem freeClaim {b p} : (s.freeClaim b p).ShelvesCanonical := by
  dsimp only [State.freeClaim]
  split
  · exact wantAttempt hs.setBus
  · exact hs.setBus

theorem finishRelease : (s.finishRelease n).ShelvesCanonical := by
  dsimp only [State.finishRelease]
  split
  · exact hs.endTest
  split
  · split
    · exact claimAndTap hs.setChan
    · exact endTest (releasePath (setChan hs.setChan))
  · split
    · exact endTest (releasePath hs.setChan)
    · exact hs.endTest

theorem completeRelease {b l} : (s.completeRelease n b l).ShelvesCanonical :=
  finishRelease (releasePath (setChan hs.freeClaim))

theorem stickRelay {b l} : (s.stickRelay b l).ShelvesCanonical := releasePath (raise hs.setBus)

theorem timeOutRelease {b l} : (s.timeOutRelease n b l).ShelvesCanonical := finishRelease (stickRelay hs.setChan)

/-! ### Audits and the Sweep Unit -/

theorem requestAudit {c} : (s.requestAudit c).ShelvesCanonical := by
  dsimp only [State.requestAudit]
  split
  · exact hs
  · exact setAudit hs.offer

omit hs in
/-- Of the Sweep Unit's acts the start of a test and an audit reach the five stores. -/
theorem sweepFree : SweepFree State.ShelvesCanonical where
  sweep _ _ hs := hs.keep rfl
  start _ _ _ _ _ _ _ hs := hs.startTest
  write _ _ _ _ hs := hs.keep
  raise _ _ _ _ hs := hs.raise
  clear _ _ hs := hs.clear
  note _ _ _ hs := hs.keep
  audit _ _ hs := hs.requestAudit

theorem settle : s.settle.ShelvesCanonical := sweepFree.settle hs

theorem runPass : s.runPass.ShelvesCanonical := sweepFree.runPass hs

/-! ### Head records -/

theorem assessUsed {t k r} : (s.assessUsed n t k r).ShelvesCanonical := by
  dsimp only [State.assessUsed]
  split
  · exact raise hs.setHeadCal
  · exact hs.setHeadCal

theorem assessHead : (s.assessHead n).ShelvesCanonical := by
  dsimp only [State.assessHead]
  split
  · exact raise hs.setHeadCal
  · exact hs.setHeadCal

theorem tickHour : s.tickHour.ShelvesCanonical :=
  fold _ (fold _ hs fun _ _ hu => hu.setHeadCal) fun _ _ hu => hu.assessHead

theorem finishRun {r v i j t} : (s.finishRun n r v i j t).ShelvesCanonical := by
  have hidle : (s.idleHead n).ShelvesCanonical := hs.keep
  dsimp only [State.finishRun]
  exact respond (leaveRun (clear (clear (clear hidle.setHeadCal))))

theorem phaseDone {w} : (s.phaseDone n w).ShelvesCanonical := by
  have hnext : ∀ r p, ((s.setRun n r).beginPhase n p).ShelvesCanonical := fun _ _ => beginPhase hs.keep
  dsimp only [State.phaseDone]
  split
  · exact hnext _ _
  · exact hnext _ _
  · split
    · exact hs.failRun
    · exact hnext _ _
  · split
    · exact hs.failRun
    · exact hnext _ _
  · split
    · exact hs.failRun
    · split
      · exact hs.finishRun
      · exact hs
  · exact hs

/-! ### The running of a plan and Sample Intake -/

theorem formResult {t r p x} : (s.formResult n t r p x).ShelvesCanonical := by
  dsimp only [State.formResult]
  generalize hu : s.setChan n { s.chan n with test := some { t with results := t.results ++ [x] } } = u
  have hrecorded : u.ShelvesCanonical := hu ▸ hs.setChan
  have htold : (State.resultTickets (if r.notify then u.stepNotice n t p.position x else u) t r x).ShelvesCanonical :=
    hrecorded.keep (by split <;> simp)
  split
  · exact htold.endByCause
  · split
    · exact htold.endByCause
    · exact htold.beginStep

theorem evaluate {t r p w} : (s.evaluate n t r p w).ShelvesCanonical := by
  dsimp only [State.evaluate]
  split
  · exact hs.assessUsed.beginRepetition
  · exact hs.assessUsed.formResult

theorem windowDone {w} : (s.windowDone n w).ShelvesCanonical := by
  dsimp only [State.windowDone]
  split
  · split
    · exact hs.evaluate
    · exact hs
  · exact hs

theorem loss {w p} : (s.loss n w p).ShelvesCanonical := by
  dsimp only [State.loss]
  split
  · split
    · exact failRun hs.setChan
    · exact endByCause hs.setChan
  · exact hs.keep

theorem accumulate {w t p} : (s.accumulate n w t p).ShelvesCanonical := by
  dsimp only [State.accumulate]
  split
  · split
    · exact phaseDone hs.setChan
    · exact windowDone hs.setChan
  · exact hs.setChan

theorem actOnFrame {c t p} : (s.actOnFrame n c t p).ShelvesCanonical := by
  unfold State.actOnFrame
  split
  · exact hs
  split
  · exact hs.keep
  · exact hs.keep
  · exact hs.loss
  · exact hs.accumulate
  · exact hs.loss
  · exact hs

theorem trip : (s.trip n).ShelvesCanonical := by
  dsimp only [State.trip]
  split
  · exact hs
  · exact raise (setLine (endByCause hs.setChan))

theorem takeSample {x} : (s.takeSample x).ShelvesCanonical := by
  dsimp only [State.takeSample, State.handleSample]
  split
  · split
    · exact actOnFrame hs.setChan
    · split
      · exact trip hs.setChan
      · exact actOnFrame hs.setChan
  · exact hs

theorem headSilent : (s.headSilent n).ShelvesCanonical := by
  have hsilent : (State.raise (s.setChan n { s.chan n with headOut := true }) .head n .headSilent none).ShelvesCanonical :=
    raise hs.setChan
  dsimp only [State.headSilent]
  split
  · exact hsilent.failRun
  · exact hsilent.endByCause

/-! ### Relays -/

theorem confirmTap {b l} : (s.confirmTap n b l).ShelvesCanonical := by
  have hmade : ∀ r : Bus, (((s.setBus b r).setAccess l (.tapped n)).setChan n
      { ((s.setBus b r).setAccess l (.tapped n)).chan n with stage := .sourcing }).ShelvesCanonical :=
    fun _ => setChan (setAccess hs.setBus)
  dsimp only [State.confirmTap]
  split
  · exact (hmade _).beginStep
  · exact hmade _

theorem tapMade {l b} : (s.tapMade l b).ShelvesCanonical := by
  dsimp only [State.tapMade]
  split
  · exact hs
  split
  · exact hs
  split
  · split
    · split
      · exact hs.confirmTap
      · exact hs.setBus
    all_goals exact hs.setBus
  · exact setBus (offer hs.raise)

theorem relayDrop {b l} : (s.relayDrop n b l).ShelvesCanonical := endByCause (raise hs.setBus)

theorem strayBroken {l b} : (s.strayBroken l b).ShelvesCanonical := by
  dsimp only [State.strayBroken]
  split
  · split
    · exact hs.setBus
    · exact hs
  · exact hs

theorem tapBroken {l b} : (s.tapBroken l b).ShelvesCanonical := by
  have hstray : (s.strayBroken l b).ShelvesCanonical := hs.strayBroken
  dsimp only [State.tapBroken]
  split
  · exact hs
  split
  · next n _ =>
    have hdrop : (if (s.bus b).confirmed = some l then s.relayDrop n b l else s.strayBroken l b).ShelvesCanonical := by
      split
      · exact hs.relayDrop
      · exact hstray
    split
    · exact hdrop
    · exact hdrop
    · exact hdrop
    · split
      · exact hs.completeRelease
      · exact hstray
    all_goals exact hstray
  · split
    · exact hs.freeClaim.releasePath
    · exact hstray
  · split
    · exact hs.setBus
    · exact hstray
  all_goals exact hstray

theorem strayTimeout {b l} : (s.strayTimeout b l).ShelvesCanonical := raise hs.setBus

/-! ### Highway events -/

theorem loopEvent {l e} : (s.loopEvent l e).ShelvesCanonical := by
  dsimp only [State.loopEvent]
  split
  · exact hs
  split
  · exact hs
  next c counted _ =>
  have hcounted : (if counted then (s.setCondition l c).countedTransition l else s.setCondition l c).ShelvesCanonical := by
    split <;> exact hs.keep
  split
  · exact hcounted.yieldTrigger
  · exact hcounted

theorem cardOk {c} : (s.cardOk c).ShelvesCanonical := requestAudit (clear hs.keep)

theorem cardState {c b} : (s.cardState c b).ShelvesCanonical := by
  dsimp only [State.cardState]
  have hyields : ∀ (L : List Nat) (u : State), u.ShelvesCanonical →
      ((u.inFreeOrder L).1.foldl State.yieldTrigger (u.inFreeOrder L).2).ShelvesCanonical :=
    fun L u hu => fold _ hu.keep fun _ _ hv => hv.yieldTrigger
  split
  · exact setAudit (hyields _ _ hs.keep)
  · exact hyields _ _ hs.keep

theorem readScanEvent {x} : (s.readScanEvent x).ShelvesCanonical := by
  unfold State.readScanEvent
  split
  any_goals exact hs.loopEvent
  · exact hs.tapMade
  · exact hs.tapBroken
  · exact hs.keep
  · exact hs.keep
  · exact hs.cardOk
  · exact hs.cardState

theorem enterUp {f} : (s.enterUp f).ShelvesCanonical := hs.keep

theorem dispatchS {f} : (s.dispatchS f).ShelvesCanonical := by
  unfold State.dispatchS
  split
  · dsimp only [State.dispatchScan]
    split
    · exact hs.readScanEvent
    · exact hs.readScanEvent.enterUp
  · split
    · split
      · exact hs.takeSample
      · exact hs.keep
    · exact hs.keep

theorem dispatchU {f} : (s.dispatchU f).ShelvesCanonical := by
  unfold State.dispatchU
  split
  · exact hs.keep
  split
  · split <;> exact hs.keep
  · split
    · exact hs.screen
    · exact hs.keep

theorem startTied {f} : (s.startTied f).ShelvesCanonical := by
  dsimp only [State.startTied]
  split
  · exact hs
  · exact hs
  · split
    · exact hs.setBus
    · exact hs
  · split
    · split
      · exact hs.setBus
      · exact hs
    · exact hs
  · split
    · exact hs.setAudit
    · exact hs
  · split
    · split <;> exact hs.setChan
    · exact hs

theorem leaveSOwn : s.leaveSOwn.ShelvesCanonical := by
  unfold State.leaveSOwn
  split
  · exact hs
  · next f rest _ =>
    have hleft : State.ShelvesCanonical { s with link.sOwn := rest, link.portS := s.link.portS.departed } := hs.keep rfl
    exact (hleft.startTied (f := f)).keep

/-! ### Desk commands -/

theorem loadLine {e} : (s.loadLine e).ShelvesCanonical := by
  have hloaded : (s.setLine e.line ((s.line e.line).load e)).ShelvesCanonical := hs.keep
  dsimp only [State.loadLine]
  split
  · exact hloaded.requestAudit
  · exact hloaded

theorem doLoadLines {t p} : (State.doLoadLines t p s).ShelvesCanonical := by
  unfold State.doLoadLines
  split
  · dsimp only
    split
    · exact hs.respond
    split
    · exact hs.respond
    split
    · exact hs.respond
    · exact respond (fold _ hs fun _ _ hu => hu.loadLine)
  · exact hs.keep

theorem doLoadBusmap {t p} : (State.doLoadBusmap t p s).ShelvesCanonical := by
  unfold State.doLoadBusmap
  split
  · split
    · exact hs.keep
    split
    · exact respond hs.setBus
    · exact hs.respond
  · exact hs.keep

theorem unstick {b} : (s.unstick b).ShelvesCanonical := by
  dsimp only [State.unstick]
  refine clear (setBus ?_)
  split
  · split
    · exact hs
    · exact hs.keep
  · exact hs

theorem doClearStuck {t p} : (State.doClearStuck t p s).ShelvesCanonical := by
  unfold State.doClearStuck
  split
  · dsimp only
    split
    · exact hs.keep
    split
    · exact respond (settle (wantAttempt (unstick hs.setBus)))
    split
    · exact hs.unstick.respond
    · exact hs.respond
  · exact hs.keep

theorem doLoadPlan {t p} : (State.doLoadPlan t p s).ShelvesCanonical := by
  unfold State.doLoadPlan
  split
  · split
    · exact hs.keep
    dsimp only
    split
    · exact hs.keep
    split
    · exact hs.respond
    · exact hs.setPlan.respond
  · exact hs.keep

theorem setLimits {i L} : (s.setLimits n i L).ShelvesCanonical := by
  induction L generalizing s i with
  | nil => exact hs
  | cons v L ih => exact ih hs.setLimit

theorem doLoadProfile {t p} : (State.doLoadProfile t p s).ShelvesCanonical := by
  unfold State.doLoadProfile
  split
  · dsimp only
    split
    · exact hs.keep
    split
    · exact hs.keep
    · exact hs.setLimits.respond
  · exact hs.keep

theorem doSetCalCoef {t p} : (State.doSetCalCoef t p s).ShelvesCanonical := by
  unfold State.doSetCalCoef
  split
  · split
    · exact hs.keep
    dsimp only
    split
    · exact hs.keep
    · exact hs.setHeadCal.respond
  · exact hs.keep

theorem preempt {t} : (s.preempt n t).ShelvesCanonical := by
  have hpushed : ∀ c, (s.pushContext c).ShelvesCanonical := fun _ => hs.keep
  dsimp only [State.preempt]
  split
  · exact release (setAccess (hpushed _).setChan)
  · exact hs

theorem admitUrgent {u : State} {q h} (hu : s.admitUrgent q = some (h, u)) : u.ShelvesCanonical := by
  unfold State.admitUrgent at hu
  split at hu
  · obtain ⟨b, -, he⟩ := Option.map_eq_some_iff.1 hu
    cases he; exact hs.startTest
  · obtain ⟨b, -, he⟩ := Option.map_eq_some_iff.1 hu
    cases he; exact hs.preempt.settle

theorem doTest {t p} : (State.doTest t p s).ShelvesCanonical := by
  unfold State.doTest
  split
  · exact hs.keep
  split
  · exact hs.respond
  split
  · exact (hs.admitUrgent ‹_›).respond
  · exact hs.respond

theorem doAbort {t p} : (State.doAbort t p s).ShelvesCanonical := by
  have hawaits : ∀ h, (s.awaitAbort h t).ShelvesCanonical := fun _ => hs.keep
  unfold State.doAbort
  split
  · exact hs.keep
  split
  · exact hs.respond
  unfold State.abortOn
  split
  any_goals exact hs.respond
  any_goals exact (hawaits _).endByCause
  exact hs.keep

theorem headBack : (s.headBack n).ShelvesCanonical := hs.keep

theorem doReturnHead {t p} : (State.doReturnHead t p s).ShelvesCanonical := by
  unfold State.doReturnHead
  split
  · split
    · exact hs.keep
    split
    · exact hs.headBack.settle.respond
    · exact hs.respond
  · exact hs.keep

theorem doSweepStart {t p} : (State.doSweepStart t p s).ShelvesCanonical := by
  unfold State.doSweepStart
  split
  · exact hs.runPass.keep
  all_goals exact hs.keep

theorem doSweepResume {t p} : (State.doSweepResume t p s).ShelvesCanonical := by
  have hresumed : s.resume.ShelvesCanonical := by
    unfold State.resume
    split
    · exact hs.runPass
    split
    · exact hs.keep rfl
    all_goals exact settle (hs.keep rfl)
  unfold State.doSweepResume
  split
  · exact hresumed.keep
  all_goals exact hs.keep

theorem doSweepStop {t p} : (State.doSweepStop t p s).ShelvesCanonical := by
  have hdrained : s.drain.settle.ShelvesCanonical := settle hs.keep
  unfold State.doSweepStop
  split
  · exact hs.keep
  · exact hdrained.keep
  · exact hdrained.keep
  · exact hdrained.keep
  · exact hs.keep

theorem doSuspect {t p} : (State.doSuspect t p s).ShelvesCanonical := by
  unfold State.doSuspect
  split
  · dsimp only
    split
    · exact hs.keep
    · split <;> exact respond (settle hs.keep)
  · exact hs.keep

theorem restartChannel : (s.restartChannel n).ShelvesCanonical := by
  have htap : (s.restartTap n).ShelvesCanonical := by
    dsimp only [State.restartTap]
    split
    · exact hs.setChan
    · exact setAccess (setBus (offer (offer hs.setChan)))
  unfold State.restartChannel
  split
  any_goals exact hs
  any_goals exact htap
  · exact hs.keep
  · exact hs.failRun

theorem doRestart {t p} : (State.doRestart t p s).ShelvesCanonical := by
  unfold State.doRestart
  split
  · exact hs.respond
  have hchannels : (State.restartChannels (s.respond t .ok (byte1 s.activeChannels))).ShelvesCanonical :=
    fold _ hs.keep fun _ _ hu => hu.restartChannel
  dsimp only [State.warmRestart]
  exact hchannels.keep

/-- No desk command takes a store out of its canonical form. -/
theorem deskHandler (c : Instr) {tag ps} : (Machine.deskHandler c tag ps s).ShelvesCanonical := by
  cases c with
  | loadLines => exact hs.doLoadLines
  | loadBusmap => exact hs.doLoadBusmap
  | clearStuck => exact hs.doClearStuck
  | loadPlan => exact hs.doLoadPlan
  | test => exact hs.doTest
  | abort => exact hs.doAbort
  | returnHead => exact hs.doReturnHead
  | loadProfile => exact hs.doLoadProfile
  | setCalCoef => exact hs.doSetCalCoef
  | sweepStart => exact hs.doSweepStart (p := ps)
  | sweepStop => exact hs.doSweepStop (p := ps)
  | sweepResume => exact hs.doSweepResume (p := ps)
  | suspect => exact hs.doSuspect
  | restart => exact hs.doRestart (p := ps)
  | _ => exact hs.keep (by simp [Machine.deskHandler])

theorem onCommand (c : Instr) : (s.onCommand c (Machine.deskHandler c)).ShelvesCanonical := by
  obtain he | ⟨f, rest, -, -, -, he⟩ := s.onCommand_cases c (Machine.deskHandler c)
  · rw [he]; exact hs
  · rw [he]; exact deskHandler (hs.keep (t := s.taking rest)) c

end Writes

/-! ### Every command, every step -/

section Steps

variable {s : State} (hs : s.ShelvesCanonical)
include hs

theorem exec_arrivals (f : Bytes) : Answers (exec (.frameArrivesPortU f) s) State.ShelvesCanonical ∧
    Answers (exec (.frameArrivesPortS f) s) State.ShelvesCanonical := by
  simp only [exec, execFrameArrivesPortU, execFrameArrivesPortS]
  constructor
  · split
    · exact answers_next hs
    · exact answers_next hs.keep
    · split
      · exact answers_next hs.dispatchU
      · exact answers_next hs.keep
  · split
    · exact answers_next hs
    · exact answers_next hs.keep
    · split
      · exact answers_next hs.dispatchS.settle
      · exact answers_next hs.keep

theorem exec_departures (port : PortId) : Answers (exec (.frameLeavesPort port) s) State.ShelvesCanonical := by
  simp only [exec, execFrameLeavesPort]
  split
  · split
    · exact answers_next hs
    · exact answers_next hs.keep
    · exact answers_next hs.leaveSOwn
  · split
    · exact answers_next hs
    · exact answers_next hs.keep
    · exact answers_next hs.keep

/-- No command takes one of the five stores out of its canonical form. -/
theorem exec_answers (c : Instr) : Answers (exec c s) State.ShelvesCanonical := by
  by_cases hc : isDeskCommand c = true
  · rw [exec_deskHandler hc]
    exact answers_next (hs.onCommand c)
  cases c with
  | coldReset => exact answers_next (t := { State.reset with pending := s.pending }) ⟨rfl, rfl, rfl, rfl, rfl⟩
  | rstnRelease =>
    simp only [exec, execRstnRelease]
    split
    · exact answers_next (t := s.released) { hs with audits := rfl }
    all_goals exact answers_next hs
  | bypassEnd =>
    simp only [exec, execBypassEnd]
    split
    · split
      · exact answers_next (hs.keep (by simp [State.started]))
      · exact answers_next hs
    all_goals exact answers_next hs
  | frameArrivesPortU f => exact (hs.exec_arrivals f).1
  | frameArrivesPortS f => exact (hs.exec_arrivals f).2
  | creditAnnouncement port n =>
    simp only [exec, execCreditAnnouncement]
    split
    · exact answers_next hs
    all_goals split <;> exact answers_next hs.keep
  | frameLeavesPort port => exact hs.exec_departures port
  | sOwnOfferEnters =>
    simp only [exec, execSOwnOfferEnters]
    split
    · exact answers_next hs
    · split <;> exact answers_next hs.keep
  | holdRecordLapse n =>
    simp only [exec, execHoldRecordLapse]
    split
    · split <;> exact answers_next hs.keep
    · exact answers_next hs
  | flushOffer l => exact answers_next (t := s.flushOn l) hs.keep
  | auditTimerExpiry n =>
    simp only [exec, execAuditTimerExpiry]
    split
    · exact answers_next hs.setAudit
    · exact answers_next hs
  | tapConfirmTimerExpiry b =>
    simp only [exec, execTapConfirmTimerExpiry]
    split
    · split
      · exact answers_next hs.raise.endByCause
      · exact answers_next hs
    · exact answers_next hs
  | releaseConfirmTimerExpiry b =>
    simp only [exec, execReleaseConfirmTimerExpiry]
    split
    · split
      · exact answers_next hs.timeOutRelease.settle
      · exact answers_next hs
    · exact answers_next hs
  | restartReleaseTimeout b =>
    simp only [exec, execRestartReleaseTimeout]
    split
    · split
      · exact answers_next hs.stickRelay
      · exact answers_next hs
    · exact answers_next hs
  | strayReleaseTimerExpiry b =>
    simp only [exec, execStrayReleaseTimerExpiry]
    split
    · split
      · exact answers_next hs.strayTimeout
      · exact answers_next hs
    · exact answers_next hs
  | lockoutEnd b =>
    simp only [exec, execLockoutEnd]
    split
    · split
      · exact answers_next (settle (wantAttempt hs.setBus))
      · exact answers_next hs
    · exact answers_next hs
  | intervalTimerExpiry =>
    simp only [exec, execIntervalTimerExpiry]
    split
    · split
      · exact answers_next hs.runPass
      all_goals exact answers_next (hs.keep rfl)
    · exact answers_next hs
  | headTimerExpiry n =>
    simp only [exec, execHeadTimerExpiry]
    split
    · exact answers_next hs.headSilent.settle
    · exact answers_next hs
  | flapUnitBoundary =>
    simp only [exec, execFlapUnitBoundary]
    split
    · exact answers_next hs
    all_goals split <;> exact answers_next (hs.keep rfl)
  | minuteCounterAdvance =>
    simp only [exec, execMinuteCounterAdvance]
    split
    · exact answers_next hs
    all_goals split <;> exact answers_next (hs.keep rfl)
  | hourTick =>
    simp only [exec, execHourTick]
    split
    · exact answers_next (tickHour (hs.keep rfl))
    · exact answers_next hs
  | receptionBrokenOff port =>
    simp only [exec, execReceptionBrokenOff]
    split <;> exact answers_next hs.keep
  | _ => exact absurd rfl hc

/-- Neither a command nor the part's own waiting does. -/
theorem step_next {t : State} (he : Machine.step s = .next t) : t.ShelvesCanonical := by
  cases hq : s.pending with
  | nil =>
    rw [step_idle hq] at he
    cases he
    exact hs.keep s.idle_shelves
  | cons c rest =>
    rw [step_command hq] at he
    obtain ⟨u, hu, hcanonical⟩ := exec_answers (hs.keep (t := { s with pending := rest }) rfl) c
    cases hu.symm.trans he
    exact hcanonical

end Steps

end State.ShelvesCanonical

theorem State.canonical_iff (s : State) : s.Canonical ↔ s.TestingCanonical ∧ s.ShelvesCanonical :=
  ⟨fun h => ⟨{ h with }, { h with }⟩, fun ⟨htesting, hshelves⟩ => { htesting, hshelves with }⟩

/-- Settles O37: each store is written by `Table.set` and `Table.mapListed` alone, or emptied. -/
theorem stepsKeepStoresCanonical : Obligations.StepsKeepStoresCanonical := by
  intro s t hs he
  obtain ⟨htesting, hshelves⟩ := s.canonical_iff.1 hs
  exact t.canonical_iff.2 ⟨durable_testingCanonical.step_next htesting he, hshelves.step_next he⟩

end Sys2Proof.Machine

end DeskAndSteps
